-- ==== Sys2Proof/Word.lean ====
section
/-! DEFINITION. The word types of the part: bytes of its links, 16-bit frame numbers and memory places, 32-bit tags
and check words, and the twelve notice conditions held as one field (10 Table 10.2, Table 10.9, R189). -/

namespace Sys2Proof

/-- A byte of a link (10 Table 10.9). -/
abbrev Byte := BitVec 8

/-- A 16-bit value: a frame number FN (00 section 0.7.4) or a place of the stacked DRAM (03 section 3.1). -/
abbrev Half := BitVec 16

/-- A 32-bit value: a tag or a CRC-32 (10 Table 10.9). -/
abbrev Word := BitVec 32

/-- The twelve notice conditions or masks, condition i in bit i (10 R189). -/
abbrev NoticeBits := BitVec 12

end Sys2Proof
end

