-- ==== Sys2Proof/Syntax.lean ====
section
/-! DEFINITION. The commands of the part: one constructor per row of spec/opcode_table.json (log 3), with the operands
that come with the event from outside. A message row has no operand of its own: its payload is that of the command in
execution (10 R183). -/

namespace Sys2Proof

/-- The two accumulator banks; an existing cycle is named by the bank bound to it (02 R28). -/
inductive Bank where
  | bankA
  | bankB
  deriving DecidableEq, Repr

/-- What the check of a 64-bit DRAM word finds when it is not clean (03 section 3.6). -/
inductive WordError where
  | single
  | double
  deriving DecidableEq, Repr

/-- An error that has come about in word `word` of the slot that a read is about to check (log 12). -/
structure Upset where
  word : Nat
  error : WordError
  deriving DecidableEq, Repr

/-- The 55 messages of 10 Table 10.8. -/
inductive Message where
  | devIdent | devGeom | devClear
  | snsConfig | snsEnable | snsDisable | snsStatus | snsExclAdd | snsExclDel | snsExclList
  | refWrite | refCommit | refRead
  | cycParam | cycStatus
  | setBegin | setLoad | setErase | setStatus | setSelect | degWrite | degRead
  | loopParam | actWrite | actRead | nbrAdd | nbrClear | nbrRead
  | loopOpen | loopClose | loopHold | loopRelease | loopStop | loopSafe | loopReset | loopStatus
  | drvParam | drvPoke | drvRestart | drvStatus
  | calLoad | calStart | calStop | calStatus | calRead
  | statRead | statClear | peakArm | peakRead | snapArm | snapStatus | snapRead | monSelect
  | ntcMask | ntcPoll
  deriving DecidableEq, Repr

/-- The commands, one per row of the table. -/
inductive Instr where
  /-- A frame's bytes have been received whole on SL`link` (R1, R194). -/
  | sensorFrameArrival (link : Fin 6) (bytes : List Byte)
  /-- The deadline timer of the cycle in `bank` expires (R45). -/
  | deadlineExpiry (bank : Bank)
  /-- A row read of the job in flight ends; `upsets` had come about in the row's words by then (R75, R70, R71). -/
  | jobRowRead (upsets : List Upset)
  | jobCompletion
  | lawCompletion
  /-- HOLDN goes low or returns high (R123). -/
  | holdnChange (low : Bool)
  /-- An acknowledgement's bytes have been received whole on DL`link` (R139, R194). -/
  | acknowledgement (link : Fin 4) (bytes : List Byte)
  | ackTimerExpiry (link : Fin 4)
  | setLoadRowWrite
  | calResponseWrite
  /-- The transfer of a CAL.READ ends; `upsets` had come about in the slot's words by then (R164, R70, R72). -/
  | calReadTransfer (upsets : List Upset)
  | snapCopyEnd
  /-- Bytes arrive on the control link, in order (R181; log 25). -/
  | commandFrameReceived (bytes : List Byte)
  | replySent
  | linkClear
  | shortBreak
  | powerOnReset
  | unknownMessage
  | devIdent
  | devGeom
  | devClear
  | snsConfig
  | snsEnable
  | snsDisable
  | snsStatus
  | snsExclAdd
  | snsExclDel
  | snsExclList
  | refWrite
  | refCommit
  | refRead
  | cycParam
  | cycStatus
  | setBegin
  | setLoad
  | setErase
  | setStatus
  | setSelect
  | degWrite
  | degRead
  | loopParam
  | actWrite
  | actRead
  | nbrAdd
  | nbrClear
  | nbrRead
  | loopOpen
  | loopClose
  | loopHold
  | loopRelease
  | loopStop
  | loopSafe
  | loopReset
  | loopStatus
  | drvParam
  | drvPoke
  | drvRestart
  | drvStatus
  | calLoad
  | calStart
  | calStop
  | calStatus
  | calRead
  | statRead
  | statClear
  | peakArm
  | peakRead
  | snapArm
  | snapStatus
  | snapRead
  | monSelect
  | ntcMask
  | ntcPoll
  /-- The marker and a length field of value `length` arrive (R181; log 25). -/
  | commandLengthAboveLimit (length : Half)
  | lineLeavesBreak
  deriving DecidableEq, Repr

end Sys2Proof
end

