-- ==== Sys2Proof/Config.lean ====
section
/-! DEFINITION. What the part fixes (00 Table 0.3, 10 R191) and the one free value of the model (log 5). -/

namespace Sys2Proof

/-- Actuator places (00 Table 0.3). -/
def Config.maxActuators : Nat := 3072

/-- Entries of a reference page and places of a DRAM slot (01 section 1.4, 03 section 3.1). -/
def Config.slotPlaces : Nat := 2048

/-- The largest payload and the largest reply data, in bytes (10 R181, R196). -/
def Config.maxPayload : Nat := 8192

/-- Every statistics counter saturates here (00 section 0.7.5, 09 R166). -/
def Config.counterMax : Nat := 4294967295

/-- Frames the receive queue holds (10 R182). -/
def Config.receiveQueue : Nat := 4

/-- QUEUE_FULL replies the transmitter may hold at once (10 R185). -/
def Config.queueFullReplies : Nat := 7

/-- Pairs the neighbour list may hold (05 R111). -/
def Config.maxPairs : Nat := 6144

/-- Actuators served by one drive link (07 R135). -/
def Config.linkSpan : Nat := 768

/-- FREE VALUE (log 5): the manual gives the part a clock and no command of it, so what a running timer still shows is
open. The n-th draw; a use of it brings it to at most the value the timer was started with. -/
opaque Config.timeRemaining : Nat → Nat

end Sys2Proof
end

