-- ==== Sys2Proof/Machine/State.lean ====
section
/-! DEFINITION. The state of the part, block by block (00 Table 0.2), as plain data, and its value after power-on reset.
INVENTORY.md lists every field with the rule that names it. -/

namespace Sys2Proof.Machine

/-- The part has no step that stops it (INVENTORY.md, Faults): no constructor. -/
inductive Fault where
  deriving DecidableEq, Repr

/-- Why a command has no meaning in the model. -/
inductive Refusal where
  /-- Raised by exec's arm of a command that has no meaning yet: safe, the run stops there. -/
  | notModelled (mnemonic : String)
  deriving DecidableEq, Repr

/-! ## Intake (01) -/

/-- Sensor states (01 section 1.6). -/
inductive SensorMode where
  | disabled | acquiring | active | lost
  deriving DecidableEq, Repr

/-- Substitution policy (01 Table 1.8). -/
inductive Policy where
  | saved | omit
  deriving DecidableEq, Repr

/-- FX function (01 Table 1.8). -/
inductive FxFunction where
  | none | hold | exclude | dropSaved
  deriving DecidableEq, Repr

/-- The seven configuration fields (01 R23). -/
structure SensorConfig where
  nSub : Nat
  policy : Policy
  kMiss : Nat
  aGood : Nat
  nStale : Nat
  hMax : Nat
  fx : FxFunction
  deriving DecidableEq, Repr

/-- The three in-band flags (01 section 1.7). -/
structure Flags where
  shutter : Bool
  holdreq : Bool
  fx : Bool
  deriving DecidableEq, Repr

/-- A checked frame (01 R6) with the stamp of its arrival (log 24). -/
structure Frame where
  fn : Half
  flags : Flags
  slopes : List Int
  stamp : Nat
  deriving DecidableEq, Repr

/-- The twelve counters of one sensor, in the order of 09 Table 9.2. -/
structure SensorCounters where
  taken : Nat
  contentErrors : Nat
  syntaxErrors : Nat
  ignored : Nat
  lostFrames : Nat
  noMeasurement : Nat
  saturatedCorrection : Nat
  misses : Nat
  excusedMisses : Nat
  staleDeclarations : Nat
  late : Nat
  duplicate : Nat
  deriving DecidableEq, Repr

/-- Intake state of one sensor (01 Table 1.1). -/
structure Sensor where
  config : SensorConfig
  mode : SensorMode
  acquire : Nat
  missCount : Nat
  staleRun : Nat
  copy : Option (List Int)
  queue : List Frame
  pages : Vector (List Int) 2
  activePage : Fin 2
  commitPending : Bool
  exclusion : List Nat
  flags : Flags
  meanSquare : Nat
  counters : SensorCounters
  deriving DecidableEq, Repr

structure Intake where
  sensors : Vector Sensor 6
  arrivals : Nat
  deriving DecidableEq, Repr

/-! ## Cycle controller (02) -/

/-- A set bound or selected: a number 0..3, or NONE (02 Table 2.1). -/
abbrev SetId := Option (Fin 4)

/-- Cycle states (02 Table 2.3). -/
inductive CycleState where
  | accumulating | draining | law
  deriving DecidableEq, Repr

/-- Settlement of an expected sensor (02 Table 2.1). -/
inductive Settlement where
  | unsettled
  | contributed
  | substituted (excused : Bool)
  | omitted (excused : Bool)
  deriving DecidableEq, Repr

/-- Close reasons (02 Table 2.10). -/
inductive CloseReason where
  | complete | settled | deadline | overrun
  deriving DecidableEq, Repr

/-- A cycle record (02 Table 2.1); the timer holds the value it was started with while it runs (log 5). -/
structure Cycle where
  fn : Half
  bank : Bank
  state : CycleState
  set : SetId
  binding : Vector (Fin 2) 6
  expected : Vector Bool 6
  presence : Vector Bool 6
  settlement : Vector Settlement 6
  calMark : Bool
  closeReason : Option CloseReason
  deadline : Option Nat
  outstanding : Nat
  abandoned : Bool
  deriving DecidableEq, Repr

/-- Set selection (03 R62). -/
inductive Selection where
  | auto
  | fixed (n : Fin 4)
  deriving DecidableEq, Repr

/-- Cycle controller state (02 Table 2.2, 09 Table 9.2); reoffer is the model's own (log 7). -/
structure CycleController where
  cycles : List Cycle
  lastClosed : Option Half
  lastOpened : Option Half
  lastSet : Option SetId
  tDl : Nat
  selection : Selection
  degTable : Vector SetId 64
  degraded : Bool
  pendingSubs : Vector Nat 6
  opened : Nat
  closesComplete : Nat
  closesSettled : Nat
  closesDeadline : Nat
  closesOverrun : Nat
  skipped : Nat
  abandonedCount : Nat
  reoffer : Bool
  deriving DecidableEq, Repr

/-! ## Reconstructor memory (03) -/

/-- The stacked DRAM: canonical lists of the places that hold other than 0 and of the words that are not clean (logs 12 to 14). -/
structure Dram where
  data : List (Nat × Half)
  errors : List (Nat × WordError)
  deriving DecidableEq, Repr

/-- Set states (03 Table 3.3). -/
inductive SetState where
  | empty | loading | complete
  deriving DecidableEq, Repr

/-- A set record (03 Table 3.2). -/
structure SetRecord where
  state : SetState
  participation : List (Fin 6 × Nat)
  shift : Nat
  marks : Vector (List Nat) 6
  rowsLoaded : Nat
  rowsRequired : Nat
  errCount : Nat
  errLoc : Option (Fin 6 × Nat)
  deriving DecidableEq, Repr

/-- The two clients that wait for the DRAM behind the jobs (03 Table 3.5). -/
inductive Client where
  | controlLink | calibration
  deriving DecidableEq, Repr

/-- A granted transfer (03 R67). A calibration write carries what it writes; `live` is no once its run has ended (08 R161). -/
inductive Transfer where
  | jobRow
  | loadRow
  | calRead
  | calWrite (entry : Nat) (sensor : Fin 6) (responses : List Int) (live : Bool)
  deriving DecidableEq, Repr

structure Arbiter where
  current : Option Transfer
  waiting : List Client
  deriving DecidableEq, Repr

structure Memory where
  dram : Dram
  sets : Vector SetRecord 4
  nAct : Nat
  arbiter : Arbiter
  correctedErrors : Nat
  uncorrectableErrors : Nat
  deriving DecidableEq, Repr

/-! ## Reconstruction unit (04) -/

/-- The two kinds of job; a contribution job carries the corrected slopes (04 Table 4.1). -/
inductive JobKind where
  | contribution (slopes : List Int)
  | substitution
  deriving DecidableEq, Repr

/-- A job names its cycle (by its bank) and its sensor (04 Table 4.1). -/
structure Job where
  kind : JobKind
  bank : Bank
  sensor : Fin 6
  deriving DecidableEq, Repr

/-- The job in flight with what it began with (04 R75, R88). -/
structure Flight where
  job : Job
  orphan : Bool
  set : SetId
  nSub : Nat
  nAct : Nat
  nextRow : Nat
  deriving DecidableEq, Repr

/-- A saved contribution (04 Table 4.2). -/
structure Saved where
  valid : Bool
  setTag : Fin 4
  fnTag : Half
  useCount : Nat
  vector : List Int
  deriving DecidableEq, Repr

structure Reconstruction where
  queue : List Job
  inFlight : Option Flight
  buffer : List Int
  bankA : List Int
  bankB : List Int
  saved : Vector Saved 6
  deriving DecidableEq, Repr

/-! ## Law unit (05) -/

/-- Actuator modes (05 Table 5.2). -/
inductive ActMode where
  | normal | frozen | dead
  deriving DecidableEq, Repr

/-- An actuator record (05 Table 5.2). -/
structure ActRecord where
  lo : Int
  hi : Int
  flat : Int
  gain : Nat
  mode : ActMode
  deriving DecidableEq, Repr

inductive GainSource where
  | global | individual
  deriving DecidableEq, Repr

/-- Modes of a law (05 Table 5.3). -/
inductive LawMode where
  | normal | held | opened
  deriving DecidableEq, Repr

/-- The law in progress (05 R90, R93): what it began with and what it has formed (log 17). -/
structure LawRun where
  fn : Half
  bank : Bank
  set : SetId
  mode : LawMode
  superseded : Bool
  gain : Nat
  leak : Nat
  gainSource : GainSource
  dMax : Nat
  residual : List Int
  q : Nat
  satFlags : List Bool
  adjustments : Nat
  violations : Nat
  deriving DecidableEq, Repr

structure LawUnit where
  z : List Int
  scratch : List Int
  residual : List Int
  inProgress : Option LawRun
  committed : List Int
  idlePokes : List (Nat × Int)
  calPoke : Option (Nat × Int)
  actuators : List ActRecord
  neighbours : List (Nat × Nat)
  satFlags : List Bool
  satCount : Nat
  adjustments : Nat
  violations : Nat
  lastQ : Nat
  lastApplied : Option Half
  deferred : Option (Nat × List ActRecord)
  lawsApplied : Nat
  adjustTotal : Nat
  violationTotal : Nat
  deriving DecidableEq, Repr

/-! ## Loop supervisor (06) -/

/-- Loop states (06 R115). -/
inductive LoopState where
  | idle | opened | closed | held | safe
  deriving DecidableEq, Repr

inductive HoldTiming where
  | atBoundary | immediate
  deriving DecidableEq, Repr

inductive Exclusivity where
  | shared | commandOnly
  deriving DecidableEq, Repr

/-- The nine loop parameters (06 Table 6.6). -/
structure LoopParams where
  gGlob : Nat
  leak : Nat
  gainSource : GainSource
  dMax : Nat
  timing : HoldTiming
  exclusivity : Exclusivity
  flagGate : Bool
  rDiv : Nat
  nDiv : Nat
  deriving DecidableEq, Repr

structure LoopSupervisor where
  state : LoopState
  command : Bool
  diverge : Bool
  holdnLow : Bool
  inband : Bool
  runCount : Nat
  params : LoopParams
  deriving DecidableEq, Repr

/-! ## Drive outputs (07) -/

/-- Link states (07 Table 7.2). -/
inductive LinkState where
  | unused | idle | busy | failed
  deriving DecidableEq, Repr

/-- Per-link state (07 Table 7.1); `waiting` is the pending flag, `timer` holds the value the timer was started with. -/
structure DriveLink where
  state : LinkState
  seq : Byte
  lastAccepted : Option Byte
  waiting : Bool
  upToDate : Bool
  failCount : Nat
  timer : Option Nat
  inTransit : List Byte
  frames : Nat
  failures : Nat
  late : Nat
  superseded : Nat
  deriving DecidableEq, Repr

structure DriveOutputs where
  links : Vector DriveLink 4
  tAck : Nat
  fMax : Nat
  deriving DecidableEq, Repr

/-! ## Poke calibration unit (08) -/

inductive EndReason where
  | done | stopped | missing | loop | cleared
  deriving DecidableEq, Repr

inductive Phase where
  | push | pull | storing
  deriving DecidableEq, Repr

/-- What a tally holds for one sensor (08 R154). -/
inductive TallyEntry where
  | nothing
  | miss
  | slopes (e : List Int)
  deriving DecidableEq, Repr

/-- The tally of one cycle (08 R153). -/
structure Tally where
  bank : Bank
  serial : Nat
  entries : Vector TallyEntry 6
  deriving DecidableEq, Repr

/-- A response record (08 Table 8.2). -/
structure ResponseRecord where
  complete : Bool
  actuator : Nat
  amplitude : Nat
  pushOut : Option Int
  pullOut : Option Int
  voidsPush : Nat
  voidsPull : Nat
  restartsPush : Nat
  restartsPull : Nat
  deriving DecidableEq, Repr

structure Calibration where
  pokeList : List (Nat × Nat)
  running : Bool
  endReason : Option EndReason
  nS : Nat
  nM : Nat
  sensors : List (Fin 6 × Nat)
  entry : Nat
  phase : Option Phase
  serial : Nat
  settle : Nat
  measure : Nat
  voids : Nat
  push : Vector (List Int) 6
  pull : Vector (List Int) 6
  tallies : List Tally
  records : List ResponseRecord
  storing : List (Fin 6)
  deriving DecidableEq, Repr

/-! ## Monitor unit (09) -/

/-- A peak record (09 R171). -/
structure PeakRecord where
  sensor : Fin 6
  subaperture : Nat
  axisY : Bool
  value : Int
  deriving DecidableEq, Repr

inductive SnapState where
  | empty | armed | filling | full
  deriving DecidableEq, Repr

inductive SnapTrigger where
  | next | onHold | onSaturation
  deriving DecidableEq, Repr

/-- The twelve monitor sources (09 Table 9.8). -/
inductive MonSource where
  | loopClosed | loopHeld | loopSafe | cycleOpen | lawActive | sensorLost
  | saturated | driveBusy | deadlineClose | snapFull | calRunning | notify
  deriving DecidableEq, Repr

/-- The selection of one monitor line (09 R180). -/
structure MonLine where
  source : MonSource
  activeHigh : Bool
  deriving DecidableEq, Repr

structure Monitor where
  bufA : Vector (Option (List Int)) 6
  bufB : Vector (Option (List Int)) 6
  peakArmed : Bool
  peakFn : Option Half
  peaks : List PeakRecord
  snapState : SnapState
  snapTrigger : SnapTrigger
  snapThreshold : Nat
  snapSelection : Nat
  onsetSeen : Bool
  snapContent : List Int
  snapFn : Half
  line0 : MonLine
  line1 : MonLine
  deadlineClose : Bool
  deriving DecidableEq, Repr

/-! ## Control link interface (10) -/

/-- The receiver (10 R181, R186); `receiving` holds the bytes after the start marker. -/
inductive Receiver where
  | hunting (sawFirst : Bool)
  | receiving (got : List Byte)
  | inBreak
  deriving DecidableEq, Repr

/-- A checked command frame (10 Table 10.9). -/
structure CommandFrame where
  name : List Byte
  tag : Word
  payload : List Byte
  deriving DecidableEq, Repr

/-- How far the command in execution has come (10 R183). -/
inductive Progress where
  /-- The owning block has yet to act. -/
  | taken
  /-- SET.LOAD: the rows still to be written from `row` onward (03 R59). -/
  | loading (set : Fin 4) (sensor : Fin 6) (row : Nat) (rows : List (List Int))
  /-- CAL.READ: the transfer asked for (08 R164). -/
  | reading (entry : Nat) (sensor : Fin 6) (first count : Nat)
  /-- ACT.WRITE deferred behind a law (05 R109). -/
  | deferred
  deriving DecidableEq, Repr

/-- The command in execution; `noReply` is set by a link clear (10 R186). -/
structure Execution where
  frame : CommandFrame
  noReply : Bool
  progress : Progress
  deriving DecidableEq, Repr

/-- Reply statuses (00 Table 0.8), in the order of their codes (10 Table 10.10). -/
inductive Status where
  | done | clamped | busy | wrongState | badValue | badForm | unknown | full | inUse | notReady | queueFull
  deriving DecidableEq, Repr

/-- A field of a reply with its width and sign (10 Table 10.2). -/
inductive Field where
  | u16 (n : Nat)
  | s16 (i : Int)
  | u32 (n : Nat)
  | s32 (i : Int)
  | u64 (n : Nat)
  deriving DecidableEq, Repr

/-- A formed reply (10 R185, R196). -/
structure Reply where
  name : List Byte
  tag : Word
  status : Status
  data : List Field
  deriving DecidableEq, Repr

structure ControlLink where
  receiver : Receiver
  queue : List CommandFrame
  executing : Option Execution
  transmitter : List Reply
  notices : NoticeBits
  masks : NoticeBits
  dropped : Nat
  lastSent : List Byte
  deriving DecidableEq, Repr

/-- The twelve notice conditions, in the order of their indices (10 Table 10.4). -/
inductive Notice where
  | sensorState | loopState | holdChange | inbandChange | setReady | memoryError
  | driveFail | diverge | snapFull | calEnd | peakReady | linkError
  deriving DecidableEq, Repr

/-- The five hold sources (06 Table 6.5). -/
structure HoldSet where
  command : Bool
  pin : Bool
  inband : Bool
  degraded : Bool
  diverge : Bool
  deriving DecidableEq, Repr

/-! ## The whole part -/

/-- The state of the part; `pending` and `freeCount` are the model's own (logs 3 and 5). -/
structure State where
  pending : List Instr
  intake : Intake
  cyc : CycleController
  mem : Memory
  recon : Reconstruction
  law : LawUnit
  loop : LoopSupervisor
  drive : DriveOutputs
  cal : Calibration
  mon : Monitor
  link : ControlLink
  freeCount : Nat
  deriving DecidableEq, Repr

/-! ## Power-on reset -/

def Flags.clear : Flags := { shutter := false, holdreq := false, fx := false }

def SensorCounters.zero : SensorCounters :=
  { taken := 0, contentErrors := 0, syntaxErrors := 0, ignored := 0, lostFrames := 0, noMeasurement := 0,
    saturatedCorrection := 0, misses := 0, excusedMisses := 0, staleDeclarations := 0, late := 0, duplicate := 0 }

/-- 01 Table 1.9 (R26). -/
def Sensor.reset : Sensor :=
  { config := { nSub := 0, policy := .omit, kMiss := 3, aGood := 8, nStale := 0, hMax := 2, fx := .none },
    mode := .disabled, acquire := 0, missCount := 0, staleRun := 0, copy := none, queue := [],
    pages := Vector.replicate 2 (List.replicate Config.slotPlaces 0), activePage := 0, commitPending := false,
    exclusion := [], flags := Flags.clear, meanSquare := 0, counters := SensorCounters.zero }

/-- 02 Table 2.12 (R53). -/
def CycleController.reset : CycleController :=
  { cycles := [], lastClosed := none, lastOpened := none, lastSet := none, tDl := 1000, selection := .auto,
    degTable := Vector.replicate 64 none, degraded := false, pendingSubs := Vector.replicate 6 0,
    opened := 0, closesComplete := 0, closesSettled := 0, closesDeadline := 0, closesOverrun := 0,
    skipped := 0, abandonedCount := 0, reoffer := false }

/-- A set in EMPTY (03 R54). -/
def SetRecord.erased : SetRecord :=
  { state := .empty, participation := [], shift := 0, marks := Vector.replicate 6 [], rowsLoaded := 0,
    rowsRequired := 0, errCount := 0, errLoc := none }

/-- 03 Table 3.6 (R73). DESIGN CHOICE, unsafe: the DRAM reads 0 and is clean (logs 12, 13). -/
def Memory.reset : Memory :=
  { dram := { data := [], errors := [] }, sets := Vector.replicate 4 SetRecord.erased, nAct := 0,
    arbiter := { current := none, waiting := [] }, correctedErrors := 0, uncorrectableErrors := 0 }

def Saved.reset : Saved := { valid := false, setTag := 0, fnTag := 0, useCount := 0, vector := [] }

/-- A vector of 3,072 zeros. -/
def zeroVector : List Int := List.replicate Config.maxActuators 0

/-- 04 Table 4.6 (R89). DESIGN CHOICE, unsafe: the buffer and the saved vectors are 0 (log 22). -/
def Reconstruction.reset : Reconstruction :=
  { queue := [], inFlight := none, buffer := zeroVector, bankA := zeroVector, bankB := zeroVector,
    saved := Vector.replicate 6 Saved.reset }

/-- 05 Table 5.8. -/
def ActRecord.reset : ActRecord := { lo := -32768, hi := 32767, flat := 0, gain := 16384, mode := .normal }

/-- 05 Table 5.8 (R113). DESIGN CHOICE, unsafe: the scratch vector is 0 (log 22). -/
def LawUnit.reset : LawUnit :=
  { z := zeroVector, scratch := zeroVector, residual := zeroVector, inProgress := none, committed := [],
    idlePokes := [], calPoke := none, actuators := List.replicate Config.maxActuators ActRecord.reset,
    neighbours := [], satFlags := List.replicate Config.maxActuators false, satCount := 0, adjustments := 0,
    violations := 0, lastQ := 0, lastApplied := none, deferred := none, lawsApplied := 0, adjustTotal := 0,
    violationTotal := 0 }

/-- 06 Table 6.6, power-on values. -/
def LoopParams.reset : LoopParams :=
  { gGlob := 0, leak := 32768, gainSource := .global, dMax := 0, timing := .atBoundary, exclusivity := .shared,
    flagGate := true, rDiv := 0, nDiv := 5 }

/-- 06 Table 6.7 (R134), with HOLDN high (log 23). -/
def LoopSupervisor.reset : LoopSupervisor :=
  { state := .idle, command := false, diverge := false, holdnLow := false, inband := false, runCount := 0,
    params := LoopParams.reset }

/-- 07 Table 7.9 (R149). -/
def DriveLink.reset : DriveLink :=
  { state := .unused, seq := 0, lastAccepted := none, waiting := false, upToDate := false, failCount := 0,
    timer := none, inTransit := [], frames := 0, failures := 0, late := 0, superseded := 0 }

/-- 08 Table 8.5 (R165). -/
def Calibration.reset : Calibration :=
  { pokeList := [], running := false, endReason := none, nS := 0, nM := 1, sensors := [], entry := 0, phase := none,
    serial := 0, settle := 0, measure := 0, voids := 0, push := Vector.replicate 6 [], pull := Vector.replicate 6 [],
    tallies := [], records := [], storing := [] }

/-- 09 R169, R172, R178, R180. -/
def Monitor.reset : Monitor :=
  { bufA := Vector.replicate 6 none, bufB := Vector.replicate 6 none, peakArmed := false, peakFn := none, peaks := [],
    snapState := .empty, snapTrigger := .next, snapThreshold := 1, snapSelection := 7, onsetSeen := false,
    snapContent := [], snapFn := 0, line0 := { source := .loopClosed, activeHigh := true },
    line1 := { source := .loopHeld, activeHigh := true }, deadlineClose := false }

/-- 10 Table 10.5 (R193). -/
def ControlLink.reset : ControlLink :=
  { receiver := .hunting false, queue := [], executing := none, transmitter := [], notices := 0,
    masks := BitVec.allOnes 12, dropped := 0, lastSent := [] }

/-- The part after power-on reset, with HOLDN high and no command waiting. -/
def State.reset : State :=
  { pending := [], intake := { sensors := Vector.replicate 6 Sensor.reset, arrivals := 0 },
    cyc := CycleController.reset, mem := Memory.reset, recon := Reconstruction.reset, law := LawUnit.reset,
    loop := LoopSupervisor.reset,
    drive := { links := Vector.replicate 4 DriveLink.reset, tAck := 200, fMax := 3 },
    cal := Calibration.reset, mon := Monitor.reset, link := ControlLink.reset, freeCount := 0 }

end Sys2Proof.Machine
end

