-- ==== Sys2Proof/Machine/Arith.lean ====
section
/-! DEFINITION. The arithmetic of the part: rounding, saturation, frame number order, vectors of numbers, byte order and
the CRC-32. -/

namespace Sys2Proof.Machine

/-! ## Numbers -/

/-- `x` brought into lo..hi. -/
def clampInt (lo hi x : Int) : Int := if x < lo then lo else if hi < x then hi else x

/-- `x` brought into lo..hi, for a numeric parameter (00 section 0.7.7). -/
def clampNat (lo hi x : Nat) : Nat := if x < lo then lo else if hi < x then hi else x

/-- Round half up on division by 2^k (00 section 0.7.3). -/
def roundHalfUp (x : Int) (k : Nat) : Int := if k = 0 then x else (x + 2 ^ (k - 1)) / 2 ^ k

/-- Round half up on division by 2·m (08 R159). -/
def roundHalfUpTwice (x : Int) (m : Nat) : Int := (x + m) / (2 * m)

/-- A statistics counter increased by n (09 R166). -/
def counterAdd (c n : Nat) : Nat := if c + n ≤ Config.counterMax then c + n else Config.counterMax

/-- A statistics counter increased by one (09 R166). -/
def counterInc (c : Nat) : Nat := counterAdd c 1

/-- A count saturating at 255 (01 R16, R17). -/
def countInc255 (c : Nat) : Nat := if c < 255 then c + 1 else 255

/-- FN a is newer than FN b (00 Table 0.7). -/
def fnNewer (a b : Half) : Bool := decide (1 ≤ (a - b).toNat) && decide ((a - b).toNat ≤ 32767)

/-- Frame numbers strictly between two openings (02 R36, step 8); between equal ones there are none, where the rule's formula
would be one less than 0 (log 31). -/
def fnSkipped (last new : Half) : Nat := (new - last).toNat - 1

/-! ## Vectors -/

/-- Entry i of a vector; an entry that is not held reads 0. -/
def vget (v : List Int) (i : Nat) : Int := v.getD i 0

/-- A vector with entry i replaced. -/
def vput : List Int → Nat → Int → List Int
  | [], 0, x => [x]
  | [], i + 1, x => 0 :: vput [] i x
  | _ :: v, 0, x => x :: v
  | y :: v, i + 1, x => y :: vput v i x

/-- Entries below n given by f, the others kept. -/
def vfill (n : Nat) (f : Nat → Int) (v : List Int) : List Int := (List.range n).map f ++ v.drop n

/-- The sum of two vectors on the entries below n, the others kept. -/
def vaddBelow (n : Nat) (v w : List Int) : List Int := vfill n (fun i => vget v i + vget w i) v

/-- Entries first..first + length - 1 replaced by `values`. -/
def vwrite (v : List Int) (first : Nat) (values : List Int) : List Int :=
  v.take first ++ values ++ v.drop (first + values.length)

/-- Entries first..first + count - 1. -/
def vslice (v : List Int) (first count : Nat) : List Int := (List.range count).map fun i => vget v (first + i)

/-- Every sum has as many entries as the longer of the two (08 R155). -/
def vaddAll (v w : List Int) : List Int := (List.range (max v.length w.length)).map fun i => vget v i + vget w i

/-- The sum of the products of two vectors over the entries of the second (04 R74). -/
def dot (v w : List Int) : Int := ((List.range w.length).map fun j => vget v j * vget w j).sum

/-- Insert into a rising list without repeats (01 R14, 03 R59). -/
def insertRising (x : Nat) : List Nat → List Nat
  | [] => [x]
  | y :: l => if x < y then x :: y :: l else if x = y then y :: l else y :: insertRising x l

/-- Keep the first of equal entries. -/
def distinct {α : Type} [DecidableEq α] : List α → List α
  | [] => []
  | x :: l => x :: (distinct l).filter (fun y => decide (y ≠ x))

/-- The six sensors in ascending order. -/
def allSensors : List (Fin 6) := [0, 1, 2, 3, 4, 5]

/-- The four drive links in ascending order. -/
def allLinks : List (Fin 4) := [0, 1, 2, 3]

/-- A field of marks as a number, sensor s contributing 2^s (02 R37). -/
def sensorMask (v : Vector Bool 6) : Nat := (allSensors.map fun i => if v[i] then 2 ^ i.val else 0).sum

/-! ## Bytes, most significant first (10 section 10.9) -/

def byteAt (p : List Byte) (i : Nat) : Nat := (p.getD i 0).toNat

/-- The unsigned 16-bit field at byte i. -/
def rd16 (p : List Byte) (i : Nat) : Nat := byteAt p i * 256 + byteAt p (i + 1)

/-- The signed 16-bit field at byte i. -/
def rdS16 (p : List Byte) (i : Nat) : Int := (BitVec.ofNat 16 (rd16 p i)).toInt

/-- The unsigned 32-bit field at byte i. -/
def rd32 (p : List Byte) (i : Nat) : Nat := rd16 p i * 65536 + rd16 p (i + 2)

/-- n unsigned 16-bit fields from byte i onward. -/
def rd16s (p : List Byte) (i n : Nat) : List Nat := (List.range n).map fun k => rd16 p (i + 2 * k)

/-- n signed 16-bit fields from byte i onward. -/
def rdS16s (p : List Byte) (i n : Nat) : List Int := (List.range n).map fun k => rdS16 p (i + 2 * k)

/-- The low n bytes of x, most significant first. -/
def beBytes (n x : Nat) : List Byte := ((List.range n).map fun k => BitVec.ofNat 8 (x / 256 ^ k)).reverse

/-- The low n bytes of a signed value in two's complement, most significant first. -/
def beBytesInt (n : Nat) (x : Int) : List Byte := beBytes n (x % 256 ^ n).toNat

/-! ## CRC-32 (10 R195) -/

/-- The generator polynomial 0x04C11DB7 with its places reflected. -/
def crcPoly : Word := 0xEDB88320#32

/-- One bit of the remainder register, least significant place first. -/
def crcBit (c : Word) : Word := if c.getLsbD 0 then (c >>> 1) ^^^ crcPoly else c >>> 1

/-- One byte, its least significant bit first. -/
def crcByte (c : Word) (b : Byte) : Word :=
  crcBit (crcBit (crcBit (crcBit (crcBit (crcBit (crcBit (crcBit (c ^^^ b.setWidth 32))))))))

/-- The CRC-32 of a run of bytes: from all ones, inverted at the end. -/
def crc32 (bytes : List Byte) : Word := ~~~ (bytes.foldl crcByte 0xFFFFFFFF#32)

end Sys2Proof.Machine
end

