-- ==== Sys2Proof/Machine/Operands.lean ====
section
/-! DEFINITION. The operands of the commands: message names and payload fields (10 R183, R184), sensor frames,
acknowledgements and command frames (10 Table 10.9), and the reply and drive frames the part sends (10 R195, R196). -/

namespace Sys2Proof.Machine

/-! ## Message names (10 Table 10.8) -/

/-- A name's characters; SNS.EXCL.LIST is sent as its first twelve (10 section 10.8). -/
def messageChars : Message → List Char
  | .devIdent => ['D', 'E', 'V', '.', 'I', 'D', 'E', 'N', 'T']
  | .devGeom => ['D', 'E', 'V', '.', 'G', 'E', 'O', 'M']
  | .devClear => ['D', 'E', 'V', '.', 'C', 'L', 'E', 'A', 'R']
  | .snsConfig => ['S', 'N', 'S', '.', 'C', 'O', 'N', 'F', 'I', 'G']
  | .snsEnable => ['S', 'N', 'S', '.', 'E', 'N', 'A', 'B', 'L', 'E']
  | .snsDisable => ['S', 'N', 'S', '.', 'D', 'I', 'S', 'A', 'B', 'L', 'E']
  | .snsStatus => ['S', 'N', 'S', '.', 'S', 'T', 'A', 'T', 'U', 'S']
  | .snsExclAdd => ['S', 'N', 'S', '.', 'E', 'X', 'C', 'L', '.', 'A', 'D', 'D']
  | .snsExclDel => ['S', 'N', 'S', '.', 'E', 'X', 'C', 'L', '.', 'D', 'E', 'L']
  | .snsExclList => ['S', 'N', 'S', '.', 'E', 'X', 'C', 'L', '.', 'L', 'I', 'S']
  | .refWrite => ['R', 'E', 'F', '.', 'W', 'R', 'I', 'T', 'E']
  | .refCommit => ['R', 'E', 'F', '.', 'C', 'O', 'M', 'M', 'I', 'T']
  | .refRead => ['R', 'E', 'F', '.', 'R', 'E', 'A', 'D']
  | .cycParam => ['C', 'Y', 'C', '.', 'P', 'A', 'R', 'A', 'M']
  | .cycStatus => ['C', 'Y', 'C', '.', 'S', 'T', 'A', 'T', 'U', 'S']
  | .setBegin => ['S', 'E', 'T', '.', 'B', 'E', 'G', 'I', 'N']
  | .setLoad => ['S', 'E', 'T', '.', 'L', 'O', 'A', 'D']
  | .setErase => ['S', 'E', 'T', '.', 'E', 'R', 'A', 'S', 'E']
  | .setStatus => ['S', 'E', 'T', '.', 'S', 'T', 'A', 'T', 'U', 'S']
  | .setSelect => ['S', 'E', 'T', '.', 'S', 'E', 'L', 'E', 'C', 'T']
  | .degWrite => ['D', 'E', 'G', '.', 'W', 'R', 'I', 'T', 'E']
  | .degRead => ['D', 'E', 'G', '.', 'R', 'E', 'A', 'D']
  | .loopParam => ['L', 'O', 'O', 'P', '.', 'P', 'A', 'R', 'A', 'M']
  | .actWrite => ['A', 'C', 'T', '.', 'W', 'R', 'I', 'T', 'E']
  | .actRead => ['A', 'C', 'T', '.', 'R', 'E', 'A', 'D']
  | .nbrAdd => ['N', 'B', 'R', '.', 'A', 'D', 'D']
  | .nbrClear => ['N', 'B', 'R', '.', 'C', 'L', 'E', 'A', 'R']
  | .nbrRead => ['N', 'B', 'R', '.', 'R', 'E', 'A', 'D']
  | .loopOpen => ['L', 'O', 'O', 'P', '.', 'O', 'P', 'E', 'N']
  | .loopClose => ['L', 'O', 'O', 'P', '.', 'C', 'L', 'O', 'S', 'E']
  | .loopHold => ['L', 'O', 'O', 'P', '.', 'H', 'O', 'L', 'D']
  | .loopRelease => ['L', 'O', 'O', 'P', '.', 'R', 'E', 'L', 'E', 'A', 'S', 'E']
  | .loopStop => ['L', 'O', 'O', 'P', '.', 'S', 'T', 'O', 'P']
  | .loopSafe => ['L', 'O', 'O', 'P', '.', 'S', 'A', 'F', 'E']
  | .loopReset => ['L', 'O', 'O', 'P', '.', 'R', 'E', 'S', 'E', 'T']
  | .loopStatus => ['L', 'O', 'O', 'P', '.', 'S', 'T', 'A', 'T', 'U', 'S']
  | .drvParam => ['D', 'R', 'V', '.', 'P', 'A', 'R', 'A', 'M']
  | .drvPoke => ['D', 'R', 'V', '.', 'P', 'O', 'K', 'E']
  | .drvRestart => ['D', 'R', 'V', '.', 'R', 'E', 'S', 'T', 'A', 'R', 'T']
  | .drvStatus => ['D', 'R', 'V', '.', 'S', 'T', 'A', 'T', 'U', 'S']
  | .calLoad => ['C', 'A', 'L', '.', 'L', 'O', 'A', 'D']
  | .calStart => ['C', 'A', 'L', '.', 'S', 'T', 'A', 'R', 'T']
  | .calStop => ['C', 'A', 'L', '.', 'S', 'T', 'O', 'P']
  | .calStatus => ['C', 'A', 'L', '.', 'S', 'T', 'A', 'T', 'U', 'S']
  | .calRead => ['C', 'A', 'L', '.', 'R', 'E', 'A', 'D']
  | .statRead => ['S', 'T', 'A', 'T', '.', 'R', 'E', 'A', 'D']
  | .statClear => ['S', 'T', 'A', 'T', '.', 'C', 'L', 'E', 'A', 'R']
  | .peakArm => ['P', 'E', 'A', 'K', '.', 'A', 'R', 'M']
  | .peakRead => ['P', 'E', 'A', 'K', '.', 'R', 'E', 'A', 'D']
  | .snapArm => ['S', 'N', 'A', 'P', '.', 'A', 'R', 'M']
  | .snapStatus => ['S', 'N', 'A', 'P', '.', 'S', 'T', 'A', 'T', 'U', 'S']
  | .snapRead => ['S', 'N', 'A', 'P', '.', 'R', 'E', 'A', 'D']
  | .monSelect => ['M', 'O', 'N', '.', 'S', 'E', 'L', 'E', 'C', 'T']
  | .ntcMask => ['N', 'T', 'C', '.', 'M', 'A', 'S', 'K']
  | .ntcPoll => ['N', 'T', 'C', '.', 'P', 'O', 'L', 'L']

/-- Every message of the catalogue. -/
def allMessages : List Message :=
  [.devIdent, .devGeom, .devClear, .snsConfig, .snsEnable, .snsDisable, .snsStatus,
    .snsExclAdd, .snsExclDel, .snsExclList, .refWrite, .refCommit, .refRead, .cycParam,
    .cycStatus, .setBegin, .setLoad, .setErase, .setStatus, .setSelect, .degWrite,
    .degRead, .loopParam, .actWrite, .actRead, .nbrAdd, .nbrClear, .nbrRead,
    .loopOpen, .loopClose, .loopHold, .loopRelease, .loopStop, .loopSafe, .loopReset,
    .loopStatus, .drvParam, .drvPoke, .drvRestart, .drvStatus, .calLoad, .calStart,
    .calStop, .calStatus, .calRead, .statRead, .statClear, .peakArm, .peakRead,
    .snapArm, .snapStatus, .snapRead, .monSelect, .ntcMask, .ntcPoll]

/-- The twelve bytes of a message name, padded with spaces (10 R183). -/
def messageName (m : Message) : List Byte :=
  ((messageChars m).map fun c => BitVec.ofNat 8 c.toNat) ++ List.replicate (12 - (messageChars m).length) 0x20#8

/-- The name matches a message of the catalogue (10 R183). -/
def nameKnown (name : List Byte) : Bool := allMessages.any fun m => decide (messageName m = name)

/-! ## Index and choice fields (10 R184) -/

def toSensor (n : Nat) : Option (Fin 6) := if h : n < 6 then some ⟨n, h⟩ else none

def toSet (n : Nat) : Option (Fin 4) := if h : n < 4 then some ⟨n, h⟩ else none

def toLink (n : Nat) : Option (Fin 4) := if h : n < 4 then some ⟨n, h⟩ else none

/-- An entry of the degradation table: a set 0..3, or HOLD by 4 (03 R63); the outer none names neither. -/
def toDegEntry (n : Nat) : Option SetId :=
  if h : n < 4 then some (some ⟨n, h⟩) else if n = 4 then some none else none

def toPolicy : Nat → Option Policy
  | 0 => some .saved
  | 1 => some .omit
  | _ => none

def toFx : Nat → Option FxFunction
  | 0 => some .none
  | 1 => some .hold
  | 2 => some .exclude
  | 3 => some .dropSaved
  | _ => none

def toActMode : Nat → Option ActMode
  | 0 => some .normal
  | 1 => some .frozen
  | 2 => some .dead
  | _ => none

def toGainSource : Nat → Option GainSource
  | 0 => some .global
  | 1 => some .individual
  | _ => none

def toTiming : Nat → Option HoldTiming
  | 0 => some .atBoundary
  | 1 => some .immediate
  | _ => none

def toExclusivity : Nat → Option Exclusivity
  | 0 => some .shared
  | 1 => some .commandOnly
  | _ => none

/-- The flag gate: ON, OFF (06 Table 6.6). -/
def toGate : Nat → Option Bool
  | 0 => some true
  | 1 => some false
  | _ => none

def toTrigger : Nat → Option SnapTrigger
  | 0 => some .next
  | 1 => some .onHold
  | 2 => some .onSaturation
  | _ => none

def toMonSource : Nat → Option MonSource
  | 0 => some .loopClosed
  | 1 => some .loopHeld
  | 2 => some .loopSafe
  | 3 => some .cycleOpen
  | 4 => some .lawActive
  | 5 => some .sensorLost
  | 6 => some .saturated
  | 7 => some .driveBusy
  | 8 => some .deadlineClose
  | 9 => some .snapFull
  | 10 => some .calRunning
  | 11 => some .notify
  | _ => none

/-- ACTIVE_HIGH, ACTIVE_LOW (09 R180). -/
def toPolarity : Nat → Option Bool
  | 0 => some true
  | 1 => some false
  | _ => none

/-! ## Codes of states and choices in a reply: the position in the owning chapter's list (10 R184) -/

def boolCode (b : Bool) : Nat := if b then 1 else 0

def modeCode : SensorMode → Nat
  | .disabled => 0
  | .acquiring => 1
  | .active => 2
  | .lost => 3

def policyCode : Policy → Nat
  | .saved => 0
  | .omit => 1

def fxCode : FxFunction → Nat
  | .none => 0
  | .hold => 1
  | .exclude => 2
  | .dropSaved => 3

def bankCode : Bank → Nat
  | .bankA => 0
  | .bankB => 1

def cycleCode : CycleState → Nat
  | .accumulating => 0
  | .draining => 1
  | .law => 2

/-- A set number, NONE and HOLD as 4 (03 R63, 09 Table 9.5). -/
def setCode : SetId → Nat
  | some n => n.val
  | none => 4

def closeCode : CloseReason → Nat
  | .complete => 0
  | .settled => 1
  | .deadline => 2
  | .overrun => 3

def setStateCode : SetState → Nat
  | .empty => 0
  | .loading => 1
  | .complete => 2

def actModeCode : ActMode → Nat
  | .normal => 0
  | .frozen => 1
  | .dead => 2

def gainSourceCode : GainSource → Nat
  | .global => 0
  | .individual => 1

def lawModeCode : LawMode → Nat
  | .normal => 0
  | .held => 1
  | .opened => 2

def loopCode : LoopState → Nat
  | .idle => 0
  | .opened => 1
  | .closed => 2
  | .held => 3
  | .safe => 4

def timingCode : HoldTiming → Nat
  | .atBoundary => 0
  | .immediate => 1

def exclusivityCode : Exclusivity → Nat
  | .shared => 0
  | .commandOnly => 1

def gateCode (gate : Bool) : Nat := if gate then 0 else 1

def linkCode : LinkState → Nat
  | .unused => 0
  | .idle => 1
  | .busy => 2
  | .failed => 3

def endCode : EndReason → Nat
  | .done => 0
  | .stopped => 1
  | .missing => 2
  | .loop => 3
  | .cleared => 4

def phaseCode : Phase → Nat
  | .push => 0
  | .pull => 1
  | .storing => 2

def snapCode : SnapState → Nat
  | .empty => 0
  | .armed => 1
  | .filling => 2
  | .full => 3

def triggerCode : SnapTrigger → Nat
  | .next => 0
  | .onHold => 1
  | .onSaturation => 2

/-- Status codes (10 Table 10.10). -/
def statusCode : Status → Nat
  | .done => 0
  | .clamped => 1
  | .busy => 2
  | .wrongState => 3
  | .badValue => 4
  | .badForm => 5
  | .unknown => 6
  | .full => 7
  | .inUse => 8
  | .notReady => 9
  | .queueFull => 10

/-- A carried-out command whose parameters were, or were not, brought into range. -/
def doneOr (clamped : Bool) : Status := if clamped then .clamped else .done

/-! ## Payload fields (10 R184) -/

/-- A count of pairs at byte i, each an unsigned field and a second field read by `rd`. -/
def rdPairs {α : Type} (rd : List Byte → Nat → α) (p : List Byte) (i n : Nat) : List (Nat × α) :=
  (List.range n).map fun k => (rd16 p (i + 4 * k), rd p (i + 4 * k + 2))

/-- A record of ACT.WRITE at byte i: lo, hi, flat, gain, mode, the mode not yet checked (05 Table 5.2, R106). -/
def rdActRecord (p : List Byte) (i : Nat) : Option ActRecord :=
  match toActMode (rd16 p (i + 8)) with
  | none => none
  | some m =>
    if rdS16 p (i + 2) < rdS16 p i then none
    else some { lo := rdS16 p i, hi := rdS16 p (i + 2), flat := rdS16 p (i + 4), gain := rd16 p (i + 6), mode := m }

/-- All of a list of optional values, or none when one is missing. -/
def allSome {α : Type} : List (Option α) → Option (List α)
  | [] => some []
  | none :: _ => none
  | some x :: l => match allSome l with
    | none => none
    | some xs => some (x :: xs)

/-! ## Frames of the sensor and drive links (10 Table 10.9, R194) -/

def frameId (b : List Byte) : Nat := byteAt b 0

/-- The three flags that are read (10 R194). -/
def frameFlags (b : List Byte) : Flags :=
  { shutter := (b.getD 1 0).getLsbD 0, holdreq := (b.getD 1 0).getLsbD 1, fx := (b.getD 1 0).getLsbD 2 }

def frameFn (b : List Byte) : Half := BitVec.ofNat 16 (rd16 b 2)

def frameCount (b : List Byte) : Nat := rd16 b 4

def frameSlopes (b : List Byte) : List Int := rdS16s b 6 (frameCount b)

/-- The syntax checks of 01 Table 1.2 (R2). -/
def frameSyntaxError (link : Fin 6) (nSub : Nat) (b : List Byte) : Bool :=
  decide (frameId b ≠ link.val)
    || ((frameFlags b).shutter && decide (frameCount b ≠ 0))
    || (!(frameFlags b).shutter && decide (frameCount b ≠ 2 * nSub))
    || decide (b.length ≠ 10 + 2 * frameCount b)

/-- The content check (01 R3, 10 R195). -/
def frameContentError (b : List Byte) : Bool :=
  decide (BitVec.ofNat 32 (rd32 b (6 + 2 * frameCount b)) ≠ crc32 (b.take (6 + 2 * frameCount b)))

/-- An acknowledgement passes its check (07 R139, 10 R194). -/
def ackChecked (link : Fin 4) (b : List Byte) : Bool :=
  decide (b.length = 7) && decide (byteAt b 0 = link.val) && decide (BitVec.ofNat 32 (rd32 b 3) = crc32 (b.take 3))

def ackSeq (b : List Byte) : Byte := b.getD 1 0

/-- A verdict byte of 0 is ACCEPT, every other value REJECT (10 R194). -/
def ackAccept (b : List Byte) : Bool := decide (b.getD 2 0 = 0)

/-- The drive frame of link d (10 Table 10.9, 07 R138). -/
def driveFrame (d : Fin 4) (seq : Byte) (codes : List Int) : List Byte :=
  let body := [BitVec.ofNat 8 d.val, seq] ++ beBytes 2 (Config.linkSpan * d.val) ++ beBytes 2 codes.length
    ++ (codes.map fun c => beBytesInt 2 c).flatten
  body ++ beBytes 4 (crc32 body).toNat

/-! ## Frames of the control link (10 Table 10.9) -/

/-- A command frame as the host sends it, for the tests and the statements. -/
def commandFrameBytes (name : List Byte) (tag : Word) (payload : List Byte) : List Byte :=
  let body := beBytes 2 payload.length ++ name ++ beBytes 4 tag.toNat ++ payload
  [0xC3#8, 0x5D#8] ++ body ++ beBytes 4 (crc32 body).toNat

/-- A sensor frame as a front end sends it, for the tests and the statements. -/
def sensorFrameBytes (link : Fin 6) (flags : Byte) (fn : Half) (slopes : List Int) : List Byte :=
  let body := [BitVec.ofNat 8 link.val, flags] ++ beBytes 2 fn.toNat ++ beBytes 2 slopes.length
    ++ (slopes.map fun x => beBytesInt 2 x).flatten
  body ++ beBytes 4 (crc32 body).toNat

/-- An acknowledgement as a chassis sends it, for the tests and the statements. -/
def ackBytes (link : Fin 4) (seq verdict : Byte) : List Byte :=
  [BitVec.ofNat 8 link.val, seq, verdict] ++ beBytes 4 (crc32 [BitVec.ofNat 8 link.val, seq, verdict]).toNat

/-- Unsigned 16-bit fields of a payload as the host sends them, for the tests and the statements. -/
def u16s (l : List Nat) : List Byte := (l.map fun n => beBytes 2 n).flatten

/-- Signed 16-bit fields of a payload. -/
def s16s (l : List Int) : List Byte := (l.map fun x => beBytesInt 2 x).flatten

/-- Unsigned 32-bit fields of a payload. -/
def u32s (l : List Nat) : List Byte := (l.map fun n => beBytes 4 n).flatten

def fieldBytes : Field → List Byte
  | .u16 n => beBytes 2 n
  | .s16 i => beBytesInt 2 i
  | .u32 n => beBytes 4 n
  | .s32 i => beBytesInt 4 i
  | .u64 n => beBytes 8 n

def fieldWidth : Field → Nat
  | .u16 _ => 2
  | .s16 _ => 2
  | .u32 _ => 4
  | .s32 _ => 4
  | .u64 _ => 8

/-- Bytes of a reply's data. -/
def dataWidth (data : List Field) : Nat := (data.map fieldWidth).sum

/-- A reply frame (10 Table 10.9, R196). -/
def replyBytes (r : Reply) : List Byte :=
  let data := (r.data.map fieldBytes).flatten
  let body := beBytes 2 data.length ++ r.name ++ beBytes 4 r.tag.toNat ++ beBytes 1 (statusCode r.status) ++ data
  [0xC3#8, 0x5D#8] ++ body ++ beBytes 4 (crc32 body).toNat

/-! ## Reply fields -/

def yesNo (b : Bool) : Field := .u16 (boolCode b)

/-- A value that may be absent: its presence mark, then the value or 0 (10 R184). -/
def optField (f : Nat → Field) : Option Nat → List Field
  | none => [.u16 0, f 0]
  | some n => [.u16 1, f n]

/-- The same for a signed 16-bit value. -/
def optSigned : Option Int → List Field
  | none => [.u16 0, .s16 0]
  | some i => [.u16 1, .s16 i]

def optFn (fn : Option Half) : List Field := optField .u16 (fn.map BitVec.toNat)

end Sys2Proof.Machine
end

