-- ==== Sys2Proof/Machine/Store.lean ====
section
/-! DEFINITION. The stacked DRAM (03 sections 3.1 and 3.6): places, slots, words and their error classes, held in canonical
lists (strictly rising keys, nothing listed that an unlisted key already means). -/

namespace Sys2Proof.Machine

/-! ## Canonical lists -/

/-- What a key holds; an unlisted key holds d. -/
def tableGet {α : Type} (d : α) : List (Nat × α) → Nat → α
  | [], _ => d
  | (k, x) :: t, a => if a = k then x else tableGet d t a

/-- A key set to a value, the canonical form kept: the value d removes the entry. -/
def tableSet {α : Type} [DecidableEq α] (d : α) : List (Nat × α) → Nat → α → List (Nat × α)
  | [], a, x => if x = d then [] else [(a, x)]
  | (k, y) :: t, a, x =>
    if a < k then (if x = d then (k, y) :: t else (a, x) :: (k, y) :: t)
    else if a = k then (if x = d then t else (a, x) :: t)
    else (k, y) :: tableSet d t a x

/-- Keys strictly rise, and none is listed with the value d. -/
def tableWf {α : Type} [DecidableEq α] (d : α) : List (Nat × α) → Bool
  | [] => true
  | (k, x) :: t => decide (x ≠ d) && t.all (fun e => decide (k < e.1)) && tableWf d t

/-- A key removed. -/
def tableErase {α : Type} (t : List (Nat × α)) (keep : Nat → Bool) : List (Nat × α) := t.filter fun e => keep e.1

/-! ## Places and slots (log 14) -/

/-- The first place of slot (s, i) of set n's area (03 R55). -/
def coefficientSlot (n : Fin 4) (s : Fin 6) (i : Nat) : Nat :=
  ((n.val * 6 + s.val) * Config.maxActuators + i) * Config.slotPlaces

/-- The first place of slot (e, s) of the calibration response area (03 Table 3.1). -/
def responseSlot (e : Nat) (s : Fin 6) : Nat :=
  4 * 6 * Config.maxActuators * Config.slotPlaces + (e * 6 + s.val) * Config.slotPlaces

/-- The 64-bit word of a place. -/
def wordOf (place : Nat) : Nat := place / 4

/-- Words that a run of n places at the start of a slot takes (03 section 3.1). -/
def wordsOf (n : Nat) : Nat := (n + 3) / 4

/-- A place of the memory. An unlisted place reads 0: DESIGN CHOICE, unsafe (log 13). -/
def Dram.read (d : Dram) (place : Nat) : Half := tableGet 0 d.data place

/-- n places from `place` onward, as signed values (03 R55). -/
def Dram.readRun (d : Dram) (place n : Nat) : List Int := (List.range n).map fun j => (d.read (place + j)).toInt

/-- One place written. -/
def Dram.writePlace (d : Dram) (place : Nat) (x : Half) : Dram := { d with data := tableSet 0 d.data place x }

/-- Values at consecutive places. -/
def Dram.writeRun (d : Dram) : Nat → List Int → Dram
  | _, [] => d
  | place, x :: xs => (d.writePlace place (BitVec.ofInt 16 x)).writeRun (place + 1) xs

/-- The values padded with 0 to whole words (03 section 3.1). -/
def padded (values : List Int) : List Int :=
  values ++ List.replicate (4 * wordsOf values.length - values.length) 0

/-- Values written at the start of a slot, word by word; the check bits of every word written are computed anew, which
clears its error (03 section 3.6). -/
def Dram.writeSlot (d : Dram) (slot : Nat) (values : List Int) : Dram :=
  { d.writeRun slot (padded values) with
    errors := tableErase d.errors fun w =>
      decide (w < wordOf slot) || decide (wordOf slot + wordsOf values.length ≤ w) }

/-! ## Error classes (03 section 3.6, log 12) -/

/-- What the check of a word finds: none when it is clean. -/
def Dram.wordError (d : Dram) (w : Nat) : Option WordError := tableGet none (d.errors.map fun e => (e.1, some e.2)) w

/-- The worse of what a word holds and what came about. -/
def worseError (old : Option WordError) (new : WordError) : WordError :=
  match old, new with
  | some .double, _ => .double
  | _, .double => .double
  | _, .single => .single

/-- An error set on a word of the error list; both keep the list rising. -/
def errorSet : List (Nat × WordError) → Nat → WordError → List (Nat × WordError)
  | [], a, x => [(a, x)]
  | (k, y) :: t, a, x =>
    if a < k then (a, x) :: (k, y) :: t
    else if a = k then (a, worseError (some y) x) :: t
    else (k, y) :: errorSet t a x

/-- Upsets that have come about in the words of a slot; an upset outside a slot touches nothing. -/
def Dram.upset (d : Dram) (slot : Nat) : List Upset → Dram
  | [] => d
  | u :: us =>
    if u.word < Config.slotPlaces / 4 then
      ({ d with errors := errorSet d.errors (wordOf slot + u.word) u.error } : Dram).upset slot us
    else d.upset slot us

/-- A read of words w..w + n - 1 in order: corrected errors met, and whether it ended at an uncorrectable word (R70, R71). -/
def Dram.scan (d : Dram) : Nat → Nat → Nat × Bool
  | _, 0 => (0, false)
  | w, n + 1 =>
    match d.wordError w with
    | none => d.scan (w + 1) n
    | some .single => ((d.scan (w + 1) n).1 + 1, (d.scan (w + 1) n).2)
    | some .double => (0, true)

/-- The keys of the error list strictly rise. -/
def errorsWf : List (Nat × WordError) → Bool
  | [] => true
  | (k, _) :: t => t.all (fun e => decide (k < e.1)) && errorsWf t

/-- The canonical form of the memory. -/
def Dram.wf (d : Dram) : Bool := tableWf 0 d.data && errorsWf d.errors

end Sys2Proof.Machine
end

