-- ==== Sys2Proof/Machine/Ops.lean ====
section
/-! DEFINITION. Named reads and updates of the state, the notice conditions' raise, and the forming of a reply
(10 R183, R185). Every block reads and writes the other blocks' state through these. -/

namespace Sys2Proof.Machine

/-- What every meaning answers. -/
abbrev Result := Host.Outcome State Fault Refusal

/-- What a running timer started with `started` still shows: the k-th free value drawn now (log 5). -/
def State.timeLeft (s : State) (k started : Nat) : Nat := min started (Config.timeRemaining (s.freeCount + k))

/-! ## Intake -/

def State.sensor (s : State) (i : Fin 6) : Sensor := s.intake.sensors[i]

def State.updSensor (s : State) (i : Fin 6) (f : Sensor → Sensor) : State :=
  { s with intake := { s.intake with sensors := s.intake.sensors.set i (f s.intake.sensors[i]) } }

/-- A counter of sensor i changed. -/
def State.updCounters (s : State) (i : Fin 6) (f : SensorCounters → SensorCounters) : State :=
  s.updSensor i fun x => { x with counters := f x.counters }

/-- The sensor is ACTIVE. -/
def State.isActive (s : State) (i : Fin 6) : Bool := decide ((s.sensor i).mode = .active)

/-- The sensors that are ACTIVE now (02 R36 step 5, 03 R57). -/
def State.presence (s : State) : Vector Bool 6 := Vector.ofFn fun i => s.isActive i

/-- The entry of the degradation table with an index (03 R63). -/
def State.degEntry (s : State) (i : Nat) : SetId := (s.cyc.degTable[i]?).getD none

/-- The degradation entry for the current presence set (03 R57). -/
def State.currentEntry (s : State) : SetId := s.degEntry (sensorMask s.presence)

/-- The other page number. -/
def otherPage (p : Fin 2) : Fin 2 := if p = 0 then 1 else 0

/-- A page of a sensor. -/
def Sensor.page (x : Sensor) (p : Fin 2) : List Int := x.pages[p]

/-- FX set under FX function EXCLUDE, or SHUTTER set: the frame's slopes are not used (01 R22). -/
def Sensor.slopesUnused (x : Sensor) (f : Frame) : Bool :=
  f.flags.shutter || (f.flags.fx && decide (x.config.fx = .exclude))

/-! ## Cycles -/

/-- The existing cycle bound to a bank. -/
def State.cycleAt (s : State) (b : Bank) : Option Cycle := s.cyc.cycles.find? fun k => decide (k.bank = b)

def State.updCycle (s : State) (b : Bank) (f : Cycle → Cycle) : State :=
  { s with cyc := { s.cyc with cycles := s.cyc.cycles.map fun k => if k.bank = b then f k else k } }

/-- A live cycle in ACCUMULATING (02 R28). -/
def Cycle.isOpen (k : Cycle) : Bool := !k.abandoned && decide (k.state = .accumulating)

/-- The sensor is expected and unsettled in a live ACCUMULATING cycle (02 R40). -/
def Cycle.awaits (k : Cycle) (i : Fin 6) : Bool :=
  k.isOpen && k.expected[i] && decide (k.settlement[i] = .unsettled)

/-- The cycle that binds a set. -/
def State.setBound (s : State) (n : Fin 4) : Nat := (s.cyc.cycles.filter fun k => decide (k.set = some n)).length

/-- An existing cycle's binding names a page of a sensor (01 R11, R23). -/
def State.pageBound (s : State) (i : Fin 6) (p : Fin 2) : Bool := s.cyc.cycles.any fun k => decide (k.binding[i] = p)

def State.pendingSub (s : State) (i : Fin 6) : Nat := s.cyc.pendingSubs[i]

def State.setPendingSub (s : State) (i : Fin 6) (n : Nat) : State :=
  { s with cyc := { s.cyc with pendingSubs := s.cyc.pendingSubs.set i n } }

/-! ## Sets and memory -/

def State.setRec (s : State) (n : Fin 4) : SetRecord := s.mem.sets[n]

def State.updSet (s : State) (n : Fin 4) (f : SetRecord → SetRecord) : State :=
  { s with mem := { s.mem with sets := s.mem.sets.set n (f s.mem.sets[n]) } }

/-- The n_sub of a sensor in a participation list (03 R54). -/
def SetRecord.nSubOf (r : SetRecord) (i : Fin 6) : Option Nat :=
  (r.participation.find? fun e => decide (e.1 = i)).map Prod.snd

def State.setDram (s : State) (d : Dram) : State := { s with mem := { s.mem with dram := d } }

def State.setArbiter (s : State) (a : Arbiter) : State := { s with mem := { s.mem with arbiter := a } }

/-! ## Reconstruction unit -/

def State.bankVector (s : State) : Bank → List Int
  | .bankA => s.recon.bankA
  | .bankB => s.recon.bankB

def State.setBank (s : State) (b : Bank) (v : List Int) : State :=
  match b with
  | .bankA => { s with recon := { s.recon with bankA := v } }
  | .bankB => { s with recon := { s.recon with bankB := v } }

def State.savedOf (s : State) (i : Fin 6) : Saved := s.recon.saved[i]

def State.updSaved (s : State) (i : Fin 6) (f : Saved → Saved) : State :=
  { s with recon := { s.recon with saved := s.recon.saved.set i (f s.recon.saved[i]) } }

/-- An invalidation request for one sensor: the vector, tags and use count stay (04 R85). -/
def State.invalidate (s : State) (i : Fin 6) : State := s.updSaved i fun x => { x with valid := false }

/-- An invalidation request for all six sensors (04 Table 4.4). -/
def State.invalidateAll (s : State) : State :=
  { s with recon := { s.recon with saved := s.recon.saved.map fun x => { x with valid := false } } }

/-! ## Law unit and drive links -/

def State.act (s : State) (i : Nat) : ActRecord := s.law.actuators.getD i ActRecord.reset

def State.driveLink (s : State) (d : Fin 4) : DriveLink := s.drive.links[d]

def State.updLink (s : State) (d : Fin 4) (f : DriveLink → DriveLink) : State :=
  { s with drive := { s.drive with links := s.drive.links.set d (f s.drive.links[d]) } }

/-- The number of actuators a link serves (07 R135). -/
def serviceCount (nAct : Nat) (d : Fin 4) : Nat := min Config.linkSpan (nAct - Config.linkSpan * d.val)

/-! ## Monitor -/

def State.setBuffer (s : State) (b : Bank) (v : Vector (Option (List Int)) 6) : State :=
  match b with
  | .bankA => { s with mon := { s.mon with bufA := v } }
  | .bankB => { s with mon := { s.mon with bufB := v } }

def State.buffer (s : State) : Bank → Vector (Option (List Int)) 6
  | .bankA => s.mon.bufA
  | .bankB => s.mon.bufB

/-! ## Notice conditions (10 R187, R188) -/

/-- The index of a condition (10 Table 10.4). -/
def noticeIndex : Notice → Nat
  | .sensorState => 0
  | .loopState => 1
  | .holdChange => 2
  | .inbandChange => 3
  | .setReady => 4
  | .memoryError => 5
  | .driveFail => 6
  | .diverge => 7
  | .snapFull => 8
  | .calEnd => 9
  | .peakReady => 10
  | .linkError => 11

/-- A raised condition becomes, or stays, pending whatever its mask (10 R187). -/
def State.raise (s : State) (n : Notice) : State :=
  { s with link := { s.link with notices := s.link.notices ||| (1#12 <<< noticeIndex n) } }

/-- The condition is pending. -/
def State.isPending (s : State) (n : Notice) : Bool := s.link.notices.getLsbD (noticeIndex n)

/-! ## Replies (10 R183, R185) -/

/-- The transmitter holds a command's reply, one that is not QUEUE_FULL (10 R185). -/
def ControlLink.holdsReply (l : ControlLink) : Bool := l.transmitter.any fun r => decide (r.status ≠ .queueFull)

/-- The frame at the head of the receive queue becomes the command in execution when none is and the reply of the one
before has been sent or discarded (10 R183). -/
def ControlLink.beginNext (l : ControlLink) : ControlLink :=
  match l.executing, l.queue with
  | none, f :: rest =>
    if l.holdsReply then l else { l with executing := some { frame := f, noReply := false, progress := .taken }, queue := rest }
  | _, _ => l

/-- The command in execution is complete: its reply is formed, unless a link clear has taken it away (10 R183, R186). -/
def ControlLink.reply (l : ControlLink) (st : Status) (data : List Field) : ControlLink :=
  match l.executing with
  | none => l
  | some c =>
    if c.noReply then { l with executing := none }.beginNext
    else { l with executing := none,
                  transmitter := l.transmitter ++ [{ name := c.frame.name, tag := c.frame.tag, status := st, data := data }] }

def State.reply (s : State) (st : Status) (data : List Field) : State := { s with link := s.link.reply st data }

/-- A refusal: a reply with its status and no data, nothing else changed (10 R185). -/
def State.refuse (s : State) (st : Status) : State := s.reply st []

/-- How far the command in execution has come. -/
def ControlLink.progress (l : ControlLink) : Option Progress := l.executing.map fun c => c.progress

/-- The command in execution goes on (transfers or a deferred edit are to come). -/
def State.setProgress (s : State) (p : Progress) : State :=
  { s with link := { s.link with executing := s.link.executing.map fun c => { c with progress := p } } }

/-- The owning block acts on the command in execution when it carries the message's name and has yet to be acted on
(10 R183); otherwise the step cannot come about and changes nothing (log 2). -/
def runMessage (m : Message) (act : List Byte → State → State) (s : State) : Result :=
  match s.link.executing with
  | none => .next s
  | some c =>
    if c.progress = .taken ∧ c.frame.name = messageName m then .next (act c.frame.payload s) else .next s

end Sys2Proof.Machine
end

