-- ==== Sys2Proof/Machine/Flags.lean ====
section
/-! DEFINITION. The conditions that are functions of the state: the hold sources that count and the effective hold (06 R125),
the level of NTFN (10 R188), the monitor sources and the levels of MON0 and MON1 (09 R179, R180). -/

namespace Sys2Proof.Machine

/-! ## Hold sources (06 section 6.3) -/

/-- The value of every source (06 Table 6.5). -/
def State.sources (s : State) : HoldSet :=
  { command := s.loop.command, pin := s.loop.holdnLow, inband := s.loop.inband, degraded := s.cyc.degraded,
    diverge := s.loop.diverge }

/-- Which sources count under an exclusivity setting (06 R125). -/
def counting : Exclusivity → HoldSet
  | .shared => { command := true, pin := true, inband := true, degraded := true, diverge := true }
  | .commandOnly => { command := true, pin := false, inband := false, degraded := true, diverge := true }

def HoldSet.inter (x y : HoldSet) : HoldSet :=
  { command := x.command && y.command, pin := x.pin && y.pin, inband := x.inband && y.inband,
    degraded := x.degraded && y.degraded, diverge := x.diverge && y.diverge }

/-- The active sources that count (06 R125, R126). -/
def State.holding (s : State) : HoldSet := s.sources.inter (counting s.loop.params.exclusivity)

def HoldSet.any (x : HoldSet) : Bool := x.command || x.pin || x.inband || x.degraded || x.diverge

/-- The effective hold (06 R125). -/
def State.effectiveHold (s : State) : Bool := s.holding.any

/-! ## The notify line (10 R188) -/

/-- NTFN is low exactly when at least one pending condition is unmasked. -/
def State.ntfnLow (s : State) : Bool := decide (s.link.notices &&& ~~~ s.link.masks ≠ 0)

/-! ## Monitor lines (09 section 9.7) -/

/-- A monitor source is active (09 Table 9.8). -/
def State.monActive (s : State) : MonSource → Bool
  | .loopClosed => decide (s.loop.state = .closed)
  | .loopHeld => decide (s.loop.state = .held)
  | .loopSafe => decide (s.loop.state = .safe)
  | .cycleOpen => s.cyc.cycles.any fun k => decide (k.state = .accumulating)
  | .lawActive => s.law.inProgress.isSome
  | .sensorLost => allSensors.any fun i => decide ((s.sensor i).mode = .lost)
  | .saturated => decide (0 < s.law.satCount)
  | .driveBusy => allLinks.any fun d => decide ((s.driveLink d).state = .busy)
  | .deadlineClose => s.mon.deadlineClose
  | .snapFull => decide (s.mon.snapState = .full)
  | .calRunning => s.cal.running
  | .notify => s.ntfnLow

/-- A line is high (09 R180). -/
def State.monHigh (s : State) (l : MonLine) : Bool := if l.activeHigh then s.monActive l.source else !s.monActive l.source

/-- MON0 is high. -/
def State.mon0High (s : State) : Bool := s.monHigh s.mon.line0

/-- MON1 is high. -/
def State.mon1High (s : State) : Bool := s.monHigh s.mon.line1

end Sys2Proof.Machine
end

