-- ==== Sys2Proof/Machine/Drive.lean ====
section
/-! DEFINITION. The drive outputs (07): sending a frame, a commit reaching a link, and the answers of a chassis. -/

namespace Sys2Proof.Machine

/-- The codes of a link's service range in a committed vector (07 R138). -/
def linkCodes (codes : List Int) (nAct : Nat) (d : Fin 4) : List Int :=
  vslice codes (Config.linkSpan * d.val) (serviceCount nAct d)

/-- A frame is formed from the newest committed vector and handed to the link (07 R136, R138). -/
def sendFrame (tAck : Nat) (d : Fin 4) (codes : List Int) (l : DriveLink) : DriveLink :=
  { l with
    seq := l.seq + 1
    waiting := false
    state := .busy
    frames := counterInc l.frames
    timer := some tAck
    inTransit := driveFrame d (l.seq + 1) codes }

/-- A commit reaches a link (07 R137). -/
def linkCommit (tAck : Nat) (d : Fin 4) (codes : List Int) (l : DriveLink) : DriveLink :=
  match l.state with
  | .unused => l
  | .idle => sendFrame tAck d codes { l with upToDate := false }
  | .busy =>
    if l.waiting then { l with upToDate := false, superseded := counterInc l.superseded }
    else { l with upToDate := false, waiting := true }
  | .failed => { l with upToDate := false }

/-- Link d sends a frame of the newest committed vector. -/
def State.sendOn (s : State) (d : Fin 4) : State :=
  s.updLink d (sendFrame s.drive.tAck d (linkCodes s.law.committed s.mem.nAct d))

/-- A newly committed vector reaches each of the four links (07 R137). -/
def State.handToLinks (s : State) : State :=
  { s with drive := { s.drive with
      links := Vector.ofFn fun d =>
        linkCommit s.drive.tAck d (linkCodes s.law.committed s.mem.nAct d) s.drive.links[d] } }

/-- A checked ACCEPT with the current number (07 R139). -/
def linkAccept (tAck : Nat) (d : Fin 4) (codes : List Int) (l : DriveLink) : DriveLink :=
  let l' := { l with timer := none, failCount := 0, lastAccepted := some l.seq }
  if l.waiting then sendFrame tAck d codes l' else { l' with upToDate := true, state := .idle }

/-- A failure of a BUSY link: counted, and a new frame sent below F_max, or the link FAILED (07 R140, R142). -/
def linkFailure (tAck fMax : Nat) (d : Fin 4) (codes : List Int) (l : DriveLink) : DriveLink :=
  let l' := { l with timer := none, failCount := l.failCount + 1, failures := counterInc l.failures }
  if l.failCount + 1 < fMax then sendFrame tAck d codes l'
  else { l' with state := .failed, waiting := false, upToDate := false }

/-- A link that serves actuators is FAILED (06 R118). -/
def State.linkFailed (s : State) : Bool :=
  allLinks.any fun d => decide (0 < serviceCount s.mem.nAct d) && decide ((s.driveLink d).state = .failed)

/-- DEV.GEOM on a link: IDLE when it serves actuators, UNUSED otherwise (07 Table 7.9). -/
def linkGeometry (serves : Bool) (l : DriveLink) : DriveLink :=
  { l with
    state := if serves then .idle else .unused
    waiting := false
    upToDate := false
    failCount := 0
    timer := none }

end Sys2Proof.Machine
end

