-- ==== Sys2Proof/Machine/Law.lean ====
section
/-! DEFINITION. The law unit (05): the integrator step, the neighbour pass, the divergence figure, the output vector and its
commit, the rest requests and what an actuator edit does to the integrators. -/

namespace Sys2Proof.Machine

/-! ## Limits and rest values (05, before 5.1) -/

/-- The value in lo..hi nearest 0. -/
def restValue (a : ActRecord) : Int := if 0 < a.lo then a.lo else if a.hi < 0 then a.hi else 0

/-- What a rest request sets the integrator to (05 R96). -/
def restIntegrator (a : ActRecord) : Int := if a.mode = .dead then 0 else 256 * restValue a

/-- An integrator value brought into the actuator's limits (05 R94). -/
def clampIntegrator (a : ActRecord) (x : Int) : Int := clampInt (256 * a.lo) (256 * a.hi) x

/-! ## Residuals and the divergence figure -/

/-- The residual of one accumulated sum (04 R87). -/
def residualOf (shift : Option Nat) (acc : Int) : Int :=
  match shift with
  | none => 0
  | some k => clampInt (-8388607) 8388607 (roundHalfUp acc k)

/-- The divergence figure of a residual vector (05 R102). -/
def divergenceFigure (nAct : Nat) (act : Nat → ActRecord) (r : List Int) : Nat :=
  let used := (List.range nAct).filter fun i => decide ((act i).mode = .normal)
  (used.map fun i => (vget r i).natAbs ^ 2).sum / used.length

/-! ## The integrator step (05 R94, R95) -/

/-- The scratch value of one actuator before the neighbour pass, and whether its limits changed it. -/
def integratorStep (a : ActRecord) (gain leak : Nat) (z r : Int) : Int × Bool :=
  match a.mode with
  | .frozen => (z, false)
  | .dead => (0, false)
  | .normal =>
    let x := roundHalfUp (leak * z + gain * r) 15
    (clampIntegrator a x, decide (clampIntegrator a x ≠ x))

/-! ## The neighbour pass (05 R97, R98) -/

/-- The scratch values, the saturation flags and the adjustments of a pass under way. -/
structure PassState where
  scratch : List Int
  flags : List Bool
  adjustments : Nat
  deriving DecidableEq, Repr

/-- One member moved and brought into its limits (05 R98). -/
def moveMember (act : Nat → ActRecord) (i : Nat) (delta : Int) (p : PassState) : PassState :=
  let x := vget p.scratch i + delta
  let y := clampIntegrator (act i) x
  { p with scratch := vput p.scratch i y, flags := if y = x then p.flags else p.flags.set i true }

/-- One pair of the walk (05 Table 5.5). -/
def passPair (act : Nat → ActRecord) (limit : Int) (p : PassState) (pair : Nat × Nat) : PassState :=
  let a := vget p.scratch pair.1
  let b := vget p.scratch pair.2
  let x := (a - b).natAbs - limit
  let sign : Int := if b < a then 1 else -1
  if x ≤ 0 then p
  else
    match decide ((act pair.1).mode = .normal), decide ((act pair.2).mode = .normal) with
    | true, true =>
      -- the higher member moves down by the half rounded up, the lower up by the half rounded down
      let first := if b < a then -((x + 1) / 2) else x / 2
      let second := if b < a then x / 2 else -((x + 1) / 2)
      let q := moveMember act pair.2 second (moveMember act pair.1 first p)
      { q with adjustments := q.adjustments + 1 }
    | true, false =>
      let q := moveMember act pair.1 (-(sign * x)) p
      { q with adjustments := q.adjustments + 1 }
    | false, true =>
      let q := moveMember act pair.2 (sign * x) p
      { q with adjustments := q.adjustments + 1 }
    | false, false => p

/-- The pairs that still differ by more than the limit (05 R98). -/
def violationsOf (limit : Int) (pairs : List (Nat × Nat)) (scratch : List Int) : Nat :=
  (pairs.filter fun q => decide (limit < ((vget scratch q.1 - vget scratch q.2).natAbs : Int))).length

/-- The walk, and the final scan's count; neither is made with D_max = 0 (05 R97). -/
def neighbourPass (act : Nat → ActRecord) (dMax : Nat) (pairs : List (Nat × Nat)) (p : PassState) : PassState × Nat :=
  if dMax = 0 then (p, 0)
  else
    let q := pairs.foldl (passPair act (256 * dMax)) p
    (q, violationsOf (256 * dMax) pairs q.scratch)

/-! ## A law's beginning (05 R90, R91; log 17) -/

/-- The mode of a law from the loop state at its beginning (05 Table 5.3). -/
def lawModeOf : LoopState → LawMode
  | .closed => .normal
  | .held => .held
  | _ => .opened

/-- The shift of the set a cycle bound, none for NONE (04 R87). -/
def State.shiftOf (s : State) (set : SetId) : Option Nat := set.map fun n => (s.setRec n).shift

/-- The residual vector of a cycle (04 R87). -/
def State.residuals (s : State) (k : Cycle) : List Int :=
  (List.range s.mem.nAct).map fun i => residualOf (s.shiftOf k.set) (vget (s.bankVector k.bank) i)

/-- The gain of actuator i (05 R94 step 1). -/
def State.gainOf (s : State) (i : Nat) : Nat :=
  match s.loop.params.gainSource with
  | .global => s.loop.params.gGlob
  | .individual => (s.act i).gain

/-- The integrator step and the neighbour pass of a NORMAL law over a residual vector (05 R94 to R98). -/
def State.lawPass (s : State) (r : List Int) : PassState × Nat :=
  let steps := (List.range s.mem.nAct).map fun i =>
    integratorStep (s.act i) (s.gainOf i) s.loop.params.leak (vget s.law.z i) (vget r i)
  neighbourPass s.act s.loop.params.dMax s.law.neighbours
    { scratch := steps.map Prod.fst, flags := steps.map Prod.snd, adjustments := 0 }

/-- The law of a live cycle begins: its mode and parameters are fixed, its residuals and Q formed, and for a NORMAL law the
scratch vector (05 R90, R91). -/
def State.beginLaw (s : State) (k : Cycle) : State :=
  let r := s.residuals k
  let mode := lawModeOf s.loop.state
  let pass := s.lawPass r
  let run : LawRun :=
    { fn := k.fn, bank := k.bank, set := k.set, mode := mode, superseded := false, gain := s.loop.params.gGlob,
      leak := s.loop.params.leak, gainSource := s.loop.params.gainSource, dMax := s.loop.params.dMax, residual := r,
      q := divergenceFigure s.mem.nAct s.act r,
      satFlags := if mode = .normal then pass.1.flags else [],
      adjustments := if mode = .normal then pass.1.adjustments else 0,
      violations := if mode = .normal then pass.2 else 0 }
  { s with law := { s.law with
      inProgress := some run
      scratch := if mode = .normal then vwrite s.law.scratch 0 pass.1.scratch else s.law.scratch } }

/-! ## Output and commit (05 R99 to R101) -/

/-- The poke value in force for an actuator (05 R99). -/
def State.pokeInForce (s : State) (i : Nat) : Option Int :=
  match s.loop.state with
  | .idle => (s.law.idlePokes.find? fun e => decide (e.1 = i)).map Prod.snd
  | .opened => match s.law.calPoke with
    | none => none
    | some e => if e.1 = i then some e.2 else none
  | _ => none

/-- The output value of an actuator in CU (05 Table 5.6). -/
def State.outputValue (s : State) (i : Nat) : Int :=
  if (s.act i).mode = .dead then 0
  else match s.pokeInForce i with
    | some v => clampInt (s.act i).lo (s.act i).hi v
    | none => roundHalfUp (vget s.law.z i) 8

/-- The drive code of an actuator (05 R99). -/
def State.codeOf (s : State) (i : Nat) : Int := clampInt 0 65535 (s.outputValue i + (s.act i).flat + 32768)

/-- The output vector (05 R99). -/
def State.formVector (s : State) : List Int := (List.range s.mem.nAct).map s.codeOf

/-- The newest committed vector is replaced as a whole and handed to the drive links (05 R100, 07 R137). -/
def State.commitVector (s : State) : State :=
  ({ s with law := { s.law with committed := s.formVector } } : State).handToLinks

/-! ## Rest requests (05 R96) -/

/-- A NORMAL law in progress is superseded (05 R93). -/
def supersede (run : LawRun) : LawRun := if run.mode = .normal then { run with superseded := true } else run

/-- The integrator reset (05 Table 5.4). -/
def State.integratorReset (s : State) : State :=
  { s with law := { s.law with
      z := vfill s.mem.nAct (fun i => restIntegrator (s.act i)) s.law.z
      satFlags := List.replicate Config.maxActuators false
      satCount := 0
      adjustments := 0
      violations := 0
      inProgress := s.law.inProgress.map supersede } }

/-- Every poke value cleared (05 R96). -/
def State.clearPokes (s : State) : State := { s with law := { s.law with idlePokes := [], calPoke := none } }

/-! ## Actuator edits (05 R107, R108) -/

/-- The integrator after an edit (05 Table 5.7). -/
def editedIntegrator (keeps : Bool) (old new : ActRecord) (z : Int) : Int :=
  if new.mode = .dead then 0
  else if old.mode = .dead then 256 * restValue new
  else if keeps then clampIntegrator new z
  else 256 * restValue new

/-- An edit changes a limit, a flat or a mode (05 R108). -/
def editCommits (old new : ActRecord) : Bool :=
  decide (old.lo ≠ new.lo) || decide (old.hi ≠ new.hi) || decide (old.flat ≠ new.flat) || decide (old.mode ≠ new.mode)

/-- The integrators keep their place under an edit (05 Table 5.7). -/
def LoopState.keepsPosition (l : LoopState) : Bool := decide (l = .closed) || decide (l = .held)

/-- A list of records with those from `first` onward replaced. -/
def writeRecords (first : Nat) (new : List ActRecord) (old : List ActRecord) : List ActRecord :=
  old.take first ++ new ++ old.drop (first + new.length)

/-- The records and integrators after an edit is applied (05 R106, R107). -/
def State.writeActuators (s : State) (first : Nat) (new : List ActRecord) : State :=
  { s with law := { s.law with
      actuators := writeRecords first new s.law.actuators
      z := vwrite s.law.z first ((List.range new.length).map fun i =>
        editedIntegrator s.loop.state.keepsPosition (s.act (first + i)) (new.getD i ActRecord.reset)
          (vget s.law.z (first + i))) } }

/-- At least one record of an edit calls for a commit (05 R108). -/
def State.editNeedsCommit (s : State) (first : Nat) (new : List ActRecord) : Bool :=
  (List.range new.length).any fun i => editCommits (s.act (first + i)) (new.getD i ActRecord.reset)

end Sys2Proof.Machine
end

