-- ==== Sys2Proof/Machine/Recon.lean ====
section
/-! DEFINITION. The job queue of the reconstruction unit (04 R77, R80), and the memory arbiter (03 R67, R69). -/

namespace Sys2Proof.Machine

/-! ## Jobs -/

/-- The n_sub that a contribution job reads a row with: that of its cycle's participation list (04 R74). -/
def State.jobNSub (s : State) (set : SetId) (i : Fin 6) : Nat :=
  match set with
  | none => 0
  | some n => ((s.setRec n).nSubOf i).getD 0

/-- The job as it becomes the job in flight, with what it begins with (04 R75, R77, R88). -/
def State.flightOf (s : State) (j : Job) : Flight :=
  let set : SetId := match s.cycleAt j.bank with
    | none => none
    | some k => k.set
  { job := j, orphan := false, set := set, nSub := s.jobNSub set j.sensor, nAct := s.mem.nAct, nextRow := 0 }

/-- The job at the head leaves the queue and becomes the job in flight when none is (04 R77). -/
def State.startJob (s : State) : State :=
  match s.recon.inFlight, s.recon.queue with
  | none, j :: rest => { s with recon := { s.recon with inFlight := some (s.flightOf j), queue := rest } }
  | _, _ => s

/-- A job joins the queue at the tail; its cycle's outstanding count rises by one (02 R40, 04 R77). -/
def State.enqueueJob (s : State) (j : Job) : State :=
  (({ s with recon := { s.recon with queue := s.recon.queue ++ [j] } } : State).updCycle j.bank
    fun k => { k with outstanding := k.outstanding + 1 }).startJob

/-- A job of a cycle other than the one bound to the bank, or a substitution of a sensor. -/
def Job.isSubstitutionOf (j : Job) (i : Fin 6) : Bool := decide (j.kind = .substitution) && decide (j.sensor = i)

/-- The queued jobs of a cycle are removed; its outstanding count falls by their number and each sensor's pending
substitutions by its removed substitution jobs (02 R49, 04 R80). -/
def State.removeJobs (s : State) (bank : Bank) : State :=
  let removed := s.recon.queue.filter fun j => decide (j.bank = bank)
  let kept := s.recon.queue.filter fun j => decide (j.bank ≠ bank)
  (({ s with
      recon := { s.recon with queue := kept }
      cyc := { s.cyc with pendingSubs := Vector.ofFn fun i =>
        s.cyc.pendingSubs[i] - (removed.filter fun j => j.isSubstitutionOf i).length } } : State).updCycle bank
    fun k => { k with outstanding := k.outstanding - removed.length })

/-! ## The memory arbiter -/

/-- A client asks for a transfer (03 R69). -/
def State.request (s : State) (c : Client) : State :=
  if c ∈ s.mem.arbiter.waiting then s
  else s.setArbiter { s.mem.arbiter with waiting := s.mem.arbiter.waiting ++ [c] }

/-- The responses of one sensor (08 R159). -/
def State.responsesOf (s : State) (i : Fin 6) : List Int :=
  let n := ((s.cal.sensors.find? fun e => decide (e.1 = i)).map Prod.snd).getD 0
  (List.range (2 * n)).map fun j => roundHalfUpTwice (vget s.cal.push[i] j - vget s.cal.pull[i] j) s.cal.nM

/-- What a waiting client's transfer is (03 Table 3.5): none when it has nothing to transfer. -/
def State.transferOf (s : State) : Client → Option Transfer
  | .controlLink =>
    match s.link.executing with
    | none => none
    | some c =>
      match c.progress with
      | .loading _ _ _ _ => some .loadRow
      | .reading _ _ _ _ => some .calRead
      | _ => none
  | .calibration =>
    match s.cal.storing with
    | [] => none
    | i :: _ => some (.calWrite s.cal.entry i (s.responsesOf i) true)

/-- The arbiter grants the DRAM when no transfer is under way: the job in flight reads its rows one after another; while no
job is in flight and the queue is empty the waiting clients are granted in turn (03 R67, R69). -/
def State.grant (s : State) : State :=
  match s.mem.arbiter.current with
  | some _ => s
  | none =>
    match s.recon.inFlight with
    | some f =>
      match f.job.kind with
      | .substitution => s
      | .contribution _ =>
        if f.nextRow < f.nAct then s.setArbiter { s.mem.arbiter with current := some .jobRow } else s
    | none =>
      match s.recon.queue, s.mem.arbiter.waiting with
      | [], c :: rest => s.setArbiter { current := s.transferOf c, waiting := rest }
      | _, _ => s

/-- The transfer under way has ended. -/
def State.endTransfer (s : State) : State := s.setArbiter { s.mem.arbiter with current := none }

/-- The calibration unit's transfers of a run that ends are not made; one under way runs to its end without effect on the
run (08 R161). -/
def Arbiter.dropCalibration (a : Arbiter) : Arbiter :=
  { current := match a.current with
      | some (.calWrite e i r _) => some (.calWrite e i r false)
      | t => t
    waiting := a.waiting.filter fun c => decide (c ≠ .calibration) }

end Sys2Proof.Machine
end

