-- ==== Sys2Proof/Machine/Calibrate.lean ====
section
/-! DEFINITION. The poke calibration unit's phases, tallies and end (08), and the law unit's commit as the other blocks see it:
a commit that is not a phase commit restarts the phase (08 R157). -/

namespace Sys2Proof.Machine

/-! ## Records and sums -/

/-- One element of a list changed. -/
def modifyAt {α : Type} (f : α → α) : List α → Nat → List α
  | [], _ => []
  | x :: l, 0 => f x :: l
  | x :: l, i + 1 => x :: modifyAt f l i

/-- The record of the current entry changed. -/
def Calibration.updRecord (c : Calibration) (f : ResponseRecord → ResponseRecord) : Calibration :=
  { c with records := modifyAt f c.records c.entry }

/-- The number of slopes of a calibration sensor (08 R151). -/
def Calibration.slopesOf (c : Calibration) (i : Fin 6) : Nat :=
  2 * ((c.sensors.find? fun e => decide (e.1 = i)).map Prod.snd).getD 0

def Calibration.zeroSums (c : Calibration) : Vector (List Int) 6 :=
  Vector.ofFn fun i => List.replicate (c.slopesOf i) 0

/-- The run measures: it is RUNNING in PUSH or PULL (08 R153). -/
def Calibration.measuring (c : Calibration) : Bool :=
  c.running && (decide (c.phase = some .push) || decide (c.phase = some .pull))

/-- The actuator of the current entry. -/
def Calibration.actuator (c : Calibration) : Option Nat := (c.records[c.entry]?).map fun r => r.actuator

/-! ## Commits -/

/-- The output recorded for a phase (08 R152). -/
def recordOutput (phase : Phase) (v : Int) (r : ResponseRecord) : ResponseRecord :=
  match phase with
  | .push => { r with pushOut := some v }
  | .pull => { r with pullOut := some v }
  | .storing => r

/-- A restart counted in a phase (08 R157), without bound (log 30). -/
def countRestart (phase : Phase) (r : ResponseRecord) : ResponseRecord :=
  match phase with
  | .push => { r with restartsPush := r.restartsPush + 1 }
  | .pull => { r with restartsPull := r.restartsPull + 1 }
  | .storing => r

/-- The sums of a phase set to 0. -/
def Calibration.clearSums (c : Calibration) (phase : Phase) : Calibration :=
  match phase with
  | .push => { c with push := c.zeroSums }
  | .pull => { c with pull := c.zeroSums }
  | .storing => c

/-- A foreign commit restarts the phase in progress (08 R157); the void count is kept. -/
def State.foreignCommit (s : State) : State :=
  if s.cal.measuring then
    match s.cal.phase, s.cal.actuator with
    | some phase, some a =>
      let c := { s.cal with serial := s.cal.serial + 1, settle := 0, measure := 0 }
      let note := fun r => recordOutput phase (s.outputValue a) (countRestart phase r)
      { s with cal := (c.clearSums phase).updRecord note }
    | _, _ => s
  else s

/-- A commit of the law unit, reported to the calibration unit (05 R100, 08 R157). -/
def State.commit (s : State) : State := s.commitVector.foreignCommit

/-- A rest commit (05 Table 5.4). -/
def State.restCommit (s : State) : State := s.integratorReset.clearPokes.commit

/-- A phase begins with its commit (08 R152). -/
def State.phaseCommit (s : State) (phase : Phase) : State :=
  match s.cal.records[s.cal.entry]? with
  | none => s
  | some r =>
    let v : Int := if phase = .push then r.amplitude else -r.amplitude
    let t := ({ s with law := { s.law with calPoke := some (r.actuator, v) } } : State).commitVector
    let c := { t.cal with
      serial := t.cal.serial + 1, settle := 0, measure := 0, voids := 0, phase := some phase }
    { t with cal := (c.clearSums phase).updRecord (recordOutput phase (t.outputValue r.actuator)) }

/-! ## The end of a run (08 R161) -/

/-- The run ends: its counts, sums and tallies are dropped and its transfers are not made. -/
def State.stopRun (s : State) (reason : EndReason) : State :=
  let t := { s with cal := { s.cal with
      running := false, endReason := some reason, phase := none, entry := 0, settle := 0, measure := 0, voids := 0,
      push := Vector.replicate 6 [], pull := Vector.replicate 6 [], tallies := [], storing := [] } }
  t.setArbiter t.mem.arbiter.dropCalibration

/-- A run that ends in OPEN makes its own final commit and raises CAL_END (08 Table 8.4). -/
def State.endRun (s : State) (reason : EndReason) : State :=
  let t := s.stopRun reason
  ({ t with law := { t.law with calPoke := none } } : State).commitVector.raise .calEnd

/-- A run in progress at the loop's entry to IDLE or SAFE ends with LOOP; the entry makes the commit (08 Table 8.4). -/
def State.abortRun (s : State) : State := if s.cal.running then (s.stopRun .loop).raise .calEnd else s

/-! ## Tallies (08 R153 to R156, R158) -/

/-- A cycle opens: it has a tally when the run measures (08 R153). -/
def State.openTally (s : State) (bank : Bank) : State :=
  if s.cal.measuring then
    { s with cal := { s.cal with tallies :=
        s.cal.tallies ++ [{ bank := bank, serial := s.cal.serial, entries := Vector.replicate 6 .nothing }] } }
  else s

/-- What a settlement leaves in a tally (08 Table 8.3). -/
def tallyEntry (c : Calibration) (i : Fin 6) (slopes : Option (List Int)) : TallyEntry :=
  if (c.sensors.any fun e => decide (e.1 = i)) then
    match slopes with
    | none => .miss
    | some e => if e.length = c.slopesOf i then .slopes e else .miss
  else .nothing

/-- A settlement handed to the calibration unit: the slopes of a contributed frame, or none for a miss (08 R154). -/
def State.tallySettlement (s : State) (bank : Bank) (i : Fin 6) (slopes : Option (List Int)) : State :=
  { s with cal := { s.cal with tallies := s.cal.tallies.map fun t =>
      if t.bank = bank then { t with entries := t.entries.set i (tallyEntry s.cal i slopes) } else t } }

/-- The tally lacks the slopes of a calibration sensor (08 R155). -/
def Calibration.tallyVoid (c : Calibration) (t : Tally) : Bool :=
  c.sensors.any fun e => match t.entries[e.1] with
    | .slopes _ => false
    | _ => true

/-- The tally's slopes added into the sums of the phase (08 R155). -/
def Calibration.addTally (c : Calibration) (t : Tally) : Calibration :=
  let add (sums : Vector (List Int) 6) : Vector (List Int) 6 := Vector.ofFn fun i =>
    match t.entries[i] with
    | .slopes e => vaddAll sums[i] e
    | _ => sums[i]
  match c.phase with
  | some .push => { c with push := add c.push }
  | some .pull => { c with pull := add c.pull }
  | _ => c

/-- PUSH gives way to PULL, PULL to STORING (08 R158). -/
def State.endPhase (s : State) : State :=
  match s.cal.phase with
  | some .push => s.phaseCommit .pull
  | some .pull =>
    ({ s with cal := { s.cal with phase := some .storing, storing := s.cal.sensors.map Prod.fst } } : State).request
      .calibration
  | _ => s

/-- A void counted in a phase's record (08 R155). -/
def countVoid (phase : Option Phase) (r : ResponseRecord) : ResponseRecord :=
  match phase with
  | some .push => { r with voidsPush := r.voidsPush + 1 }
  | some .pull => { r with voidsPull := r.voidsPull + 1 }
  | _ => r

/-- A void cycle; the ninth of a phase ends the run (08 R155, R156). -/
def State.countVoidCycle (s : State) : State :=
  let t := { s with cal := { s.cal with voids := s.cal.voids + 1 }.updRecord (countVoid s.cal.phase) }
  if 9 ≤ t.cal.voids then t.endRun .missing else t

/-- A cycle that is not void counts (08 R155). -/
def State.countCycle (s : State) (t : Tally) : State :=
  if s.cal.settle < s.cal.nS then { s with cal := { s.cal with settle := s.cal.settle + 1 } }
  else
    let u := { s with cal := { s.cal with measure := s.cal.measure + 1 }.addTally t }
    if s.cal.nM ≤ u.cal.measure then u.endPhase else u

/-- The tally of a cycle judged at its close, or at its abandonment while ACCUMULATING (08 R155). -/
def State.judgeTally (s : State) (bank : Bank) (abandoned : Bool) : State :=
  match s.cal.tallies.find? fun t => decide (t.bank = bank) with
  | none => s
  | some t =>
    let u := { s with cal := { s.cal with tallies := s.cal.tallies.filter fun t => decide (t.bank ≠ bank) } }
    if s.cal.measuring && decide (t.serial = s.cal.serial) then
      if abandoned || s.cal.tallyVoid t then u.countVoidCycle else u.countCycle t
    else u

end Sys2Proof.Machine
end

