-- ==== Sys2Proof/Machine/Capture.lean ====
section
/-! DEFINITION. The monitor unit's captures (09): the peak list taken at a law's beginning and the snapshot store's triggers
and content. -/

namespace Sys2Proof.Machine

/-! ## Peak capture (09 R171) -/

/-- The peak record of slope j of a sensor. -/
def peakOf (i : Fin 6) (j : Nat) (e : Int) : PeakRecord :=
  { sensor := i, subaperture := j / 2, axisY := decide (j % 2 = 1), value := e }

/-- The slopes of the filled sensors that are not 0, in ascending sensor and slope order. -/
def peakCandidates (buf : Vector (Option (List Int)) 6) : List PeakRecord :=
  (allSensors.map fun i =>
    match buf[i] with
    | none => []
    | some e => (((List.range e.length).map fun j => peakOf i j (vget e j)).filter fun p => decide (p.value ≠ 0))).flatten

/-- Insertion behind every record at least as large: equal magnitudes keep their order. -/
def insertPeak (p : PeakRecord) : List PeakRecord → List PeakRecord
  | [] => [p]
  | q :: l => if q.value.natAbs < p.value.natAbs then p :: q :: l else q :: insertPeak p l

/-- The first five by magnitude, then sensor, then slope (09 R171). -/
def peakList (buf : Vector (Option (List Int)) 6) : List PeakRecord :=
  ((peakCandidates buf).foldl (fun l p => insertPeak p l) []).take 5

/-- A law begins for a live cycle while the capture is ARMED (09 R171). -/
def State.capturePeaks (s : State) (k : Cycle) : State :=
  if s.mon.peakArmed && (allSensors.any fun i => (s.buffer k.bank)[i].isSome) then
    ({ s with mon := { s.mon with
        peakArmed := false, peakFn := some k.fn, peaks := peakList (s.buffer k.bank) } } : State).raise .peakReady
  else s

/-! ## Snapshot store (09 R174 to R176) -/

/-- A section is selected: slopes 0, residuals 1, codes 2 (09 R173). -/
def sectionSelected (selection i : Nat) : Bool := selection.testBit i

/-- The slopes section (09 R176). -/
def snapSlopes (buf : Vector (Option (List Int)) 6) : List Int :=
  (allSensors.map fun i => (buf[i]).getD []).flatten

/-- The sixteen header fields and the selected sections (09 Table 9.5). -/
def State.snapshot (s : State) (run : LawRun) : List Int :=
  let buf := s.buffer run.bank
  let sel := s.mon.snapSelection
  let slopes := if sectionSelected sel 0 then snapSlopes buf else []
  let res := if sectionSelected sel 1 then run.residual else []
  let codes := if sectionSelected sel 2 then s.law.committed else []
  let filled := allSensors.filter fun i => sectionSelected sel 0 && (buf[i]).isSome
  let header : List Int :=
    [ (run.fn.toNat : Int), triggerCode s.mon.snapTrigger, lawModeCode run.mode, setCode run.set, s.mem.nAct,
      s.law.satCount, sel, filled.length ]
    ++ (allSensors.map fun i => if i ∈ filled then ((((buf[i]).getD []).length / 2 : Nat) : Int) else 0)
    ++ [ if sectionSelected sel 1 then ((16 + slopes.length : Nat) : Int) else 0,
         if sectionSelected sel 2 then ((16 + slopes.length + res.length : Nat) : Int) else 0 ]
  header ++ slopes ++ res ++ codes

/-- The trigger fires at a law's completion (09 R174, R175). -/
def State.snapFires (s : State) (applied : Bool) : Bool :=
  decide (s.mon.snapState = .armed) &&
    match s.mon.snapTrigger with
    | .next => true
    | .onSaturation => applied && decide (s.mon.snapThreshold ≤ s.law.satCount)
    | .onHold => s.mon.onsetSeen

/-- The store is tested at a law's completion; when it fires, its content is fixed (09 R176). -/
def State.testSnapshot (s : State) (run : LawRun) (applied : Bool) : State :=
  if s.snapFires applied then
    { s with mon := { s.mon with snapState := .filling, snapContent := s.snapshot run, snapFn := run.fn } }
  else s

/-- An onset reaches a store armed with ON_HOLD (09 R175). -/
def State.markOnset (s : State) : State :=
  if s.mon.snapState = .armed ∧ s.mon.snapTrigger = .onHold then { s with mon := { s.mon with onsetSeen := true } } else s

end Sys2Proof.Machine
end

