-- ==== Sys2Proof/Machine/Cycles.lean ====
section
/-! DEFINITION. The hold sources at work (06 R126 to R129), abandonment, settlement and closing of cycles (02), the opening of a
cycle, the offering of frames, the passage to law, and the loop that carries a step's follow-ups to their end. -/

namespace Sys2Proof.Machine

/-! ## Deferred edits (05 R109) -/

/-- An ACT.WRITE is applied: records, integrators, and a commit when it calls for one (05 R106 to R108). -/
def State.applyEdit (s : State) (first : Nat) (new : List ActRecord) : State :=
  if s.editNeedsCommit first new then (s.writeActuators first new).commit else s.writeActuators first new

/-- The ACT.WRITE in execution waits for the end of a law. -/
def ControlLink.awaitsLaw (l : ControlLink) : Bool :=
  match l.executing with
  | some c => decide (c.progress = .deferred)
  | none => false

/-- The deferred edit, if any, is applied at the law's end and its reply formed (05 R109). -/
def State.applyDeferred (s : State) : State :=
  match s.law.deferred with
  | none => s
  | some (first, new) =>
    let t := ({ s with law := { s.law with deferred := none } } : State).applyEdit first new
    if t.link.awaitsLaw then t.reply .done [] else t

/-! ## Retirement and abandonment (02 R48, R49) -/

/-- A cycle retires: its record is freed and its bank released; the waiting heads are to be offered again (02 R48, R35). -/
def State.retire (s : State) (bank : Bank) : State :=
  { s with cyc := { s.cyc with cycles := s.cyc.cycles.filter fun k => decide (k.bank ≠ bank), reoffer := true } }

/-- The law in progress is discarded: a deferred edit is applied and the cycle retires (05 R93). -/
def State.discardLaw (s : State) (bank : Bank) : State :=
  (({ s with law := { s.law with inProgress := none } } : State).applyDeferred).retire bank

/-- A tally dropped without effect (08 R155). -/
def State.dropTally (s : State) (bank : Bank) : State :=
  { s with cal := { s.cal with tallies := s.cal.tallies.filter fun t => decide (t.bank ≠ bank) } }

/-- A cycle is abandoned (02 R49); `entry` says that the loop's entry to IDLE or SAFE is the cause (08 R155). -/
def State.abandon (s : State) (bank : Bank) (entry : Bool) : State :=
  match s.cycleAt bank with
  | none => s
  | some k =>
    if k.abandoned then s
    else
      let t := (({ s with cyc := { s.cyc with abandonedCount := counterInc s.cyc.abandonedCount } } : State).updCycle bank
        fun k => { k with abandoned := true }).removeJobs bank
      match k.state with
      | .accumulating =>
        let u := ({ t with cyc := { t.cyc with lastClosed := some k.fn } } : State).updCycle bank
          fun k => { k with state := .draining, deadline := none }
        if entry then u.dropTally bank else if k.calMark then u.judgeTally bank true else u
      | .draining => t
      | .law => t.discardLaw bank

/-- The cycle whose law is in progress is abandoned (06 R127). -/
def State.abandonLaw (s : State) : State :=
  match s.law.inProgress with
  | none => s
  | some run => s.abandon run.bank false

/-! ## The loop state and the holds (06) -/

/-- The loop state changes, raising LOOP_STATE (06 R115). -/
def State.setLoop (s : State) (l : LoopState) : State :=
  if s.loop.state = l then s else ({ s with loop := { s.loop with state := l } } : State).raise .loopState

/-- A hold onset (06 R126, R127). -/
def State.onset (s : State) : State :=
  let t := ((s.setLoop .held).raise .holdChange).markOnset
  match t.loop.params.timing with
  | .immediate => t.abandonLaw
  | .atBoundary => t

/-- A hold release (06 R128). -/
def State.release (s : State) : State :=
  let t := (s.setLoop .closed).raise .holdChange
  { t with loop := { t.loop with runCount := 0 } }

/-- The effective hold is evaluated again after a change; `before` is what held before it (06 R125, R126, R128). -/
def State.holdsChanged (s : State) (before : HoldSet) : State :=
  match s.loop.state with
  | .closed => if !before.any && s.effectiveHold then s.onset else s
  | .held =>
    if before.any && !s.effectiveHold then s.release
    else if s.holding = before then s
    else s.raise .holdChange
  | _ => s

/-- A sensor requests a hold (01 R21). -/
def Sensor.requestsHold (x : Sensor) : Bool := x.flags.holdreq || (x.flags.fx && decide (x.config.fx = .hold))

/-- The INBAND source's value from the flag records (01 R21). -/
def State.inbandNow (s : State) : Bool := allSensors.any fun i => s.isActive i && (s.sensor i).requestsHold

/-- Intake evaluates the INBAND source again and reports a change of its value (01 R21). -/
def State.reportInband (s : State) : State :=
  if s.inbandNow = s.loop.inband then s
  else ({ s with loop := { s.loop with inband := s.inbandNow } } : State).holdsChanged s.holding

/-- The figure Q of an applied law reaches the divergence monitor (06 R129). -/
def State.takeQ (s : State) (q : Nat) : State :=
  let p := s.loop.params
  if p.rDiv = 0 then { s with loop := { s.loop with runCount := 0 } }
  else if (256 * p.rDiv) ^ 2 < q then
    if p.nDiv ≤ s.loop.runCount + 1 then
      (({ s with loop := { s.loop with runCount := 0, diverge := true } } : State).raise .diverge).holdsChanged s.holding
    else { s with loop := { s.loop with runCount := s.loop.runCount + 1 } }
  else { s with loop := { s.loop with runCount := 0 } }

/-! ## Closing (02 R43, R44) -/

/-- The counter of a close reason. -/
def countClose (c : CycleController) : CloseReason → CycleController
  | .complete => { c with closesComplete := counterInc c.closesComplete }
  | .settled => { c with closesSettled := counterInc c.closesSettled }
  | .deadline => { c with closesDeadline := counterInc c.closesDeadline }
  | .overrun => { c with closesOverrun := counterInc c.closesOverrun }

/-- A live cycle closes (02 R43); the close is reported to the calibration unit when the cycle is marked. -/
def State.close (s : State) (bank : Bank) (reason : CloseReason) : State :=
  match s.cycleAt bank with
  | none => s
  | some k =>
    let t := ({ s with
        cyc := countClose { s.cyc with lastClosed := some k.fn } reason
        mon := { s.mon with deadlineClose := decide (reason = .deadline) } } : State).updCycle bank
      fun k => { k with state := .draining, deadline := none, closeReason := some reason }
    if k.calMark then t.judgeTally bank false else t

/-- Every expected sensor is settled (02 R44). -/
def Cycle.allSettled (k : Cycle) : Bool :=
  allSensors.all fun i => !k.expected[i] || decide (k.settlement[i] ≠ .unsettled)

/-- Every expected sensor has contributed (02 Table 2.10). -/
def Cycle.allContributed (k : Cycle) : Bool :=
  allSensors.all fun i => !k.expected[i] || decide (k.settlement[i] = .contributed)

/-- The check for completeness (02 R44). -/
def State.checkComplete (s : State) (bank : Bank) : State :=
  match s.cycleAt bank with
  | none => s
  | some k =>
    if k.isOpen && k.allSettled then s.close bank (if k.allContributed then .complete else .settled) else s

/-! ## Settlement (02 R40 to R42) -/

def State.setSettlement (s : State) (bank : Bank) (i : Fin 6) (st : Settlement) : State :=
  s.updCycle bank fun k => { k with settlement := k.settlement.set i st }

/-- Miss handling substitutes (02 R41). -/
def State.substitutes (s : State) (k : Cycle) (i : Fin 6) : Bool :=
  decide ((s.sensor i).config.policy = .saved) && (s.savedOf i).valid && decide (k.set = some (s.savedOf i).setTag)
    && decide ((s.savedOf i).useCount + s.pendingSub i < (s.sensor i).config.hMax)

/-- Step 1 of a missed sensor's settlement: the record, and the substitution job it may call for (02 R40, R41). -/
def State.recordMiss (s : State) (bank : Bank) (i : Fin 6) (excused noSub : Bool) : State :=
  match s.cycleAt bank with
  | none => s
  | some k =>
    if !noSub && s.substitutes k i then
      ((s.setSettlement bank i (.substituted excused)).setPendingSub i (s.pendingSub i + 1)).enqueueJob
        { kind := .substitution, bank := bank, sensor := i }
    else s.setSettlement bank i (.omitted excused)

/-- Step 3: a settlement in a marked cycle is handed to the calibration unit (02 R40). -/
def State.handSettlement (s : State) (bank : Bank) (i : Fin 6) (slopes : Option (List Int)) : State :=
  match s.cycleAt bank with
  | none => s
  | some k => if k.calMark then s.tallySettlement bank i slopes else s

/-- A miss of a sensor that is not ACTIVE: only the misses counter changes at intake (01 R16). -/
def State.missInactive (s : State) (i : Fin 6) (noSub : Bool) (bank : Bank) : State :=
  match s.cycleAt bank with
  | none => s
  | some k =>
    if k.awaits i then
      (((s.recordMiss bank i false noSub).updCounters i fun c => { c with misses := counterInc c.misses }).handSettlement
        bank i none).checkComplete bank
    else s

/-- A sensor that left ACTIVE is settled in every live ACCUMULATING cycle that awaits it, older first (02 R42). -/
def State.settleLeft (s : State) (i : Fin 6) (noSub : Bool) : State :=
  (s.cyc.cycles.map fun k => k.bank).foldl (fun t bank => t.missInactive i noSub bank) s

/-- A sensor's state changes, raising SENSOR_STATE (01 R19). -/
def State.setMode (s : State) (i : Fin 6) (m : SensorMode) : State :=
  if (s.sensor i).mode = m then s else (s.updSensor i fun x => { x with mode := m }).raise .sensorState

/-- The intake queue is emptied at the entry to LOST, each removed frame counted (01 R25). -/
def State.loseQueue (s : State) (i : Fin 6) : State :=
  s.updSensor i fun x => { x with
    queue := []
    counters := { x.counters with lostFrames := counterAdd x.counters.lostFrames x.queue.length } }

/-- A sensor becomes LOST (01 R19, R25). -/
def State.becomeLost (s : State) (i : Fin 6) : State :=
  let t := s.setMode i .lost
  let u := if s.isActive i then t.settleLeft i false else t
  (u.loseQueue i).reportInband

/-- A non-excused miss of an ACTIVE sensor (01 R16). -/
def State.reportMiss (s : State) (i : Fin 6) : State :=
  let n := countInc255 (s.sensor i).missCount
  let t := s.updSensor i fun x => { x with
    missCount := n, counters := { x.counters with misses := counterInc x.counters.misses } }
  if (s.sensor i).config.kMiss ≤ n then (t.updSensor i fun x => { x with missCount := 0 }).becomeLost i else t

/-- Step 2: a miss reported to intake (01 R16). -/
def State.reportSettledMiss (s : State) (i : Fin 6) (excused : Bool) : State :=
  if s.isActive i then
    if excused then s.updCounters i fun c => { c with excusedMisses := counterInc c.excusedMisses }
    else s.reportMiss i
  else s.updCounters i fun c => { c with misses := counterInc c.misses }

/-- A sensor is marked missed in a cycle and settled by miss handling; `check` asks for the completeness check (02 R40, R41,
log 8). -/
def State.markMissed (s : State) (bank : Bank) (i : Fin 6) (excused check : Bool) : State :=
  match s.cycleAt bank with
  | none => s
  | some k =>
    if k.awaits i then
      let t := ((s.recordMiss bank i excused false).reportSettledMiss i excused).handSettlement bank i none
      if check then t.checkComplete bank else t
    else s

/-- Every sensor that a cycle still awaits is marked missed, in ascending order, and the cycle closes with the reason
(02 R45, R46, log 8). -/
def State.closeWithMisses (s : State) (bank : Bank) (reason : CloseReason) : State :=
  (allSensors.foldl (fun t i => t.markMissed bank i false false) s).close bank reason

/-- A sensor participates in the set a cycle bound (02 R31). -/
def State.participates (s : State) (set : SetId) (i : Fin 6) : Bool :=
  match set with
  | none => false
  | some n => ((s.setRec n).nSubOf i).isSome

/-- A sensor contributes to a cycle (02 R31, R40; 09 R169). -/
def State.contribute (s : State) (bank : Bank) (i : Fin 6) (slopes : List Int) : State :=
  match s.cycleAt bank with
  | none => s
  | some k =>
    let t := s.setSettlement bank i .contributed
    let u := if s.participates k.set i then
        t.enqueueJob { kind := .contribution slopes, bank := bank, sensor := i } else t
    let v := u.setBuffer bank ((u.buffer bank).set i (some slopes))
    let w := if v.isActive i then v.updSensor i fun x => { x with missCount := 0 } else v
    (w.handSettlement bank i (some slopes)).checkComplete bank

/-! ## Slope correction (01 R8 to R10) -/

/-- What the correction of one slope gives (01 Table 1.4). -/
inductive SlopeCase where
  | excluded | noMeasurement | kept (e : Int) | saturated (e : Int)
  deriving DecidableEq, Repr

/-- The first case of 01 Table 1.4 that applies to slope j. -/
def slopeCase (exclusion : List Nat) (page : List Int) (j : Nat) (raw : Int) : SlopeCase :=
  if j / 2 ∈ exclusion then .excluded
  else if raw = -32768 then .noMeasurement
  else if raw - vget page j < -32767 then .saturated (-32767)
  else if 32767 < raw - vget page j then .saturated 32767
  else .kept (raw - vget page j)

def SlopeCase.value : SlopeCase → Int
  | .excluded => 0
  | .noMeasurement => 0
  | .kept e => e
  | .saturated e => e

def SlopeCase.measured : SlopeCase → Bool
  | .excluded => false
  | .noMeasurement => false
  | _ => true

def SlopeCase.isSaturated : SlopeCase → Bool
  | .saturated _ => true
  | _ => false

/-- The cases of a frame's slopes against a page. -/
def Sensor.slopeCases (x : Sensor) (p : Fin 2) (raw : List Int) : List SlopeCase :=
  (List.range raw.length).map fun j => slopeCase x.exclusion (x.page p) j (vget raw j)

/-- The corrected slopes (01 R9). -/
def Sensor.corrected (x : Sensor) (p : Fin 2) (raw : List Int) : List Int := (x.slopeCases p raw).map SlopeCase.value

/-- The mean square of a correction (01 R10). -/
def meanSquareOf (cases : List SlopeCase) : Nat :=
  let used := cases.filter SlopeCase.measured
  (used.map fun c => c.value.natAbs ^ 2).sum / used.length

/-- A frame's slopes are corrected: MS_s and the counters follow (01 R9, R10). -/
def State.correct (s : State) (i : Fin 6) (p : Fin 2) (raw : List Int) : State :=
  s.updSensor i fun x =>
    let cases := x.slopeCases p raw
    { x with
      meanSquare := meanSquareOf cases
      counters := { x.counters with
        noMeasurement := counterAdd x.counters.noMeasurement (cases.filter fun c => decide (c = .noMeasurement)).length
        saturatedCorrection := counterAdd x.counters.saturatedCorrection (cases.filter SlopeCase.isSaturated).length } }

/-- A frame's correction unless its slopes are unused (01 R8). -/
def State.correctFrame (s : State) (i : Fin 6) (p : Fin 2) (f : Frame) : State :=
  if (s.sensor i).slopesUnused f then s else s.correct i p f.slopes

/-! ## Taking and assigning frames (02 R30 to R34) -/

/-- A drop request is sent when a frame with FX set is taken under DROP_SAVED (01 R22). -/
def State.dropOnTake (s : State) (i : Fin 6) (f : Frame) : State :=
  if f.flags.fx && decide ((s.sensor i).config.fx = .dropSaved) then s.invalidate i else s

/-- The taken counter rises and the drop request is sent (01 R5, R22). -/
def State.countTaken (s : State) (i : Fin 6) (f : Frame) : State :=
  (s.updCounters i fun c => { c with taken := counterInc c.taken }).dropOnTake i f

/-- The head leaves its queue and is taken (01 R6). -/
def State.takeHead (s : State) (i : Fin 6) (f : Frame) : State :=
  (s.updSensor i fun x => { x with queue := x.queue.tail }).countTaken i f

/-- The banks of the cycles opened before the one bound to a bank. -/
def State.olderBanks (s : State) (bank : Bank) : List Bank :=
  (s.cyc.cycles.map fun k => k.bank).takeWhile fun x => decide (x ≠ bank)

/-- The skip-ahead marks for a sensor whose frame is assigned to a cycle (02 R34). -/
def State.skipAhead (s : State) (bank : Bank) (i : Fin 6) : State :=
  (s.olderBanks bank).foldl (fun t x => t.markMissed x i false true) s

/-- A corrected frame is assigned to a cycle after the skip-ahead marks (02 R31, R34, log 9). -/
def State.assign (s : State) (bank : Bank) (i : Fin 6) (f : Frame) (slopes : List Int) : State :=
  let t := s.skipAhead bank i
  match t.cycleAt bank with
  | none => t
  | some k =>
    if k.awaits i then
      if (t.sensor i).slopesUnused f then t.markMissed bank i true true else t.contribute bank i slopes
    else t

/-- A frame taken into an existing cycle of its FN (02 R31). -/
def State.takeInto (s : State) (k : Cycle) (i : Fin 6) (f : Frame) : State :=
  let t := s.takeHead i f
  if k.expected[i] && decide (k.settlement[i] ≠ .unsettled) then
    t.updCounters i fun c => { c with duplicate := counterInc c.duplicate }
  else
    (t.correctFrame i k.binding[i] f).assign k.bank i f ((t.sensor i).corrected k.binding[i] f.slopes)

/-! ## Opening (02 R36 to R39) -/

/-- The bank a cycle opens into: A when it is free (log 6). -/
def State.freeBank (s : State) : Bank := if (s.cycleAt .bankA).isNone then .bankA else .bankB

/-- The set chosen at an opening, and the DEGRADED source (02 Table 2.7). -/
def State.chooseSet (s : State) : SetId × Bool :=
  match s.cyc.selection with
  | .fixed n => (some n, false)
  | .auto =>
    match s.currentEntry with
    | none => (none, true)
    | some n => if (s.setRec n).state = .complete then (some n, false) else (none, true)

/-- The DEGRADED source takes a value, reported to the loop supervisor (02 R37, 06 R123). -/
def State.setDegraded (s : State) (d : Bool) : State :=
  ({ s with cyc := { s.cyc with degraded := d } } : State).holdsChanged s.holding

/-- A sensor's pages exchange roles when its commit is pending (01 R12). -/
def Sensor.carryOut (x : Sensor) : Sensor :=
  if x.commitPending then { x with activePage := otherPage x.activePage, commitPending := false } else x

/-- Every pending reference commit is carried out (01 R12). -/
def State.carryOutCommits (s : State) : State :=
  { s with intake := { s.intake with sensors := s.intake.sensors.map Sensor.carryOut } }

/-- The expected set of an opening cycle (02 R39). -/
def State.expectedFor (s : State) (set : SetId) : Vector Bool 6 :=
  Vector.ofFn fun i => s.isActive i && (s.cal.running || set.isNone || s.participates set i)

/-- Saved contributions tagged with another set are invalidated (02 R38). -/
def State.invalidateOthers (s : State) (set : SetId) : State :=
  let drop (x : Saved) : Saved := if x.valid && decide (some x.setTag ≠ set) then { x with valid := false } else x
  { s with recon := { s.recon with saved := s.recon.saved.map drop } }

/-- The record of an opening cycle (02 R36 steps 4 to 7). -/
def State.newCycle (s : State) (bank : Bank) (fn : Half) (set : SetId) : Cycle :=
  { fn := fn, bank := bank, state := .accumulating, set := set,
    binding := Vector.ofFn fun i => (s.sensor i).activePage,
    expected := s.expectedFor set, presence := s.presence, settlement := Vector.replicate 6 .unsettled,
    calMark := s.cal.running, closeReason := none, deadline := some s.cyc.tDl, outstanding := 0, abandoned := false }

/-- The frame numbers an opening skipped (02 R36 step 8). -/
def skippedBy (last : Option Half) (fn : Half) : Nat :=
  match last with
  | none => 0
  | some l => fnSkipped l fn

/-- A cycle opens in a free bank (02 R36). -/
def State.openCycle (s : State) (bank : Bank) (fn : Half) : State :=
  let choice := s.chooseSet
  let t := ((s.setBank bank zeroVector).setBuffer bank (Vector.replicate 6 none)).setDegraded choice.2
  let u := t.carryOutCommits
  let v := u.invalidateOthers choice.1
  ({ v with cyc := { v.cyc with
      cycles := v.cyc.cycles ++ [u.newCycle bank fn choice.1]
      skipped := counterAdd v.cyc.skipped (skippedBy v.cyc.lastOpened fn)
      opened := counterInc v.cyc.opened
      lastOpened := some fn
      lastSet := some choice.1 } } : State).openTally bank

/-- A frame of a new exposure opens a cycle and is assigned to it (02 R33, R36, R44). -/
def State.openWith (s : State) (i : Fin 6) (f : Frame) : State :=
  let bank := s.freeBank
  let t := (s.takeHead i f).openCycle bank f.fn
  match t.cycleAt bank with
  | none => t
  | some k =>
    ((t.correctFrame i k.binding[i] f).assign bank i f ((t.sensor i).corrected k.binding[i] f.slopes)).checkComplete bank

/-! ## Offering (02 R30, R33, R35) -/

/-- The loop opens no cycle (02 R30 case 1). -/
def LoopState.closedToCycles (l : LoopState) : Bool := decide (l = .idle) || decide (l = .safe)

/-- A frame is late (02 R30 case 3). -/
def State.isLate (s : State) (fn : Half) : Bool :=
  !(s.cyc.cycles.all fun k => k.abandoned || fnNewer fn k.fn)
    || (match s.cyc.lastClosed with
      | none => false
      | some c => !fnNewer fn c)

/-- The live ACCUMULATING cycle of an FN (02 R30 case 2). -/
def State.openCycleOf (s : State) (fn : Half) : Option Cycle :=
  s.cyc.cycles.find? fun k => k.isOpen && decide (k.fn = fn)

/-- The head of a sensor's queue is offered and disposed of by the first case of 02 Table 2.4; the mark says that it was taken. -/
def State.offerHead (s : State) (i : Fin 6) : State × Bool :=
  match (s.sensor i).queue with
  | [] => (s, false)
  | f :: _ =>
    if s.loop.state.closedToCycles then
      ((s.takeHead i f).correctFrame i (s.sensor i).activePage f, true)
    else
      match s.openCycleOf f.fn with
      | some k => (s.takeInto k i f, true)
      | none =>
        if s.isLate f.fn then
          ((s.takeHead i f).updCounters i fun c => { c with late := counterInc c.late }, true)
        else if s.cyc.cycles.length < 2 then (s.openWith i f, true)
        else if s.cyc.cycles.all Cycle.isOpen then
          (match s.cyc.cycles with
          | k :: _ => (s.closeWithMisses k.bank .overrun, false)
          | [] => (s, false))
        else (s, false)

/-! ## Passage to law (02 R47, R48) -/

/-- The oldest cycle can pass to LAW (02 R47). -/
def State.canPass (s : State) : Bool :=
  match s.cyc.cycles with
  | [] => false
  | k :: _ => decide (k.state = .draining) && decide (k.outstanding = 0) && s.law.inProgress.isNone

/-- The oldest cycle passes to LAW: the law of a live one begins, that of an abandoned one ends at once (05 R90). -/
def State.passToLaw (s : State) : State :=
  match s.cyc.cycles with
  | [] => s
  | k :: _ =>
    let t := s.updCycle k.bank fun k => { k with state := .law }
    if k.abandoned then t.retire k.bank else (t.beginLaw k).capturePeaks k

/-! ## The follow-ups of a step (log 7) -/

/-- The waiting head that arrived earliest among those not yet considered (02 R35). -/
def State.nextHead (s : State) (considered : List Nat) : Option (Fin 6 × Nat) :=
  allSensors.foldl (fun best i =>
    match (s.sensor i).queue with
    | [] => best
    | f :: _ =>
      if f.stamp ∈ considered then best
      else match best with
        | none => some (i, f.stamp)
        | some b => if f.stamp < b.2 then some (i, f.stamp) else best) none

/-- What is still to be offered: nothing, the new head of one sensor, or the waiting heads not yet considered. -/
inductive Offering where
  | nothing
  | headOf (i : Fin 6)
  | heads (considered : List Nat)
  deriving DecidableEq, Repr

/-- The follow-ups: a cycle that can pass to LAW passes; when none can, the next head is offered, be it a waiting head that a
freed bank offers again or a frame that becomes the head of its queue (01 R6, 02 R35, R47). After a retirement the passage so
comes before the re-offer, which R48 leaves without an order: DESIGN CHOICE, log 7. -/
def State.followUp : Nat → Offering → State → State
  | 0, _, s => s
  | n + 1, o, s =>
    if s.cyc.reoffer then
      State.followUp n (.heads []) { s with cyc := { s.cyc with reoffer := false } }
    else if s.canPass then State.followUp n o s.passToLaw
    else
      match o with
      | .nothing => s
      | .headOf i =>
        let r := s.offerHead i
        State.followUp n (if r.2 then .headOf i else .nothing) r.1
      | .heads considered =>
        match s.nextHead considered with
        | none => s
        | some (i, stamp) => State.followUp n (.heads (stamp :: considered)) (s.offerHead i).1

/-- Frames in the intake queues. -/
def State.queuedFrames (s : State) : Nat := (allSensors.map fun i => (s.sensor i).queue.length).sum

/-- More follow-ups than a step can have: each retires or passes a cycle, or considers a frame once for each bank freed. -/
def State.followBound (s : State) : Nat := (s.queuedFrames + s.cyc.cycles.length + 3) * (s.queuedFrames + 6)

/-- A step's follow-ups, the next job's start and the arbiter's grant. -/
def State.settle (s : State) (o : Offering) : State := ((State.followUp s.followBound o s).startJob).grant

end Sys2Proof.Machine
end

