-- ==== Sys2Proof/Machine/Entry.lean ====
section
/-! DEFINITION. The loop's entry to IDLE or SAFE (06 R116, 02 R50), shared by the loop commands and a drive link's failure. -/

namespace Sys2Proof.Machine

/-- Every existing cycle is abandoned, older first, the markers become undefined, the DEGRADED source inactive and the
pending substitutions 0 (02 R41, R50). -/
def State.abandonAll (s : State) : State :=
  let t := (s.cyc.cycles.map fun k => k.bank).foldl (fun u bank => u.abandon bank true) s
  { t with cyc := { t.cyc with
      lastClosed := none, lastOpened := none, lastSet := none, degraded := false, pendingSubs := Vector.replicate 6 0 } }

/-- What the monitor unit forgets at the entry (09 R175, R179). -/
def State.entryMarks (s : State) : State := { s with mon := { s.mon with onsetSeen := false, deadlineClose := false } }

/-- The entry to IDLE or SAFE with the steps of 06 R116; `rest` is no for LOOP.RESET, which makes no rest commit (06 R122). -/
def State.enterRest (s : State) (l : LoopState) (rest : Bool) : State :=
  let t := ((((s.setLoop l).entryMarks).abandonAll).invalidateAll).abortRun
  let u := if rest then t.restCommit else t
  (u.carryOutCommits).settle (.heads [])

end Sys2Proof.Machine
end

