-- ==== Sys2Proof/Machine/Chassis.lean ====
section
/-! DEFINITION. The drive outputs' commands (07): acknowledgements, timer expiries and the DRV.* messages. -/

namespace Sys2Proof.Machine

/-- A link that has become FAILED is reported: DRIVE_FAIL is raised and a running loop enters SAFE (07 R142). -/
def State.reportFailure (s : State) : State :=
  let t := s.raise .driveFail
  if t.loop.state.closedToCycles then t else t.enterRest .safe true

/-- A failure on a BUSY link (07 R140). -/
def State.failLink (s : State) (d : Fin 4) : State :=
  let t := s.updLink d (linkFailure s.drive.tAck s.drive.fMax d (linkCodes s.law.committed s.mem.nAct d))
  if (t.driveLink d).state = .failed then t.reportFailure else t

/-- A checked acknowledgement (07 R139). -/
def State.takeAck (s : State) (d : Fin 4) (seq : Byte) (accept : Bool) : State :=
  if (s.driveLink d).state = .busy ∧ (s.driveLink d).seq = seq then
    if accept then s.updLink d (linkAccept s.drive.tAck d (linkCodes s.law.committed s.mem.nAct d))
    else s.failLink d
  else s.updLink d fun l => { l with late := counterInc l.late }

/-- ACKNOWLEDGEMENT (07 R139, R140). -/
def execAcknowledgement (link : Fin 4) (bytes : List Byte) (s : State) : Result :=
  if ackChecked link bytes then .next (s.takeAck link (ackSeq bytes) (ackAccept bytes)) else .next s

/-- ACK_TIMER_EXPIRY (07 R140). -/
def execAckTimerExpiry (link : Fin 4) (s : State) : Result :=
  if (s.driveLink link).state = .busy ∧ (s.driveLink link).timer.isSome then .next (s.failLink link) else .next s

/-- DRV.PARAM (07 R146). -/
def execDrvParam (s : State) : Result :=
  runMessage .drvParam (fun p s =>
    let t := clampNat 20 2000 (rd32 p 0)
    let f := clampNat 1 15 (rd32 p 4)
    if p.length ≠ 8 then s.refuse .badForm
    else ({ s with drive := { s.drive with tAck := t, fMax := f } } : State).reply
      (doneOr (decide (t ≠ rd32 p 0) || decide (f ≠ rd32 p 4))) [.u32 t, .u32 f]) s

/-! ## DRV.POKE (07 R145) -/

/-- IDLE poke values with one stored, replacing an earlier value of the same actuator. -/
def storePoke (pokes : List (Nat × Int)) (e : Nat × Int) : List (Nat × Int) :=
  (pokes.filter fun q => decide (q.1 ≠ e.1)) ++ [e]

/-- The output value of a poke: brought into the limits, 0 for a DEAD actuator. -/
def pokeOutput (a : ActRecord) (v : Int) : Int := if a.mode = .dead then 0 else clampInt a.lo a.hi v

/-- A poke value lies outside its actuator's limits; a DEAD actuator does not count. -/
def pokeClamped (a : ActRecord) (v : Int) : Bool := decide (a.mode ≠ .dead) && decide (clampInt a.lo a.hi v ≠ v)

def drvPokeAct (p : List Byte) (s : State) : State :=
  let count := rd16 p 0
  let given := rdPairs rdS16 p 2 count
  if p.length ≠ 2 + 4 * count ∨ count = 0 ∨ 1024 < count then s.refuse .badForm
  else if s.loop.state ≠ .idle then s.refuse .wrongState
  else if given.any fun e => decide (s.mem.nAct ≤ e.1) then s.refuse .badValue
  else
    (({ s with law := { s.law with idlePokes := given.foldl storePoke s.law.idlePokes } } : State).commit).reply
      (doneOr (given.any fun e => pokeClamped (s.act e.1) e.2))
      (given.map fun e => [Field.u16 e.1, .s16 (pokeOutput (s.act e.1) e.2)]).flatten

/-- DRV.POKE (07 R145). -/
def execDrvPoke (s : State) : Result := runMessage .drvPoke drvPokeAct s

/-- DRV.RESTART (07 R144). -/
def execDrvRestart (s : State) : Result :=
  runMessage .drvRestart (fun p s =>
    if p.length ≠ 2 then s.refuse .badForm
    else match toLink (rd16 p 0) with
      | none => s.refuse .badValue
      | some d =>
        if (s.driveLink d).state ≠ .failed then s.refuse .wrongState
        else ((s.updLink d fun l => { l with failCount := 0 }).sendOn d).reply .done []) s

/-! ## DRV.STATUS (07 R147) -/

/-- One link in the reply (07 R147, log 18). -/
def State.linkFields (s : State) (d : Fin 4) : List Field :=
  let l := s.driveLink d
  List.flatten
    [ [.u16 (linkCode l.state), .u16 (Config.linkSpan * d.val), .u16 (serviceCount s.mem.nAct d), .u16 l.seq.toNat],
      optField .u16 (l.lastAccepted.map BitVec.toNat),
      [yesNo l.waiting, yesNo l.upToDate, .u16 l.failCount],
      optField .u32 (l.timer.map fun started => s.timeLeft d.val started) ]

/-- DRV.STATUS (07 R147); four free values are drawn, one for each link's timer (log 5). -/
def execDrvStatus (s : State) : Result :=
  runMessage .drvStatus (fun p s =>
    if p.length ≠ 0 then s.refuse .badForm
    else ({ s with freeCount := s.freeCount + 4 } : State).reply .done
      ([.u32 s.drive.tAck, .u32 s.drive.fMax] ++ (allLinks.map s.linkFields).flatten)) s

end Sys2Proof.Machine
end

