-- ==== Sys2Proof/Machine/Control.lean ====
section
/-! DEFINITION. The control link's commands (10): the receiver, the transmitter, link clear and breaks, the notice messages,
the device messages, and power-on reset. -/

namespace Sys2Proof.Machine

/-! ## The receiver (10 R181, R182) -/

/-- A bad frame, or a dropped QUEUE_FULL reply: counted, and LINK_ERROR raised (10 R181, R185). -/
def ControlLink.linkError (l : ControlLink) : ControlLink :=
  { l with dropped := counterInc l.dropped, notices := l.notices ||| (1#12 <<< noticeIndex .linkError) }

/-- QUEUE_FULL replies that the transmitter holds (10 R185). -/
def ControlLink.queueFulls (l : ControlLink) : Nat := (l.transmitter.filter fun r => decide (r.status = .queueFull)).length

/-- A checked frame is offered to the receive queue (10 R182). -/
def ControlLink.offer (l : ControlLink) (f : CommandFrame) : ControlLink :=
  if l.queue.length < Config.receiveQueue then ({ l with queue := l.queue ++ [f] } : ControlLink).beginNext
  else if l.queueFulls < Config.queueFullReplies then
    { l with transmitter := l.transmitter ++ [{ name := f.name, tag := f.tag, status := .queueFull, data := [] }] }
  else l.linkError

/-- The command frame of the bytes after the start marker (10 Table 10.9). -/
def frameOfBytes (got : List Byte) : CommandFrame :=
  { name := (got.drop 2).take 12, tag := BitVec.ofNat 32 (rd32 got 14), payload := (got.drop 18).take (rd16 got 0) }

/-- The CRC-32 carried matches the one computed over length, name, tag and payload (10 R181, R195). -/
def commandChecked (got : List Byte) : Bool :=
  decide (BitVec.ofNat 32 (rd32 got (18 + rd16 got 0)) = crc32 (got.take (18 + rd16 got 0)))

/-- A complete frame, good or bad; the receiver hunts again (10 R181). -/
def ControlLink.complete (l : ControlLink) (got : List Byte) : ControlLink :=
  let l' : ControlLink := { l with receiver := .hunting false }
  if commandChecked got then l'.offer (frameOfBytes got) else l'.linkError

/-- A byte of the frame being received (10 R181). -/
def ControlLink.take (l : ControlLink) (got : List Byte) : ControlLink :=
  if got.length = 2 ∧ Config.maxPayload < rd16 got 0 then ({ l with receiver := .hunting false } : ControlLink).linkError
  else if 2 ≤ got.length ∧ got.length = 22 + rd16 got 0 then l.complete got
  else { l with receiver := .receiving got }

/-- A byte arrives (10 R181, R186). -/
def ControlLink.feed (l : ControlLink) (b : Byte) : ControlLink :=
  match l.receiver with
  | .inBreak => l
  | .hunting saw =>
    if saw ∧ b = 0x5D#8 then { l with receiver := .receiving [] } else { l with receiver := .hunting (decide (b = 0xC3#8)) }
  | .receiving got => l.take (got ++ [b])

/-- Bytes arrive in order. -/
def ControlLink.feedAll (l : ControlLink) (bytes : List Byte) : ControlLink := bytes.foldl ControlLink.feed l

/-- COMMAND_FRAME_RECEIVED (10 R181, R182, log 25). -/
def execCommandFrameReceived (bytes : List Byte) (s : State) : Result := .next { s with link := s.link.feedAll bytes }

/-- COMMAND_LENGTH_ABOVE_LIMIT (10 R181, log 25): the start marker and the length field arrive. -/
def execCommandLengthAboveLimit (length : Half) (s : State) : Result :=
  .next { s with link := s.link.feedAll ([0xC3#8, 0x5D#8] ++ beBytes 2 length.toNat) }

/-! ## Transmitter, link clear and breaks (10 R183, R185, R186) -/

/-- REPLY_SENT (10 R185): the first reply has been sent to its last byte. -/
def execReplySent (s : State) : Result :=
  match s.link.transmitter with
  | [] => .next s
  | r :: rest => .next { s with link := ({ s.link with transmitter := rest, lastSent := replyBytes r } : ControlLink).beginNext }

/-- LINK_CLEAR (10 R186). -/
def execLinkClear (s : State) : Result :=
  .next { s with link := { s.link with
    receiver := .inBreak, queue := [], transmitter := [],
    executing := s.link.executing.map fun c => { c with noReply := true } } }

/-- SHORT_BREAK (10 R186): the frame being received is a bad frame. -/
def execShortBreak (s : State) : Result :=
  match s.link.receiver with
  | .inBreak => .next s
  | .hunting _ => .next { s with link := { s.link with receiver := .hunting false } }
  | .receiving _ => .next { s with link := ({ s.link with receiver := .hunting false } : ControlLink).linkError }

/-- LINE_LEAVES_BREAK (10 R186). -/
def execLineLeavesBreak (s : State) : Result :=
  if s.link.receiver = .inBreak then .next { s with link := { s.link with receiver := .hunting false } } else .next s

/-- UNKNOWN_MESSAGE (10 R183): the command in execution carries a name of no message. -/
def execUnknownMessage (s : State) : Result :=
  match s.link.executing with
  | none => .next s
  | some c => if c.progress = .taken ∧ nameKnown c.frame.name = false then .next (s.refuse .unknown) else .next s

/-! ## Notices (10 R189, R190) -/

def noticeField (n : NoticeBits) : Field := .u16 n.toNat

/-- NTC.MASK (10 R189). -/
def execNtcMask (s : State) : Result :=
  runMessage .ntcMask (fun p s =>
    if p.length ≠ 2 then s.refuse .badForm
    else if 4096 ≤ rd16 p 0 then s.refuse .badValue
    else ({ s with link := { s.link with masks := BitVec.ofNat 12 (rd16 p 0) } } : State).reply .done
      [noticeField (BitVec.ofNat 12 (rd16 p 0)), noticeField s.link.notices]) s

/-- NTC.POLL (10 R190). -/
def execNtcPoll (s : State) : Result :=
  runMessage .ntcPoll (fun p s =>
    if p.length ≠ 0 then s.refuse .badForm
    else ({ s with link := { s.link with notices := 0 } } : State).reply .done
      [noticeField s.link.notices, noticeField s.link.masks]) s

/-! ## Device messages (10 R191, R192) -/

/-- DEV.IDENT (10 R191): vendor, part number, revision, largest payload, notice conditions. -/
def execDevIdent (s : State) : Result :=
  runMessage .devIdent (fun p s =>
    if p.length ≠ 0 then s.refuse .badForm
    else s.reply .done [.u16 2213, .u16 7116, .u16 3, .u16 Config.maxPayload, .u16 12]) s

/-- Step 1 (06 R134). -/
def State.clearLoop (s : State) : State :=
  let t := s.setLoop .idle
  { t with loop := { t.loop with command := false, diverge := false, runCount := 0 } }

/-- Step 2 (02 Table 2.12, 04 Table 4.6, 05 R114, 09 R179). -/
def State.clearCycles (s : State) : State :=
  { s with
    cyc := { s.cyc with
      cycles := [], lastClosed := none, lastOpened := none, lastSet := none, selection := .auto, degraded := false,
      pendingSubs := Vector.replicate 6 0 }
    law := { s.law with inProgress := none, lastApplied := none }
    recon := { s.recon with
      queue := [], bankA := zeroVector, bankB := zeroVector,
      inFlight := s.recon.inFlight.map fun f => { f with orphan := true } }
    mon := { s.mon with deadlineClose := false } }

/-- Step 4 (08 R161, Table 8.5). -/
def State.clearRun (s : State) : State :=
  let t := if s.cal.running then s.stopRun .cleared else s
  { t with cal := { t.cal with records := [], entry := 0, phase := none, tallies := [] } }

/-- Step 5 for one sensor (01 R27). -/
def Sensor.cleared (x : Sensor) : Sensor :=
  { x with
    mode := if x.mode = .disabled then .disabled else .acquiring
    queue := [], acquire := 0, missCount := 0, staleRun := 0, copy := none, flags := Flags.clear, commitPending := false }

/-- Step 5 (01 R27). -/
def State.clearIntake (s : State) : State :=
  { s with
    intake := { s.intake with sensors := s.intake.sensors.map Sensor.cleared }
    loop := { s.loop with inband := false } }

/-- Step 7 (09 R169, R172, R178). -/
def State.clearMonitor (s : State) : State :=
  { s with mon := { s.mon with
      bufA := Vector.replicate 6 none, bufB := Vector.replicate 6 none, peakArmed := false, peakFn := none, peaks := [],
      snapState := .empty, onsetSeen := false, snapContent := [] } }

/-- Step 8 (10 R192). -/
def State.clearNotices (s : State) : State := { s with link := { s.link with notices := 0 } }

/-- The eight steps of DEV.CLEAR (10 R192), and the arbiter's grant over the emptied queue (03 R73). -/
def State.devClear (s : State) : State :=
  ((((((((s.clearLoop).clearCycles).invalidateAll).clearRun).clearIntake).restCommit).clearMonitor).clearNotices).grant

/-- DEV.CLEAR (10 R192). -/
def execDevClear (s : State) : Result :=
  runMessage .devClear (fun p s => if p.length ≠ 0 then s.refuse .badForm else s.devClear.reply .done []) s

/-! ## Power-on reset (00 section 0.7.8) -/

/-- POWER_ON_RESET: every block's power-on state. HOLDN keeps its level, the memory its contents (03 R55, 08 R165), and the
waiting commands and the count of free values stay (log 23). -/
def execPowerOnReset (s : State) : Result :=
  .next { State.reset with
    pending := s.pending
    freeCount := s.freeCount
    mem := { Memory.reset with dram := s.mem.dram }
    loop := { LoopSupervisor.reset with holdnLow := s.loop.holdnLow } }

end Sys2Proof.Machine
end

