-- ==== Sys2Proof/Machine/Edits.lean ====
section
/-! DEFINITION. The law unit's commands (05): a law's completion, the actuator table and the neighbour list. -/

namespace Sys2Proof.Machine

/-! ## Completion (05 R92, R103) -/

/-- The law takes effect: an applied law. -/
def LawRun.applies (run : LawRun) : Bool := decide (run.mode = .normal) && !run.superseded

/-- Saturated actuators. -/
def countSet (flags : List Bool) : Nat := (flags.filter fun b => b).length

/-- An applied law's values become z, the flags, the figures, the last applied FN and the counters (05 R92, R103). -/
def State.takeLaw (s : State) (run : LawRun) : State :=
  { s with law := { s.law with
      z := vwrite s.law.z 0 (vslice s.law.scratch 0 run.satFlags.length)
      satFlags := run.satFlags ++ List.replicate (Config.maxActuators - run.satFlags.length) false
      satCount := countSet run.satFlags
      adjustments := run.adjustments
      violations := run.violations
      lastApplied := some run.fn
      lawsApplied := counterInc s.law.lawsApplied
      adjustTotal := counterAdd s.law.adjustTotal run.adjustments
      violationTotal := counterAdd s.law.violationTotal run.violations } }

/-- The law is no longer in progress; its residuals and Q are those of the last law that formed them (05 R102, log 17). -/
def State.endLaw (s : State) (run : LawRun) : State :=
  { s with law := { s.law with inProgress := none, residual := run.residual, lastQ := run.q } }

/-- A law that has not been discarded completes, in the order of 05 R92 (log 16). -/
def State.completeLaw (s : State) (run : LawRun) : State :=
  let t := s.endLaw run
  let u := if run.applies then (t.takeLaw run).commit else t
  let v := u.testSnapshot run run.applies
  let w := if run.applies then v.takeQ run.q else v
  (w.applyDeferred).retire run.bank

/-- LAW_COMPLETION (05 R92). -/
def execLawCompletion (s : State) : Result :=
  match s.law.inProgress with
  | none => .next s
  | some run => .next ((s.completeLaw run).settle .nothing)

/-! ## The actuator table (05 R106 to R110) -/

/-- The records of an ACT.WRITE, none when one is not acceptable (05 R106 step 3). -/
def rdRecords (p : List Byte) (count : Nat) : Option (List ActRecord) :=
  allSome ((List.range count).map fun k => rdActRecord p (4 + 10 * k))

/-- The edit waits for the end of the law in progress (05 R109). -/
def State.deferEdit (s : State) (first : Nat) (new : List ActRecord) : State :=
  ({ s with law := { s.law with deferred := some (first, new) } } : State).setProgress .deferred

def actWriteAct (p : List Byte) (s : State) : State :=
  let first := rd16 p 0
  let count := rd16 p 2
  if p.length ≠ 4 + 10 * count ∨ count = 0 then s.refuse .badForm
  else if s.mem.nAct < first + count then s.refuse .badValue
  else match rdRecords p count with
    | none => s.refuse .badValue
    | some new =>
      if s.law.inProgress.isSome then s.deferEdit first new else (s.applyEdit first new).reply .done []

/-- ACT.WRITE (05 R106 to R109). -/
def execActWrite (s : State) : Result := runMessage .actWrite actWriteAct s

/-- The IDLE poke value stored for an actuator. -/
def State.idlePoke (s : State) (i : Nat) : Option Int :=
  (s.law.idlePokes.find? fun e => decide (e.1 = i)).map Prod.snd

/-- What ACT.READ gives for one actuator (05 R110, log 18). -/
def State.actFields (s : State) (i : Nat) : List Field :=
  [.s16 (s.act i).lo, .s16 (s.act i).hi, .s16 (s.act i).flat, .u16 (s.act i).gain, .u16 (actModeCode (s.act i).mode),
    .s32 (vget s.law.z i), .u16 (vget s.law.committed i).toNat, yesNo (s.law.satFlags.getD i false)]
    ++ optSigned (s.idlePoke i)

/-- ACT.READ (05 R110); a range beyond N_act is BAD_VALUE even where the reply would also be too long (log 20). -/
def execActRead (s : State) : Result :=
  runMessage .actRead (fun p s =>
    let first := rd16 p 0
    let count := rd16 p 2
    let data := ((List.range count).map fun k => s.actFields (first + k)).flatten
    if p.length ≠ 4 ∨ count = 0 then s.refuse .badForm
    else if s.mem.nAct < first + count then s.refuse .badValue
    else if Config.maxPayload < dataWidth data then s.refuse .badForm
    else s.reply .done data) s

/-! ## The neighbour list (05 R111, R112) -/

/-- The neighbour list may be read and written (05 R111, R112). -/
def LoopState.editsNeighbours (l : LoopState) : Bool := decide (l = .idle) || decide (l = .opened)

/-- A pair with its lower index first. -/
def orderedPair (q : Nat × Nat) : Nat × Nat := (min q.1 q.2, max q.1 q.2)

/-- The distinct pairs of a message that are not on the list, in message order. -/
def newPairs (old given : List (Nat × Nat)) : List (Nat × Nat) :=
  distinct ((given.map orderedPair).filter fun q => decide (q ∉ old))

def nbrAddAct (p : List Byte) (s : State) : State :=
  let count := rd16 p 0
  let given := rdPairs rd16 p 2 count
  if p.length ≠ 2 + 4 * count ∨ count = 0 then s.refuse .badForm
  else if !s.loop.state.editsNeighbours then s.refuse .wrongState
  else if given.any fun q => decide (q.1 = q.2) || decide (s.mem.nAct ≤ q.1) || decide (s.mem.nAct ≤ q.2) then s.refuse .badValue
  else
    let list := s.law.neighbours ++ newPairs s.law.neighbours given
    if Config.maxPairs < list.length then s.refuse .full
    else ({ s with law := { s.law with neighbours := list } } : State).reply .done []

/-- NBR.ADD (05 R111). -/
def execNbrAdd (s : State) : Result := runMessage .nbrAdd nbrAddAct s

/-- NBR.CLEAR (05 R112). -/
def execNbrClear (s : State) : Result :=
  runMessage .nbrClear (fun p s =>
    if p.length ≠ 0 then s.refuse .badForm
    else if !s.loop.state.editsNeighbours then s.refuse .wrongState
    else ({ s with law := { s.law with neighbours := [] } } : State).reply .done []) s

/-- Pairs of the list at positions first.. as fields. -/
def pairFields (l : List (Nat × Nat)) : List Field := (l.map fun q => [Field.u16 q.1, .u16 q.2]).flatten

/-- NBR.READ (05 R112); a range beyond the list is BAD_VALUE even where the reply would also be too long (log 20), and a count
of 0 is accepted (log 21). -/
def execNbrRead (s : State) : Result :=
  runMessage .nbrRead (fun p s =>
    let first := rd16 p 0
    let count := rd16 p 2
    let data := [Field.u16 s.law.neighbours.length] ++ pairFields ((s.law.neighbours.drop first).take count)
    if p.length ≠ 4 then s.refuse .badForm
    else if !s.loop.state.editsNeighbours then s.refuse .wrongState
    else if s.law.neighbours.length < first + count then s.refuse .badValue
    else if Config.maxPayload < dataWidth data then s.refuse .badForm
    else s.reply .done data) s

end Sys2Proof.Machine
end

