-- ==== Sys2Proof/Machine/Exposure.lean ====
section
/-! DEFINITION. The cycle controller's own commands (02): the deadline, CYC.PARAM and CYC.STATUS. -/

namespace Sys2Proof.Machine

/-- DEADLINE_EXPIRY (02 R45): the timer of a live ACCUMULATING cycle expires. -/
def execDeadlineExpiry (bank : Bank) (s : State) : Result :=
  match s.cycleAt bank with
  | none => .next s
  | some k => if k.isOpen && k.deadline.isSome then .next ((s.closeWithMisses bank .deadline).settle .nothing) else .next s

/-- CYC.PARAM (02 R51). -/
def execCycParam (s : State) : Result :=
  runMessage .cycParam (fun p s =>
    if p.length ≠ 4 then s.refuse .badForm
    else
      let t := clampNat 50 5000 (rd32 p 0)
      let clamped := decide (t ≠ rd32 p 0)
      ({ s with cyc := { s.cyc with tDl := t } } : State).reply (doneOr clamped) (if clamped then [.u32 t] else [])) s

def settlementCode : Settlement → Nat
  | .unsettled => 0
  | .contributed => 1
  | .substituted _ => 2
  | .omitted _ => 3

def Settlement.isExcused : Settlement → Bool
  | .substituted e => e
  | .omitted e => e
  | _ => false

/-- A cycle record in a reply, in the order of 02 Table 2.1; the six settlement fields and then the six excused fields stand for
all sensors, 0 for one that is not expected (log 18). -/
def State.cycleFields (s : State) (k : Cycle) : List Field :=
  List.flatten
    [ [.u16 k.fn.toNat, .u16 (bankCode k.bank), .u16 (cycleCode k.state), .u16 (setCode k.set)],
      allSensors.map fun i => .u16 k.binding[i].val,
      [.u16 (sensorMask k.expected), .u16 (sensorMask k.presence)],
      allSensors.map fun i => .u16 (settlementCode k.settlement[i]),
      allSensors.map fun i => yesNo k.settlement[i].isExcused,
      [yesNo k.calMark],
      optField .u16 (k.closeReason.map closeCode),
      optField .u32 (k.deadline.map fun started => s.timeLeft (bankCode k.bank) started),
      [.u16 k.outstanding, yesNo k.abandoned] ]

/-- The set selection in a reply, as SET.SELECT carries it. -/
def selectionFields : Selection → List Field
  | .auto => [.u16 0, .u16 0]
  | .fixed n => [.u16 1, .u16 n.val]

/-- The reply data of CYC.STATUS (02 R52, log 18). -/
def State.cycStatusFields (s : State) : List Field :=
  List.flatten
    [ [.u16 s.cyc.cycles.length],
      (s.cyc.cycles.map s.cycleFields).flatten,
      optFn s.cyc.lastClosed,
      optFn s.cyc.lastOpened,
      optField .u16 (s.cyc.lastSet.map setCode),
      [.u32 s.cyc.tDl],
      selectionFields s.cyc.selection,
      [yesNo s.cyc.degraded, yesNo (s.cycleAt .bankA).isNone, yesNo (s.cycleAt .bankB).isNone],
      allSensors.map fun i => .u16 (s.pendingSub i) ]

/-- CYC.STATUS (02 R52); two free values are drawn, one for each bank's timer (log 5). -/
def execCycStatus (s : State) : Result :=
  runMessage .cycStatus (fun p s =>
    if p.length ≠ 0 then s.refuse .badForm
    else ({ s with freeCount := s.freeCount + 2 } : State).reply .done s.cycStatusFields) s

end Sys2Proof.Machine
end

