-- ==== Sys2Proof/Machine/Intake.lean ====
section
/-! DEFINITION. Slope intake (01): the arrival of a sensor frame, and the SNS.* and REF.* messages. -/

namespace Sys2Proof.Machine

/-! ## Frame arrival -/

/-- New values replace the flag record; a difference raises INBAND_CHANGE and re-evaluates the INBAND source (01 R20, R21). -/
def State.recordFlags (s : State) (i : Fin 6) (fl : Flags) : State :=
  if (s.sensor i).flags = fl then s
  else ((s.updSensor i fun x => { x with flags := fl }).raise .inbandChange).reportInband

/-- A bad frame restarts the acquisition run of an ACQUIRING sensor (01 R1, R15). -/
def Sensor.restartRun (x : Sensor) : Sensor := if x.mode = .acquiring then { x with acquire := 0 } else x

/-- What the flags of a frame with only a content error do with the gate OFF (01 R4). -/
def State.badFlags (s : State) (i : Fin 6) (fl : Flags) : State :=
  if s.loop.params.flagGate then s
  else
    let t := s.recordFlags i { fl with shutter := (s.sensor i).flags.shutter }
    if fl.fx && decide ((s.sensor i).config.fx = .dropSaved) then t.invalidate i else t

/-- The comparison copy and the stale run after the test of a frame that is not SHUTTER (01 R17). -/
def Sensor.staleTested (x : Sensor) (slopes : List Int) : Sensor :=
  match x.copy with
  | none => { x with copy := some slopes, staleRun := 0 }
  | some c => if c = slopes then { x with staleRun := countInc255 x.staleRun } else { x with copy := some slopes, staleRun := 0 }

/-- A frame after whose test the sensor stands as `x` is stale (01 R17). -/
def Sensor.staleNow (x : Sensor) : Bool := decide (x.config.nStale ≠ 0) && decide (x.config.nStale ≤ x.staleRun)

/-- A stale frame's state update: at the declaring frame an ACQUIRING or ACTIVE sensor becomes LOST; another stale frame
restarts an acquisition run (01 R15, R17). -/
def State.staleUpdate (s : State) (i : Fin 6) (before : Nat) : State :=
  let x := s.sensor i
  if before < x.config.nStale ∧ x.staleRun = x.config.nStale ∧ (x.mode = .acquiring ∨ x.mode = .active) then
    ((s.updSensor i fun y => { y with acquire := 0 }).updCounters i
      fun c => { c with staleDeclarations := counterInc c.staleDeclarations }).becomeLost i
  else s.updSensor i Sensor.restartRun

/-- A sensor becomes ACTIVE (01 R15, R19). -/
def State.becomeActive (s : State) (i : Fin 6) : State :=
  ((s.updSensor i fun x => { x with acquire := 0, missCount := 0 }).setMode i .active).reportInband

/-- A good frame's state update (01 R15). -/
def State.goodUpdate (s : State) (i : Fin 6) : State :=
  let x := s.sensor i
  match x.mode with
  | .acquiring =>
    if x.config.aGood ≤ x.acquire + 1 then s.becomeActive i
    else s.updSensor i fun y => { y with acquire := y.acquire + 1 }
  | .lost =>
    if x.config.aGood ≤ 1 then s.becomeActive i
    else (s.updSensor i fun y => { y with acquire := 1 }).setMode i .acquiring
  | _ => s

/-- The stale test and the state update of a checked frame; the mark says that the frame is stale (01 R15, R17). -/
def State.frameUpdate (s : State) (i : Fin 6) (f : Frame) : State × Bool :=
  if f.flags.shutter then (s.updSensor i Sensor.restartRun, false)
  else
    let t := s.updSensor i fun x => x.staleTested f.slopes
    if (t.sensor i).staleNow then (t.staleUpdate i (s.sensor i).staleRun, true) else (t.goodUpdate i, false)

/-- A frame of an ACTIVE sensor joins its queue, an older one making room (01 R6, R7). -/
def State.joinQueue (s : State) (i : Fin 6) (f : Frame) : State :=
  let g := { f with stamp := s.intake.arrivals }
  let join (x : Sensor) : Sensor :=
    if 2 ≤ x.queue.length then
      { x with queue := x.queue.tail ++ [g], counters := { x.counters with lostFrames := counterInc x.counters.lostFrames } }
    else { x with queue := x.queue ++ [g] }
  ({ s with intake := { s.intake with arrivals := s.intake.arrivals + 1 } } : State).updSensor i join

/-- The queue has a new head after a frame joins: it was empty, or the head made room (01 R6, R7). -/
def Sensor.offersOnJoin (x : Sensor) : Bool := decide (x.queue.length = 0) || decide (2 ≤ x.queue.length)

/-- A checked frame is disposed of (01 R5). -/
def State.dispose (s : State) (i : Fin 6) (f : Frame) (stale : Bool) : State :=
  if stale then s.countTaken i f
  else if s.isActive i then
    (s.joinQueue i f).settle (if (s.sensor i).offersOnJoin then .headOf i else .nothing)
  else (s.countTaken i f).correctFrame i (s.sensor i).activePage f

/-- A checked frame: its flags, the stale test, the state update, then its disposal (01 R5, R15, R17, R20; log 7). -/
def State.checkedFrame (s : State) (i : Fin 6) (f : Frame) : State :=
  let r := (s.recordFlags i f.flags).frameUpdate i f
  (r.1.settle .nothing).dispose i f r.2

/-- The checked frame of a run of bytes. -/
def frameOf (b : List Byte) : Frame := { fn := frameFn b, flags := frameFlags b, slopes := frameSlopes b, stamp := 0 }

/-- SENSOR_FRAME_ARRIVAL (01 R1 to R5). -/
def execSensorFrameArrival (link : Fin 6) (bytes : List Byte) (s : State) : Result :=
  if (s.sensor link).mode = .disabled then
    .next (s.updCounters link fun c => { c with ignored := counterInc c.ignored })
  else if frameSyntaxError link (s.sensor link).config.nSub bytes then
    .next ((s.updSensor link Sensor.restartRun).updCounters link fun c => { c with syntaxErrors := counterInc c.syntaxErrors })
  else if frameContentError bytes then
    .next ((((s.updSensor link Sensor.restartRun).updCounters link
      fun c => { c with contentErrors := counterInc c.contentErrors }).badFlags link (frameFlags bytes)).settle .nothing)
  else .next (s.checkedFrame link (frameOf bytes))

/-! ## SNS.CONFIG (01 R23) -/

/-- N_stale brought into range (01 Table 1.8). -/
def clampStale (n : Nat) : Nat := if n = 0 then 0 else clampNat 4 255 n

/-- The configuration as given, its choices named; none when one names no choice or n_sub is above 1,024. -/
def rdConfig (p : List Byte) : Option SensorConfig :=
  match toPolicy (rd16 p 4), toFx (rd16 p 22) with
  | some policy, some fx =>
    if rd16 p 2 ≤ 1024 then
      some { nSub := rd16 p 2, policy := policy, kMiss := rd32 p 6, aGood := rd32 p 10, nStale := rd32 p 14,
             hMax := rd32 p 18, fx := fx }
    else none
  | _, _ => none

/-- The numeric fields brought into range (01 Table 1.8). -/
def SensorConfig.inRange (c : SensorConfig) : SensorConfig :=
  { c with kMiss := clampNat 1 255 c.kMiss, aGood := clampNat 1 64 c.aGood, nStale := clampStale c.nStale,
           hMax := clampNat 1 255 c.hMax }

/-- The configuration in a reply. -/
def configFields (c : SensorConfig) : List Field :=
  [.u16 c.nSub, .u16 (policyCode c.policy), .u32 c.kMiss, .u32 c.aGood, .u32 c.nStale, .u32 c.hMax, .u16 (fxCode c.fx)]

/-- A LOADING or COMPLETE set lists the sensor (01 R23 step 4). -/
def State.listed (s : State) (i : Fin 6) : Bool :=
  s.mem.sets.toList.any fun r => decide (r.state ≠ .empty) && (r.nSubOf i).isSome

/-- The configuration stored; a new n_sub also clears what it no longer fits (01 R23). -/
def Sensor.configured (x : Sensor) (c : SensorConfig) : Sensor :=
  if c.nSub = x.config.nSub then { x with config := c }
  else { x with
    config := c
    exclusion := x.exclusion.filter fun k => decide (k < c.nSub)
    pages := Vector.replicate 2 (List.replicate Config.slotPlaces 0)
    copy := none }

def configAct (p : List Byte) (s : State) : State :=
  if p.length ≠ 24 then s.refuse .badForm
  else
    match toSensor (rd16 p 0), rdConfig p with
    | some i, some c =>
      let x := s.sensor i
      if x.mode ≠ .disabled then s.refuse .wrongState
      else if c.nSub ≠ x.config.nSub ∧ s.listed i then s.refuse .inUse
      else if c.nSub ≠ x.config.nSub ∧ (x.commitPending ∨ s.pageBound i (otherPage x.activePage)) then s.refuse .busy
      else
        let clamped := decide (c.inRange ≠ c)
        (s.updSensor i fun y => y.configured c.inRange).reply (doneOr clamped)
          (if clamped then configFields c.inRange else [])
    | _, _ => s.refuse .badValue

/-- SNS.CONFIG (01 R23). -/
def execSnsConfig (s : State) : Result := runMessage .snsConfig configAct s

/-! ## SNS.ENABLE, SNS.DISABLE, SNS.STATUS (01 R18, R19, R24) -/

/-- A message whose payload is one sensor number. -/
def withSensor (p : List Byte) (s : State) (f : Fin 6 → State) : State :=
  if p.length ≠ 2 then s.refuse .badForm
  else match toSensor (rd16 p 0) with
    | none => s.refuse .badValue
    | some i => f i

/-- The sensor starts to acquire with fresh counts (01 R18); the cleared record raises nothing (log 10). -/
def State.enableSensor (s : State) (i : Fin 6) : State :=
  (s.updSensor i fun x => { x with
    acquire := 0, missCount := 0, staleRun := 0, copy := none, flags := Flags.clear }).setMode i .acquiring

/-- SNS.ENABLE (01 R18). -/
def execSnsEnable (s : State) : Result :=
  runMessage .snsEnable (fun p s => withSensor p s fun i =>
    if (s.sensor i).mode ≠ .disabled then s.refuse .wrongState
    else if (s.sensor i).config.nSub = 0 then s.refuse .notReady
    else (s.enableSensor i).reply .done []) s

/-- The sensor becomes DISABLED: misses without substitution, the queue emptied without count, its saved contribution
invalidated (01 R18, R19, R25). -/
def State.disableSensor (s : State) (i : Fin 6) : State :=
  let t := s.setMode i .disabled
  let u := if s.isActive i then t.settleLeft i true else t
  ((u.updSensor i fun x => { x with queue := [] }).invalidate i).reportInband

/-- SNS.DISABLE (01 R18). -/
def execSnsDisable (s : State) : Result :=
  runMessage .snsDisable (fun p s => withSensor p s fun i =>
    if (s.sensor i).mode = .disabled then s.reply .done []
    else ((s.disableSensor i).settle .nothing).reply .done []) s

/-- The reply data of SNS.STATUS (01 R24, log 18). -/
def statusFields (x : Sensor) : List Field :=
  [.u16 (modeCode x.mode)] ++ configFields x.config
    ++ [.u16 x.acquire, .u16 x.missCount, .u16 x.staleRun, .u16 x.queue.length]
    ++ (x.queue.map fun f => .u16 f.fn.toNat)
    ++ [.u16 x.activePage.val, yesNo x.commitPending, yesNo x.flags.shutter, yesNo x.flags.holdreq, yesNo x.flags.fx,
        .u16 x.exclusion.length]

/-- SNS.STATUS (01 R24). -/
def execSnsStatus (s : State) : Result :=
  runMessage .snsStatus (fun p s => withSensor p s fun i => s.reply .done (statusFields (s.sensor i))) s

/-! ## Exclusion lists (01 R14) -/

/-- A message of a sensor and one to 64 subaperture indices, its first two checks made (01 Table 1.5). -/
def withIndices (p : List Byte) (s : State) (f : Fin 6 → List Nat → State) : State :=
  if p.length ≠ 4 + 2 * rd16 p 2 ∨ rd16 p 2 = 0 ∨ 64 < rd16 p 2 then s.refuse .badForm
  else match toSensor (rd16 p 0) with
    | none => s.refuse .badValue
    | some i =>
      if (rd16s p 4 (rd16 p 2)).any fun k => decide ((s.sensor i).config.nSub ≤ k) then s.refuse .badValue
      else f i (rd16s p 4 (rd16 p 2))

/-- The distinct indices of a message that are not on a list. -/
def newIndices (old given : List Nat) : List Nat := distinct (given.filter fun k => decide (k ∉ old))

/-- SNS.EXCL.ADD (01 R14). -/
def execSnsExclAdd (s : State) : Result :=
  runMessage .snsExclAdd (fun p s => withIndices p s fun i given =>
    if 64 < (s.sensor i).exclusion.length + (newIndices (s.sensor i).exclusion given).length then s.refuse .full
    else (s.updSensor i fun x => { x with exclusion := given.foldl (fun l k => insertRising k l) x.exclusion }).reply .done []) s

/-- SNS.EXCL.DEL (01 R14). -/
def execSnsExclDel (s : State) : Result :=
  runMessage .snsExclDel (fun p s => withIndices p s fun i given =>
    (s.updSensor i fun x => { x with exclusion := x.exclusion.filter fun k => decide (k ∉ given) }).reply .done []) s

/-- SNS.EXCL.LIST (01 R14). -/
def execSnsExclList (s : State) : Result :=
  runMessage .snsExclList (fun p s => withSensor p s fun i =>
    s.reply .done ([.u16 (s.sensor i).exclusion.length] ++ ((s.sensor i).exclusion.map Field.u16))) s

/-! ## Reference pages (01 R11 to R13) -/

/-- Values written into a sensor's STANDBY page (01 R11). -/
def Sensor.writeStandby (x : Sensor) (first : Nat) (values : List Int) : Sensor :=
  { x with pages := x.pages.set (otherPage x.activePage) (vwrite (x.page (otherPage x.activePage)) first values) }

def refWriteAct (p : List Byte) (s : State) : State :=
  let first := rd16 p 2
  let count := rd16 p 4
  if p.length ≠ 6 + 2 * count then s.refuse .badForm
  else match toSensor (rd16 p 0) with
    | none => s.refuse .badValue
    | some i =>
      let x := s.sensor i
      let given := rdS16s p 6 count
      if x.config.nSub = 0 ∨ 2 * x.config.nSub < first + count then s.refuse .badValue
      else if x.commitPending ∨ s.pageBound i (otherPage x.activePage) then s.refuse .busy
      else
        let clamped := given.any fun v => decide (v = -32768)
        (s.updSensor i fun y => y.writeStandby first (given.map fun v => max (-32767) v)).reply (doneOr clamped)
          (if clamped then [.s16 (-32767)] else [])

/-- REF.WRITE (01 R11). -/
def execRefWrite (s : State) : Result := runMessage .refWrite refWriteAct s

/-- The pages exchange roles at once (01 R12). -/
def Sensor.exchange (x : Sensor) : Sensor := { x with activePage := otherPage x.activePage, commitPending := false }

/-- REF.COMMIT (01 R12). -/
def execRefCommit (s : State) : Result :=
  runMessage .refCommit (fun p s => withSensor p s fun i =>
    if (s.sensor i).config.nSub = 0 then s.refuse .notReady
    else if s.loop.state.closedToCycles then (s.updSensor i Sensor.exchange).reply .done []
    else (s.updSensor i fun x => { x with commitPending := true }).reply .done []) s

/-- The page of a role: ACTIVE 0, STANDBY 1 (01 R13). -/
def Sensor.rolePage (x : Sensor) : Nat → Option (Fin 2)
  | 0 => some x.activePage
  | 1 => some (otherPage x.activePage)
  | _ => none

def refReadAct (p : List Byte) (s : State) : State :=
  let first := rd16 p 4
  let count := rd16 p 6
  if p.length ≠ 8 then s.refuse .badForm
  else match toSensor (rd16 p 0) with
    | none => s.refuse .badValue
    | some i =>
      match (s.sensor i).rolePage (rd16 p 2) with
      | none => s.refuse .badValue
      | some page =>
        if Config.slotPlaces < first + count then s.refuse .badValue
        else s.reply .done
          (((vslice ((s.sensor i).page page) first count).map Field.s16)
            ++ [.u16 page.val, yesNo (s.sensor i).commitPending])

/-- REF.READ (01 R13). -/
def execRefRead (s : State) : Result := runMessage .refRead refReadAct s

end Sys2Proof.Machine
end

