-- ==== Sys2Proof/Machine/Jobs.lean ====
section
/-! DEFINITION. The job in flight (04): the end of a row read and the completion of a job. -/

namespace Sys2Proof.Machine

/-- No job is in flight any more. -/
def State.clearFlight (s : State) : State := { s with recon := { s.recon with inFlight := none } }

/-- The corrected errors that a read met (03 R70). -/
def State.countCorrected (s : State) (n : Nat) : State :=
  { s with mem := { s.mem with correctedErrors := counterAdd s.mem.correctedErrors n } }

/-- An uncorrectable error counted (03 R71, R72). -/
def State.countUncorrectable (s : State) : State :=
  { s with mem := { s.mem with uncorrectableErrors := counterInc s.mem.uncorrectableErrors } }

/-- A job's completion as its cycle sees it: the outstanding count, and for a substitution job the pending substitutions,
fall by one (04 R78, R79); a decrement at 0 leaves 0. -/
def State.reportDone (s : State) (f : Flight) : State :=
  let t := s.updCycle f.job.bank fun k => { k with outstanding := k.outstanding - 1 }
  match f.job.kind with
  | .contribution _ => t
  | .substitution => t.setPendingSub f.job.sensor (t.pendingSub f.job.sensor - 1)

/-- The job in flight fails at an uncorrectable word of row `row` of set n (03 R71, 04 R79, log 28). -/
def State.failJob (s : State) (f : Flight) (n : Fin 4) : State :=
  let t := (((s.countUncorrectable).updSet n fun r =>
    { r with errCount := counterInc r.errCount, errLoc := some (f.job.sensor, f.nextRow) }).raise .memoryError).clearFlight
  if f.orphan then t else (t.reportDone f).abandon f.job.bank false

/-- The row's partial sum goes into the buffer (04 R75). -/
def State.takeRow (s : State) (f : Flight) (slopes row : List Int) : State :=
  { s with recon := { s.recon with
      buffer := vput s.recon.buffer f.nextRow (dot row slopes)
      inFlight := some { f with nextRow := f.nextRow + 1 } } }

/-- JOB_ROW_READ (04 R75, 03 R68, R70, R71). -/
def execJobRowRead (upsets : List Upset) (s : State) : Result :=
  match s.mem.arbiter.current, s.recon.inFlight with
  | some .jobRow, some f =>
    match f.job.kind, f.set with
    | .contribution slopes, some n =>
      let slot := coefficientSlot n f.job.sensor f.nextRow
      let dram := s.mem.dram.upset slot upsets
      let scan := dram.scan (wordOf slot) (wordsOf (2 * f.nSub))
      let t := ((s.setDram dram).countCorrected scan.1).endTransfer
      if scan.2 then .next ((t.failJob f n).settle .nothing)
      else .next (t.takeRow f slopes (dram.readRun slot (2 * f.nSub))).grant
    | _, _ => .next s
  | _, _ => .next s

/-- The job in flight has nothing left to read. -/
def Flight.ready (f : Flight) : Bool :=
  match f.job.kind with
  | .contribution _ => decide (f.nAct ≤ f.nextRow)
  | .substitution => true

/-- A contribution job adds and is saved (04 R78, R83). -/
def State.addContribution (s : State) (f : Flight) (k : Cycle) (n : Fin 4) : State :=
  (s.setBank k.bank (vaddBelow f.nAct (s.bankVector k.bank) s.recon.buffer)).updSaved f.job.sensor fun _ =>
    { valid := true, setTag := n, fnTag := k.fn, useCount := 0, vector := vslice s.recon.buffer 0 f.nAct }

/-- A substitution job adds the saved contribution that stands at its completion, when it may (04 R84). -/
def State.addSaved (s : State) (f : Flight) (k : Cycle) : State :=
  let x := s.savedOf f.job.sensor
  if x.valid ∧ k.set = some x.setTag then
    (s.setBank k.bank (vaddBelow f.nAct (s.bankVector k.bank) x.vector)).updSaved f.job.sensor fun y =>
      { y with useCount := y.useCount + 1 }
  else s

/-- What a job of a live cycle adds (04 R78). -/
def State.addJob (s : State) (f : Flight) (k : Cycle) : State :=
  match f.job.kind, k.set with
  | .contribution _, some n => s.addContribution f k n
  | .contribution _, none => s
  | .substitution, _ => s.addSaved f k

/-- A job's completion (04 R78, R79): an orphan reports nothing, a job of an abandoned cycle adds nothing. -/
def State.completeJob (s : State) (f : Flight) : State :=
  if f.orphan then s.clearFlight
  else match s.cycleAt f.job.bank with
    | none => s.clearFlight
    | some k => ((if k.abandoned then s else s.addJob f k).reportDone f).clearFlight

/-- JOB_COMPLETION (04 R78, R79). -/
def execJobCompletion (s : State) : Result :=
  match s.recon.inFlight with
  | none => .next s
  | some f =>
    if f.ready ∧ s.mem.arbiter.current ≠ some .jobRow then .next ((s.completeJob f).settle .nothing) else .next s

end Sys2Proof.Machine
end

