-- ==== Sys2Proof/Machine/Loop.lean ====
section
/-! DEFINITION. The loop supervisor's commands (06): HOLDN and the LOOP.* messages. -/

namespace Sys2Proof.Machine

/-- HOLDN_CHANGE (06 R123): the PIN source follows the line. -/
def execHoldnChange (low : Bool) (s : State) : Result :=
  .next ((({ s with loop := { s.loop with holdnLow := low } } : State).holdsChanged s.holding).settle .nothing)

/-- A loop command with no payload (06 section 6.2). -/
def noPayload (p : List Byte) (s : State) (f : State) : State := if p.length ≠ 0 then s.refuse .badForm else f

/-- LOOP.OPEN (06 R118). -/
def execLoopOpen (s : State) : Result :=
  runMessage .loopOpen (fun p s => noPayload p s (
    if s.loop.state = .opened ∨ s.loop.state = .safe then s.refuse .wrongState
    else if s.mem.nAct = 0 ∨ s.linkFailed then s.refuse .notReady
    else ((s.setLoop .opened).restCommit).reply .done [])) s

/-- The set selection allows the loop to close (06 R119 step 2). -/
def State.canClose (s : State) : Bool :=
  match s.cyc.selection with
  | .fixed n => decide ((s.setRec n).state = .complete)
  | .auto => match s.currentEntry with
    | none => false
    | some n => decide ((s.setRec n).state = .complete)

/-- The loop becomes HELD or CLOSED after an integrator reset (06 R119); an entry to HELD raises HOLD_CHANGE (06 R126). -/
def State.closeLoop (s : State) : State :=
  let t := s.integratorReset
  let u := { t with loop := { t.loop with runCount := 0 } }
  if u.effectiveHold then (u.setLoop .held).raise .holdChange else u.setLoop .closed

/-- LOOP.CLOSE (06 R119). -/
def execLoopClose (s : State) : Result :=
  runMessage .loopClose (fun p s => noPayload p s (
    if s.loop.state ≠ .opened then s.refuse .wrongState
    else if s.cal.running then s.refuse .busy
    else if !s.canClose then s.refuse .notReady
    else s.closeLoop.reply .done [.u16 (loopCode s.closeLoop.loop.state)])) s

/-- LOOP.HOLD (06 R124). -/
def execLoopHold (s : State) : Result :=
  runMessage .loopHold (fun p s => noPayload p s (
    ((({ s with loop := { s.loop with command := true } } : State).holdsChanged s.holding).settle .nothing).reply .done [])) s

/-- LOOP.RELEASE (06 R124). -/
def execLoopRelease (s : State) : Result :=
  runMessage .loopRelease (fun p s => noPayload p s (
    (({ s with loop := { s.loop with command := false, diverge := false } } : State).holdsChanged s.holding).reply .done [])) s

/-- LOOP.STOP (06 R120). -/
def execLoopStop (s : State) : Result :=
  runMessage .loopStop (fun p s => noPayload p s (
    match s.loop.state with
    | .safe => s.refuse .wrongState
    | .idle => s.restCommit.reply .done []
    | _ => (s.enterRest .idle true).reply .done [])) s

/-- LOOP.SAFE (06 R121). -/
def execLoopSafe (s : State) : Result :=
  runMessage .loopSafe (fun p s => noPayload p s (
    if s.loop.state = .safe then s.reply .done [] else (s.enterRest .safe true).reply .done [])) s

/-- LOOP.RESET (06 R122). -/
def execLoopReset (s : State) : Result :=
  runMessage .loopReset (fun p s => noPayload p s (
    if s.loop.state ≠ .safe then s.refuse .wrongState else (s.enterRest .idle false).reply .done [])) s

/-! ## LOOP.PARAM (06 R131, R132) -/

/-- The nine parameters as given, none when a choice field names no choice. -/
def rdLoopParams (p : List Byte) : Option LoopParams :=
  match toGainSource (rd16 p 8), toTiming (rd16 p 14), toExclusivity (rd16 p 16), toGate (rd16 p 18) with
  | some src, some timing, some excl, some gate =>
    some { gGlob := rd32 p 0, leak := rd32 p 4, gainSource := src, dMax := rd32 p 10, timing := timing,
           exclusivity := excl, flagGate := gate, rDiv := rd32 p 20, nDiv := rd32 p 24 }
  | _, _, _, _ => none

/-- The numeric fields brought into range (06 Table 6.6). -/
def LoopParams.inRange (q : LoopParams) : LoopParams :=
  { q with gGlob := clampNat 0 65535 q.gGlob, leak := clampNat 0 32768 q.leak, dMax := clampNat 0 65535 q.dMax,
           rDiv := clampNat 0 32767 q.rDiv, nDiv := clampNat 1 255 q.nDiv }

/-- The parameters in a reply. -/
def paramFields (q : LoopParams) : List Field :=
  [.u32 q.gGlob, .u32 q.leak, .u16 (gainSourceCode q.gainSource), .u32 q.dMax, .u16 (timingCode q.timing),
    .u16 (exclusivityCode q.exclusivity), .u16 (gateCode q.flagGate), .u32 q.rDiv, .u32 q.nDiv]

/-- The parameters stored: a changed R_div or N_div clears the run count, and the effective hold is evaluated again
(06 R132). -/
def State.storeParams (s : State) (q : LoopParams) : State :=
  let keep := q.rDiv = s.loop.params.rDiv ∧ q.nDiv = s.loop.params.nDiv
  ({ s with loop := { s.loop with
      params := q, runCount := if keep then s.loop.runCount else 0 } } : State).holdsChanged s.holding

/-- LOOP.PARAM (06 R131, R132). -/
def execLoopParam (s : State) : Result :=
  runMessage .loopParam (fun p s =>
    if p.length ≠ 28 then s.refuse .badForm
    else match rdLoopParams p with
      | none => s.refuse .badValue
      | some q => ((s.storeParams q.inRange).settle .nothing).reply (doneOr (decide (q.inRange ≠ q))) (paramFields q.inRange)) s

/-! ## LOOP.STATUS (06 R133) -/

/-- A hold source's value and whether it counts. -/
def sourceFields (value counts : Bool) : List Field := [yesNo value, yesNo counts]

/-- The law in progress in a reply: its presence mark, FN and mode. -/
def runFields : Option LawRun → List Field
  | none => [.u16 0, .u16 0, .u16 0]
  | some run => [.u16 1, .u16 run.fn.toNat, .u16 (lawModeCode run.mode)]

/-- The reply data of LOOP.STATUS (06 R133); the two latches stand after the five sources (log 18). -/
def State.loopStatusFields (s : State) : List Field :=
  let c := counting s.loop.params.exclusivity
  List.flatten
    [ [.u16 (loopCode s.loop.state)],
      sourceFields s.sources.command c.command, sourceFields s.sources.pin c.pin,
      sourceFields s.sources.inband c.inband, sourceFields s.sources.degraded c.degraded,
      sourceFields s.sources.diverge c.diverge,
      [yesNo s.loop.command, yesNo s.loop.diverge, yesNo s.effectiveHold, .u16 s.loop.runCount, .u64 s.law.lastQ],
      optFn s.law.lastApplied,
      optField .u16 (s.cyc.lastSet.map setCode),
      runFields s.law.inProgress,
      paramFields s.loop.params ]

/-- LOOP.STATUS (06 R133). -/
def execLoopStatus (s : State) : Result :=
  runMessage .loopStatus (fun p s => noPayload p s (s.reply .done s.loopStatusFields)) s

end Sys2Proof.Machine
end

