-- ==== Sys2Proof/Machine/Monitor.lean ====
section
/-! DEFINITION. The monitor unit's commands (09): STAT.*, PEAK.*, SNAP.*, MON.SELECT and the end of a snapshot copy. -/

namespace Sys2Proof.Machine

/-! ## Counters (09 R167, R168) -/

/-- The twelve counters of a sensor in the order of 09 Table 9.2. -/
def counterFields (c : SensorCounters) : List Field :=
  [.u32 c.taken, .u32 c.contentErrors, .u32 c.syntaxErrors, .u32 c.ignored, .u32 c.lostFrames, .u32 c.noMeasurement,
    .u32 c.saturatedCorrection, .u32 c.misses, .u32 c.excusedMisses, .u32 c.staleDeclarations, .u32 c.late, .u32 c.duplicate]

/-- What STAT.READ gives for one sensor. -/
def State.sensorStat (s : State) (i : Fin 6) : List Field :=
  counterFields (s.sensor i).counters
    ++ [.u32 (s.sensor i).meanSquare, yesNo (s.savedOf i).valid, .u16 (s.savedOf i).setTag.val,
        .u16 (s.savedOf i).fnTag.toNat, .u16 (s.savedOf i).useCount]

/-- The twelve loop counters in the order of 09 Table 9.2. -/
def State.loopCounters (s : State) : List Field :=
  [.u32 s.cyc.opened, .u32 s.cyc.closesComplete, .u32 s.cyc.closesSettled, .u32 s.cyc.closesDeadline, .u32 s.cyc.closesOverrun,
    .u32 s.cyc.skipped, .u32 s.cyc.abandonedCount, .u32 s.mem.correctedErrors, .u32 s.mem.uncorrectableErrors,
    .u32 s.law.lawsApplied, .u32 s.law.adjustTotal, .u32 s.law.violationTotal]

/-- The four counters of a link. -/
def linkCounters (l : DriveLink) : List Field := [.u32 l.frames, .u32 l.failures, .u32 l.late, .u32 l.superseded]

/-- The reply data of STAT.READ (09 R167). -/
def State.statFields (s : State) : List Field :=
  List.flatten
    [ (allSensors.map s.sensorStat).flatten,
      s.loopCounters,
      [.u32 s.law.satCount, .u32 s.law.adjustments, .u32 s.law.violations, .u64 s.law.lastQ],
      (allLinks.map fun d => linkCounters (s.driveLink d)).flatten,
      [.u32 s.link.dropped] ]

/-- STAT.READ (09 R167). -/
def execStatRead (s : State) : Result :=
  runMessage .statRead (fun p s => if p.length ≠ 0 then s.refuse .badForm else s.reply .done s.statFields) s

/-- Every counter of 09 Table 9.2 set to 0 (09 R168). -/
def State.clearCounters (s : State) : State :=
  { s with
    intake := { s.intake with sensors := s.intake.sensors.map fun x => { x with counters := SensorCounters.zero } }
    cyc := { s.cyc with
      opened := 0, closesComplete := 0, closesSettled := 0, closesDeadline := 0, closesOverrun := 0, skipped := 0,
      abandonedCount := 0 }
    mem := { s.mem with correctedErrors := 0, uncorrectableErrors := 0 }
    law := { s.law with lawsApplied := 0, adjustTotal := 0, violationTotal := 0 }
    drive := { s.drive with
      links := s.drive.links.map fun l => { l with frames := 0, failures := 0, late := 0, superseded := 0 } }
    link := { s.link with dropped := 0 } }

/-- STAT.CLEAR (09 R168). -/
def execStatClear (s : State) : Result :=
  runMessage .statClear (fun p s => if p.length ≠ 0 then s.refuse .badForm else s.clearCounters.reply .done []) s

/-! ## Peak capture (09 R170, R172) -/

/-- PEAK.ARM (09 R170). -/
def execPeakArm (s : State) : Result :=
  runMessage .peakArm (fun p s =>
    if p.length ≠ 0 then s.refuse .badForm
    else ({ s with mon := { s.mon with peakArmed := true, peakFn := none, peaks := [] } } : State).reply .done []) s

/-- A peak record in a reply: axis X is 0, Y is 1. -/
def peakFields (p : PeakRecord) : List Field := [.u16 p.sensor.val, .u16 p.subaperture, .u16 (boolCode p.axisY), .s16 p.value]

/-- PEAK.READ (09 R172). -/
def execPeakRead (s : State) : Result :=
  runMessage .peakRead (fun p s =>
    if p.length ≠ 0 then s.refuse .badForm
    else s.reply .done (List.flatten
      [ [yesNo s.mon.peakArmed], optFn s.mon.peakFn, [.u16 s.mon.peaks.length], (s.mon.peaks.map peakFields).flatten ])) s

/-! ## Snapshot store (09 R173, R176, R177) -/

def snapArmAct (p : List Byte) (s : State) : State :=
  let threshold := clampNat 1 3072 (rd32 p 2)
  let selection := rd16 p 6
  if p.length ≠ 8 then s.refuse .badForm
  else match toTrigger (rd16 p 0) with
    | none => s.refuse .badValue
    | some trigger =>
      if selection = 0 ∨ 7 < selection then s.refuse .badValue
      else if s.mon.snapState = .filling then s.refuse .busy
      else ({ s with mon := { s.mon with
          snapState := .armed, snapTrigger := trigger, snapThreshold := threshold, snapSelection := selection,
          onsetSeen := false, snapContent := [] } } : State).reply (doneOr (decide (threshold ≠ rd32 p 2)))
        [.u16 (triggerCode trigger), .u32 threshold, .u16 selection]

/-- SNAP.ARM (09 R173). -/
def execSnapArm (s : State) : Result := runMessage .snapArm snapArmAct s

/-- The FN and size of the content, while the store holds one (09 R177). -/
def contentFields (m : Monitor) : List Field :=
  if m.snapState = .filling ∨ m.snapState = .full then [.u16 m.snapFn.toNat, .u16 m.snapContent.length] else []

/-- SNAP.STATUS (09 R177). -/
def execSnapStatus (s : State) : Result :=
  runMessage .snapStatus (fun p s =>
    if p.length ≠ 0 then s.refuse .badForm
    else s.reply .done
      ([.u16 (snapCode s.mon.snapState), .u16 (triggerCode s.mon.snapTrigger), .u32 s.mon.snapThreshold,
        .u16 s.mon.snapSelection, yesNo s.mon.onsetSeen] ++ contentFields s.mon)) s

/-- SNAP.READ (09 R177). -/
def execSnapRead (s : State) : Result :=
  runMessage .snapRead (fun p s =>
    let offset := rd16 p 0
    let length := rd16 p 2
    if p.length ≠ 4 ∨ length = 0 ∨ 2000 < length then s.refuse .badForm
    else if s.mon.snapState ≠ .full then s.refuse .wrongState
    else if s.mon.snapContent.length < offset + length then s.refuse .badValue
    else s.reply .done ((vslice s.mon.snapContent offset length).map Field.s32)) s

/-- SNAP_COPY_END (09 R176). -/
def execSnapCopyEnd (s : State) : Result :=
  if s.mon.snapState = .filling then
    .next (({ s with mon := { s.mon with snapState := .full } } : State).raise .snapFull)
  else .next s

/-! ## Monitor lines (09 R180) -/

def monSelectAct (p : List Byte) (s : State) : State :=
  if p.length ≠ 6 then s.refuse .badForm
  else match toMonSource (rd16 p 2), toPolarity (rd16 p 4) with
    | some source, some high =>
      match rd16 p 0 with
      | 0 => ({ s with mon := { s.mon with line0 := { source := source, activeHigh := high } } } : State).reply .done []
      | 1 => ({ s with mon := { s.mon with line1 := { source := source, activeHigh := high } } } : State).reply .done []
      | _ => s.refuse .badValue
    | _, _ => s.refuse .badValue

/-- MON.SELECT (09 R180). -/
def execMonSelect (s : State) : Result := runMessage .monSelect monSelectAct s

end Sys2Proof.Machine
end

