-- ==== Sys2Proof/Machine/Poke.lean ====
section
/-! DEFINITION. The calibration unit's commands (08): the CAL.* messages and the ends of its memory transfers. -/

namespace Sys2Proof.Machine

/-! ## CAL.LOAD, CAL.START, CAL.STOP (08 R150, R151, R162) -/

/-- CAL.LOAD (08 R150). -/
def execCalLoad (s : State) : Result :=
  runMessage .calLoad (fun p s =>
    let count := rd16 p 0
    let given := rdPairs rd16 p 2 count
    let stored := given.map fun e => (e.1, clampNat 1 32767 e.2)
    let clamped := decide (stored ≠ given)
    if p.length ≠ 2 + 4 * count ∨ 256 < count then s.refuse .badForm
    else if s.cal.running then s.refuse .busy
    else if given.any fun e => decide (s.mem.nAct ≤ e.1) then s.refuse .badValue
    else ({ s with cal := { s.cal with pokeList := stored } } : State).reply (doneOr clamped)
      (if clamped then (stored.map fun e => [Field.u16 e.1, .u16 e.2]).flatten else [])) s

/-- The record of a poke list entry at the start of a run (08 R151). -/
def freshRecord (e : Nat × Nat) : ResponseRecord :=
  { complete := false, actuator := e.1, amplitude := e.2, pushOut := none, pullOut := none, voidsPush := 0, voidsPull := 0,
    restartsPush := 0, restartsPull := 0 }

/-- The ACTIVE sensors with their configured n_sub (08 R151). -/
def State.activeSensors (s : State) : List (Fin 6 × Nat) :=
  (allSensors.filter fun i => s.isActive i).map fun i => (i, (s.sensor i).config.nSub)

/-- A run starts with the PUSH phase of entry 0 (08 R151). -/
def State.startRun (s : State) (nS nM : Nat) : State :=
  ({ s with cal := { s.cal with
      running := true, endReason := none, nS := nS, nM := nM, sensors := s.activeSensors, entry := 0,
      tallies := [], storing := [], records := s.cal.pokeList.map freshRecord } } : State).phaseCommit .push

/-- Sensors with their n_sub in a reply, the count first. -/
def sensorFields (l : List (Fin 6 × Nat)) : List Field :=
  [.u16 l.length] ++ (l.map fun e => [Field.u16 e.1.val, .u16 e.2]).flatten

/-- CAL.START (08 R151). -/
def execCalStart (s : State) : Result :=
  runMessage .calStart (fun p s =>
    let nS := clampNat 0 15 (rd32 p 0)
    let nM := clampNat 1 64 (rd32 p 4)
    if p.length ≠ 8 then s.refuse .badForm
    else if s.loop.state ≠ .opened then s.refuse .wrongState
    else if s.cal.running then s.refuse .busy
    else if s.cal.pokeList = [] ∨ s.activeSensors = [] then s.refuse .notReady
    else (s.startRun nS nM).reply (doneOr (decide (nS ≠ rd32 p 0) || decide (nM ≠ rd32 p 4)))
      ([.u32 nS, .u32 nM] ++ sensorFields s.activeSensors)) s

/-- CAL.STOP (08 R162). -/
def execCalStop (s : State) : Result :=
  runMessage .calStop (fun p s =>
    if p.length ≠ 0 then s.refuse .badForm
    else if !s.cal.running then s.refuse .wrongState
    else (s.endRun .stopped).reply .done []) s

/-! ## Response writes (08 R160) -/

/-- The entry becomes COMPLETE; the next entry's PUSH phase begins, or the run ends (08 R160, R161). -/
def State.completeEntry (s : State) : State :=
  let c := s.cal.updRecord fun r => { r with complete := true }
  if s.cal.entry + 1 < s.cal.records.length then
    ({ s with cal := { c with entry := s.cal.entry + 1 } } : State).phaseCommit .push
  else ({ s with cal := c } : State).endRun .done

/-- The run goes on after one of its transfers has ended (08 R160). -/
def State.nextResponse (s : State) : State :=
  match s.cal.storing with
  | [] => s
  | _ :: rest =>
    let t := { s with cal := { s.cal with storing := rest } }
    if rest = [] then t.completeEntry else t.request .calibration

/-- CAL_RESPONSE_WRITE (08 R160): a transfer whose run has ended writes its slot and does no more (08 R161). -/
def execCalResponseWrite (s : State) : Result :=
  match s.mem.arbiter.current with
  | some (.calWrite e i responses live) =>
    let t := (s.setDram (s.mem.dram.writeSlot (responseSlot e i) responses)).endTransfer
    .next (if live then t.nextResponse else t).grant
  | _ => .next s

/-! ## CAL.STATUS, CAL.READ (08 R163, R164) -/

/-- A response record in a reply (08 R163, log 18); the restart counts show their low 16 bits (log 30). -/
def recordFields (r : ResponseRecord) : List Field :=
  List.flatten
    [ [.u16 (boolCode r.complete), .u16 r.actuator, .u16 r.amplitude],
      optSigned r.pushOut,
      optSigned r.pullOut,
      [.u16 r.voidsPush, .u16 r.voidsPull, .u16 r.restartsPush, .u16 r.restartsPull] ]

/-- The fields that stand while RUNNING (08 R163). -/
def runningFields (c : Calibration) : List Field :=
  if c.running then
    [.u16 c.entry, .u16 ((c.phase.map phaseCode).getD 0), .u16 c.settle, .u16 c.measure, .u16 c.voids]
  else []

/-- The reply data of CAL.STATUS (08 R163, log 18): 256 records of 22 bytes always fit. -/
def calStatusFields (c : Calibration) : List Field :=
  List.flatten
    [ [yesNo c.running],
      optField .u16 (c.endReason.map endCode),
      [.u32 c.nS, .u32 c.nM],
      sensorFields c.sensors,
      [.u16 c.pokeList.length],
      runningFields c,
      [.u16 c.records.length, .u16 (c.records.filter fun r => r.complete).length],
      (c.records.map recordFields).flatten ]

/-- CAL.STATUS (08 R163). -/
def execCalStatus (s : State) : Result :=
  runMessage .calStatus (fun p s => if p.length ≠ 0 then s.refuse .badForm else s.reply .done (calStatusFields s.cal)) s

/-- The n_sub of a sensor of the run that formed the records. -/
def Calibration.nSubOf (c : Calibration) (i : Fin 6) : Option Nat :=
  (c.sensors.find? fun e => decide (e.1 = i)).map Prod.snd

def calReadAct (p : List Byte) (s : State) : State :=
  let e := rd16 p 0
  let first := rd16 p 4
  let count := rd16 p 6
  if p.length ≠ 8 ∨ count = 0 ∨ 2048 < count then s.refuse .badForm
  else match s.cal.records[e]?, toSensor (rd16 p 2) with
    | some r, some i =>
      match s.cal.nSubOf i with
      | none => s.refuse .badValue
      | some nSub =>
        if 2 * nSub < first + count then s.refuse .badValue
        else if !r.complete then s.refuse .notReady
        else ((s.setProgress (.reading e i first count)).request .controlLink).grant
    | _, _ => s.refuse .badValue

/-- CAL.READ (08 R164): its transfer then reads the responses. -/
def execCalRead (s : State) : Result := runMessage .calRead calReadAct s

/-- The reply of a CAL.READ whose transfer has read its words (08 R164, 03 R72). -/
def State.replyResponses (s : State) (e place count : Nat) (failed : Bool) : State :=
  if failed then
    ({ s with mem := { s.mem with uncorrectableErrors := counterInc s.mem.uncorrectableErrors } } : State).refuse .notReady
  else
    s.reply .done (((s.cal.records[e]?).map recordFields).getD [] ++ ((s.mem.dram.readRun place count).map Field.s16))

/-- CAL_READ_TRANSFER (08 R164, 03 R70, R72). -/
def execCalReadTransfer (upsets : List Upset) (s : State) : Result :=
  match s.mem.arbiter.current, s.link.progress with
  | some .calRead, some (.reading e i first count) =>
    let slot := responseSlot e i
    let place := slot + first
    let dram := s.mem.dram.upset slot upsets
    let scan := dram.scan (wordOf place) (wordOf (place + count - 1) - wordOf place + 1)
    let t := (s.setDram dram).endTransfer
    let u := { t with mem := { t.mem with correctedErrors := counterAdd t.mem.correctedErrors scan.1 } }
    .next (u.replyResponses e place count scan.2).grant
  | _, _ => .next s

end Sys2Proof.Machine
end

