-- ==== Sys2Proof/Machine/Sets.lean ====
section
/-! DEFINITION. Reconstructor sets (03): loading, erasing, selection, the degradation table and the geometry. -/

namespace Sys2Proof.Machine

/-- A set is in use (03 R57). -/
def State.setInUse (s : State) (n : Fin 4) : Bool :=
  decide ((s.setRec n).state = .complete) &&
    (decide (0 < s.setBound n) || decide (s.cyc.selection = .fixed n)
      || ((decide (s.loop.state = .closed) || decide (s.loop.state = .held)) && decide (s.cyc.selection = .auto)
        && decide (s.currentEntry = some n)))

/-! ## SET.BEGIN (03 R56) -/

/-- The entries of a participation list as given: sensor and n_sub. -/
def rdParticipation (p : List Byte) : Option (List (Fin 6 × Nat)) :=
  allSome ((rdPairs rd16 p 4 (rd16 p 2)).map fun e => (toSensor e.1).map fun i => (i, e.2))

/-- No sensor is named twice. -/
def namedOnce (l : List (Fin 6 × Nat)) : Bool := decide ((distinct (l.map Prod.fst)).length = l.length)

/-- Ascending sensor order (03 R56). -/
def inSensorOrder (l : List (Fin 6 × Nat)) : List (Fin 6 × Nat) :=
  (allSensors.map fun i => l.filter fun e => decide (e.1 = i)).flatten

/-- A set that begins to load (03 R56). -/
def begun (nAct : Nat) (l : List (Fin 6 × Nat)) (shift : Nat) : SetRecord :=
  { state := .loading, participation := inSensorOrder l, shift := shift, marks := Vector.replicate 6 [], rowsLoaded := 0,
    rowsRequired := nAct * l.length, errCount := 0, errLoc := none }

def setBeginAct (p : List Byte) (s : State) : State :=
  let count := rd16 p 2
  if p.length ≠ 8 + 4 * count ∨ count = 0 ∨ 6 < count then s.refuse .badForm
  else match toSet (rd16 p 0), rdParticipation p with
    | some n, some l =>
      if !namedOnce l || l.any fun e => decide (e.2 ≠ (s.sensor e.1).config.nSub) || decide (e.2 = 0) then s.refuse .badValue
      else if s.mem.nAct = 0 then s.refuse .notReady
      else if s.setInUse n then s.refuse .inUse
      else
        let given := rd32 p (4 + 4 * count)
        let shift := clampNat 0 30 given
        let clamped := decide (shift ≠ given)
        (s.updSet n fun _ => begun s.mem.nAct l shift).reply (doneOr clamped) (if clamped then [.u32 shift] else [])
    | _, _ => s.refuse .badValue

/-- SET.BEGIN (03 R56). -/
def execSetBegin (s : State) : Result := runMessage .setBegin setBeginAct s

/-! ## SET.LOAD and its row writes (03 R58, R59) -/

/-- The rows of a SET.LOAD, each of 2·n_sub coefficients. -/
def rdRows (p : List Byte) (count nSub : Nat) : List (List Int) :=
  (List.range count).map fun r => rdS16s p (8 + r * (4 * nSub)) (2 * nSub)

def setLoadAct (p : List Byte) (s : State) : State :=
  if p.length < 8 then s.refuse .badForm
  else match toSet (rd16 p 0), toSensor (rd16 p 2) with
    | some n, some i =>
      let first := rd16 p 4
      let count := rd16 p 6
      if (s.setRec n).state ≠ .loading then s.refuse .wrongState
      else match (s.setRec n).nSubOf i with
        | none => s.refuse .badValue
        | some nSub =>
          if count = 0 ∨ p.length - 8 ≠ count * (4 * nSub) then s.refuse .badForm
          else if s.mem.nAct < first + count then s.refuse .badValue
          else ((s.setProgress (.loading n i first (rdRows p count nSub))).request .controlLink).grant
    | _, _ => s.refuse .badValue

/-- SET.LOAD (03 R58): its writes are then made row by row. -/
def execSetLoad (s : State) : Result := runMessage .setLoad setLoadAct s

/-- A row's mark set to loaded (03 R59). -/
def SetRecord.mark (r : SetRecord) (i : Fin 6) (row : Nat) : SetRecord :=
  if row ∈ r.marks[i] then r
  else { r with marks := r.marks.set i (insertRising row r.marks[i]), rowsLoaded := r.rowsLoaded + 1 }

/-- The set becomes COMPLETE when every row it needs is loaded (03 R59). -/
def State.completeSet (s : State) (n : Fin 4) : State :=
  if (s.setRec n).rowsLoaded = (s.setRec n).rowsRequired then
    (s.updSet n fun r => { r with state := .complete }).raise .setReady
  else s

/-- The write of a row ends: the slot holds it and its mark is set (03 R55, R59). -/
def State.writeRow (s : State) (n : Fin 4) (i : Fin 6) (row : Nat) (values : List Int) : State :=
  (s.setDram (s.mem.dram.writeSlot (coefficientSlot n i row) values)).updSet n fun r => r.mark i row

/-- After the last row of the message: COMPLETE or not, and the reply (03 R59). -/
def State.finishLoad (s : State) (n : Fin 4) : State :=
  let t := s.completeSet n
  t.reply .done [.u16 (setStateCode (t.setRec n).state), .u32 (t.setRec n).rowsLoaded]

/-- SET_LOAD_ROW_WRITE (03 R59). -/
def execSetLoadRowWrite (s : State) : Result :=
  match s.mem.arbiter.current, s.link.progress with
  | some .loadRow, some (.loading n i row (values :: rest)) =>
    let t := (s.writeRow n i row values).endTransfer
    match rest with
    | [] => .next (t.finishLoad n).grant
    | _ :: _ => .next ((t.setProgress (.loading n i (row + 1) rest)).request .controlLink).grant
  | _, _ => .next s

/-! ## SET.ERASE, SET.STATUS (03 R60, R61) -/

/-- A message whose payload is one set number. -/
def withSet (p : List Byte) (s : State) (f : Fin 4 → State) : State :=
  if p.length ≠ 2 then s.refuse .badForm
  else match toSet (rd16 p 0) with
    | none => s.refuse .badValue
    | some n => f n

/-- SET.ERASE (03 R60). -/
def execSetErase (s : State) : Result :=
  runMessage .setErase (fun p s => withSet p s fun n =>
    if (s.setRec n).state = .empty then s.reply .done []
    else if s.setInUse n then s.refuse .inUse
    else (s.updSet n fun _ => SetRecord.erased).reply .done []) s

/-- The lowest row of a sensor that is not marked, none when every row is. -/
def lowestUnmarked (nAct : Nat) (marks : List Nat) : Option Nat := (List.range nAct).find? fun i => decide (i ∉ marks)

/-- A location that may be absent: its presence mark, the sensor and the row. -/
def locationFields : Option (Fin 6 × Nat) → List Field
  | none => [.u16 0, .u16 0, .u16 0]
  | some l => [.u16 1, .u16 l.1.val, .u16 l.2]

/-- The participation list in a reply, its count first. -/
def participationFields (l : List (Fin 6 × Nat)) : List Field :=
  [.u16 l.length] ++ (l.map fun e => [Field.u16 e.1.val, .u16 e.2]).flatten

/-- The reply data of SET.STATUS (03 R61, log 18). -/
def State.setStatusFields (s : State) (n : Fin 4) : List Field :=
  let r := s.setRec n
  [.u16 (setStateCode r.state)] ++ participationFields r.participation
    ++ [.u32 r.shift, .u32 r.rowsLoaded, .u32 r.rowsRequired]
    ++ (r.participation.map fun e =>
        [Field.u32 (r.marks[e.1]).length] ++ optField .u16 (lowestUnmarked s.mem.nAct r.marks[e.1])).flatten
    ++ [.u16 (s.setBound n), yesNo (decide (s.cyc.selection = .fixed n)), yesNo (decide (s.currentEntry = some n)),
        .u32 r.errCount]
    ++ locationFields r.errLoc

/-- SET.STATUS (03 R61). -/
def execSetStatus (s : State) : Result :=
  runMessage .setStatus (fun p s => withSet p s fun n => s.reply .done (s.setStatusFields n)) s

/-! ## Selection and degradation table (03 R62 to R64) -/

/-- The selection named by a mode and a set number; the set number is read only under FIXED (03 R62). -/
def toSelection (mode n : Nat) : Option Selection :=
  match mode with
  | 0 => some .auto
  | 1 => (toSet n).map Selection.fixed
  | _ => none

/-- A FIXED selection must name a COMPLETE set (03 R62). -/
def State.selectable (s : State) : Selection → Bool
  | .auto => true
  | .fixed n => decide ((s.setRec n).state = .complete)

/-- SET.SELECT (03 R62). -/
def execSetSelect (s : State) : Result :=
  runMessage .setSelect (fun p s =>
    if p.length ≠ 4 then s.refuse .badForm
    else match toSelection (rd16 p 0) (rd16 p 2) with
      | none => s.refuse .badValue
      | some sel =>
        if s.selectable sel then ({ s with cyc := { s.cyc with selection := sel } } : State).reply .done []
        else s.refuse .notReady) s

/-- Entries written from an index onward. -/
def writeEntries (t : Vector SetId 64) (first : Nat) (values : List SetId) : Vector SetId 64 :=
  Vector.ofFn fun i => if first ≤ i.val then (values[i.val - first]?).getD t[i] else t[i]

/-- DEG.WRITE (03 R63). -/
def execDegWrite (s : State) : Result :=
  runMessage .degWrite (fun p s =>
    let first := rd16 p 0
    let count := rd16 p 2
    if p.length ≠ 4 + 2 * count ∨ count = 0 ∨ 64 < count then s.refuse .badForm
    else if 64 < first + count then s.refuse .badValue
    else match allSome ((rd16s p 4 count).map toDegEntry) with
      | none => s.refuse .badValue
      | some values =>
        ({ s with cyc := { s.cyc with degTable := writeEntries s.cyc.degTable first values } } : State).reply .done []) s

/-- DEG.READ (03 R64). -/
def execDegRead (s : State) : Result :=
  runMessage .degRead (fun p s =>
    let first := rd16 p 0
    let count := rd16 p 2
    if p.length ≠ 4 ∨ count = 0 ∨ 64 < count then s.refuse .badForm
    else if 64 < first + count then s.refuse .badValue
    else s.reply .done (((List.range count).map fun j => .u16 (setCode (s.degEntry (first + j))))
      ++ [.u16 (sensorMask s.presence), yesNo s.cyc.degraded])) s

/-! ## DEV.GEOM (03 R65, R66) -/

/-- The geometry set: the tables that depend on it are cleared, the links made IDLE or UNUSED, and a rest vector
committed (03 R66, 07 Table 7.9, 08 Table 8.5). -/
def State.setGeometry (s : State) (nAct : Nat) : State :=
  ({ s with
    mem := { s.mem with nAct := nAct }
    law := { s.law with
      actuators := List.replicate Config.maxActuators ActRecord.reset
      neighbours := [] }
    cal := { s.cal with pokeList := [], records := [], tallies := [], entry := 0, phase := none }
    drive := { s.drive with
      links := Vector.ofFn fun d => linkGeometry (decide (0 < serviceCount nAct d)) s.drive.links[d] } } : State).restCommit

/-- DEV.GEOM (03 R65). -/
def execDevGeom (s : State) : Result :=
  runMessage .devGeom (fun p s =>
    if p.length ≠ 2 then s.refuse .badForm
    else if Config.maxActuators < rd16 p 0 then s.refuse .badValue
    else if s.loop.state ≠ .idle then s.refuse .wrongState
    else if s.mem.sets.toList.any fun r => decide (r.state ≠ .empty) then s.refuse .inUse
    else if s.cyc.cycles ≠ [] then s.refuse .busy
    else (s.setGeometry (rd16 p 0)).reply .done []) s

end Sys2Proof.Machine
end

