-- ==== Sys2Proof/Machine/Dispatch.lean ====
section
/-! DEFINITION. The dispatch of a command to its meaning, one arm per row of spec/opcode_table.json. -/

namespace Sys2Proof.Machine

/-- The effect of a command on everything but the queue of waiting commands. -/
def exec (i : Instr) (s : State) : Host.Outcome State Fault Refusal :=
  match i with
  | .sensorFrameArrival link bytes => Sys2Proof.Machine.execSensorFrameArrival link bytes s
  | .deadlineExpiry bank => Sys2Proof.Machine.execDeadlineExpiry bank s
  | .jobRowRead upsets => Sys2Proof.Machine.execJobRowRead upsets s
  | .jobCompletion => Sys2Proof.Machine.execJobCompletion s
  | .lawCompletion => Sys2Proof.Machine.execLawCompletion s
  | .holdnChange low => Sys2Proof.Machine.execHoldnChange low s
  | .acknowledgement link bytes => Sys2Proof.Machine.execAcknowledgement link bytes s
  | .ackTimerExpiry link => Sys2Proof.Machine.execAckTimerExpiry link s
  | .setLoadRowWrite => Sys2Proof.Machine.execSetLoadRowWrite s
  | .calResponseWrite => Sys2Proof.Machine.execCalResponseWrite s
  | .calReadTransfer upsets => Sys2Proof.Machine.execCalReadTransfer upsets s
  | .snapCopyEnd => Sys2Proof.Machine.execSnapCopyEnd s
  | .commandFrameReceived bytes => Sys2Proof.Machine.execCommandFrameReceived bytes s
  | .replySent => Sys2Proof.Machine.execReplySent s
  | .linkClear => Sys2Proof.Machine.execLinkClear s
  | .shortBreak => Sys2Proof.Machine.execShortBreak s
  | .powerOnReset => Sys2Proof.Machine.execPowerOnReset s
  | .unknownMessage => Sys2Proof.Machine.execUnknownMessage s
  | .devIdent => Sys2Proof.Machine.execDevIdent s
  | .devGeom => Sys2Proof.Machine.execDevGeom s
  | .devClear => Sys2Proof.Machine.execDevClear s
  | .snsConfig => Sys2Proof.Machine.execSnsConfig s
  | .snsEnable => Sys2Proof.Machine.execSnsEnable s
  | .snsDisable => Sys2Proof.Machine.execSnsDisable s
  | .snsStatus => Sys2Proof.Machine.execSnsStatus s
  | .snsExclAdd => Sys2Proof.Machine.execSnsExclAdd s
  | .snsExclDel => Sys2Proof.Machine.execSnsExclDel s
  | .snsExclList => Sys2Proof.Machine.execSnsExclList s
  | .refWrite => Sys2Proof.Machine.execRefWrite s
  | .refCommit => Sys2Proof.Machine.execRefCommit s
  | .refRead => Sys2Proof.Machine.execRefRead s
  | .cycParam => Sys2Proof.Machine.execCycParam s
  | .cycStatus => Sys2Proof.Machine.execCycStatus s
  | .setBegin => Sys2Proof.Machine.execSetBegin s
  | .setLoad => Sys2Proof.Machine.execSetLoad s
  | .setErase => Sys2Proof.Machine.execSetErase s
  | .setStatus => Sys2Proof.Machine.execSetStatus s
  | .setSelect => Sys2Proof.Machine.execSetSelect s
  | .degWrite => Sys2Proof.Machine.execDegWrite s
  | .degRead => Sys2Proof.Machine.execDegRead s
  | .loopParam => Sys2Proof.Machine.execLoopParam s
  | .actWrite => Sys2Proof.Machine.execActWrite s
  | .actRead => Sys2Proof.Machine.execActRead s
  | .nbrAdd => Sys2Proof.Machine.execNbrAdd s
  | .nbrClear => Sys2Proof.Machine.execNbrClear s
  | .nbrRead => Sys2Proof.Machine.execNbrRead s
  | .loopOpen => Sys2Proof.Machine.execLoopOpen s
  | .loopClose => Sys2Proof.Machine.execLoopClose s
  | .loopHold => Sys2Proof.Machine.execLoopHold s
  | .loopRelease => Sys2Proof.Machine.execLoopRelease s
  | .loopStop => Sys2Proof.Machine.execLoopStop s
  | .loopSafe => Sys2Proof.Machine.execLoopSafe s
  | .loopReset => Sys2Proof.Machine.execLoopReset s
  | .loopStatus => Sys2Proof.Machine.execLoopStatus s
  | .drvParam => Sys2Proof.Machine.execDrvParam s
  | .drvPoke => Sys2Proof.Machine.execDrvPoke s
  | .drvRestart => Sys2Proof.Machine.execDrvRestart s
  | .drvStatus => Sys2Proof.Machine.execDrvStatus s
  | .calLoad => Sys2Proof.Machine.execCalLoad s
  | .calStart => Sys2Proof.Machine.execCalStart s
  | .calStop => Sys2Proof.Machine.execCalStop s
  | .calStatus => Sys2Proof.Machine.execCalStatus s
  | .calRead => Sys2Proof.Machine.execCalRead s
  | .statRead => Sys2Proof.Machine.execStatRead s
  | .statClear => Sys2Proof.Machine.execStatClear s
  | .peakArm => Sys2Proof.Machine.execPeakArm s
  | .peakRead => Sys2Proof.Machine.execPeakRead s
  | .snapArm => Sys2Proof.Machine.execSnapArm s
  | .snapStatus => Sys2Proof.Machine.execSnapStatus s
  | .snapRead => Sys2Proof.Machine.execSnapRead s
  | .monSelect => Sys2Proof.Machine.execMonSelect s
  | .ntcMask => Sys2Proof.Machine.execNtcMask s
  | .ntcPoll => Sys2Proof.Machine.execNtcPoll s
  | .commandLengthAboveLimit length => Sys2Proof.Machine.execCommandLengthAboveLimit length s
  | .lineLeavesBreak => Sys2Proof.Machine.execLineLeavesBreak s

end Sys2Proof.Machine
end

