-- ==== Sys2Proof/Safety.lean ====
section
/-! DEFINITION. What counts as a safe state of the part: the properties that the manual's prose promises of it, each kept by
every command, and the conditions on a state under which the statements of Certificates/Slice0/Obligations.lean say that a
command has its effect. -/

namespace Sys2Proof.Machine

/-! ## Messages -/

/-- The message that a command is, none for an event. -/
def messageOf : Instr → Option Message
  | .devIdent => some .devIdent
  | .devGeom => some .devGeom
  | .devClear => some .devClear
  | .snsConfig => some .snsConfig
  | .snsEnable => some .snsEnable
  | .snsDisable => some .snsDisable
  | .snsStatus => some .snsStatus
  | .snsExclAdd => some .snsExclAdd
  | .snsExclDel => some .snsExclDel
  | .snsExclList => some .snsExclList
  | .refWrite => some .refWrite
  | .refCommit => some .refCommit
  | .refRead => some .refRead
  | .cycParam => some .cycParam
  | .cycStatus => some .cycStatus
  | .setBegin => some .setBegin
  | .setLoad => some .setLoad
  | .setErase => some .setErase
  | .setStatus => some .setStatus
  | .setSelect => some .setSelect
  | .degWrite => some .degWrite
  | .degRead => some .degRead
  | .loopParam => some .loopParam
  | .actWrite => some .actWrite
  | .actRead => some .actRead
  | .nbrAdd => some .nbrAdd
  | .nbrClear => some .nbrClear
  | .nbrRead => some .nbrRead
  | .loopOpen => some .loopOpen
  | .loopClose => some .loopClose
  | .loopHold => some .loopHold
  | .loopRelease => some .loopRelease
  | .loopStop => some .loopStop
  | .loopSafe => some .loopSafe
  | .loopReset => some .loopReset
  | .loopStatus => some .loopStatus
  | .drvParam => some .drvParam
  | .drvPoke => some .drvPoke
  | .drvRestart => some .drvRestart
  | .drvStatus => some .drvStatus
  | .calLoad => some .calLoad
  | .calStart => some .calStart
  | .calStop => some .calStop
  | .calStatus => some .calStatus
  | .calRead => some .calRead
  | .statRead => some .statRead
  | .statClear => some .statClear
  | .peakArm => some .peakArm
  | .peakRead => some .peakRead
  | .snapArm => some .snapArm
  | .snapStatus => some .snapStatus
  | .snapRead => some .snapRead
  | .monSelect => some .monSelect
  | .ntcMask => some .ntcMask
  | .ntcPoll => some .ntcPoll
  | .sensorFrameArrival _ _ | .deadlineExpiry _ | .jobRowRead _ | .jobCompletion | .lawCompletion | .holdnChange _ => none
  | .acknowledgement _ _ | .ackTimerExpiry _ | .setLoadRowWrite | .calResponseWrite | .calReadTransfer _ => none
  | .snapCopyEnd | .commandFrameReceived _ | .replySent | .linkClear | .shortBreak | .powerOnReset => none
  | .unknownMessage | .commandLengthAboveLimit _ | .lineLeavesBreak => none

/-- The payload lengths and counts that each message's own rule asks for before anything else (10 R184); SET.LOAD checks the
length of its rows later (03 R58). -/
def formOk (m : Message) (p : List Byte) : Bool :=
  match m with
  | .devIdent | .devClear | .cycStatus | .nbrClear | .loopOpen | .loopClose | .loopHold | .loopRelease | .loopStop => p.length = 0
  | .loopSafe | .loopReset | .loopStatus | .drvStatus | .calStop | .calStatus | .statRead | .statClear | .peakArm => p.length = 0
  | .peakRead | .snapStatus | .ntcPoll => p.length = 0
  | .devGeom | .snsEnable | .snsDisable | .snsStatus | .snsExclList | .refCommit | .setErase | .setStatus => p.length = 2
  | .drvRestart | .ntcMask => p.length = 2
  | .cycParam | .setSelect | .nbrRead => p.length = 4
  | .monSelect => p.length = 6
  | .refRead | .drvParam | .calStart | .snapArm => p.length = 8
  | .snsConfig => p.length = 24
  | .loopParam => p.length = 28
  | .snsExclAdd | .snsExclDel => p.length = 4 + 2 * rd16 p 2 ∧ 1 ≤ rd16 p 2 ∧ rd16 p 2 ≤ 64
  | .refWrite => p.length = 6 + 2 * rd16 p 4
  | .setBegin => p.length = 8 + 4 * rd16 p 2 ∧ 1 ≤ rd16 p 2 ∧ rd16 p 2 ≤ 6
  | .setLoad => 8 ≤ p.length
  | .degWrite => p.length = 4 + 2 * rd16 p 2 ∧ 1 ≤ rd16 p 2 ∧ rd16 p 2 ≤ 64
  | .degRead => p.length = 4 ∧ 1 ≤ rd16 p 2 ∧ rd16 p 2 ≤ 64
  | .actWrite => p.length = 4 + 10 * rd16 p 2 ∧ 1 ≤ rd16 p 2
  | .actRead => p.length = 4 ∧ 1 ≤ rd16 p 2
  | .nbrAdd => p.length = 2 + 4 * rd16 p 0 ∧ 1 ≤ rd16 p 0
  | .drvPoke => p.length = 2 + 4 * rd16 p 0 ∧ 1 ≤ rd16 p 0 ∧ rd16 p 0 ≤ 1024
  | .calLoad => p.length = 2 + 4 * rd16 p 0 ∧ rd16 p 0 ≤ 256
  | .calRead => p.length = 8 ∧ 1 ≤ rd16 p 6 ∧ rd16 p 6 ≤ 2048
  | .snapRead => p.length = 4 ∧ 1 ≤ rd16 p 2 ∧ rd16 p 2 ≤ 2000

/-! ## Promises of the manual -/

/-- In IDLE and SAFE no cycle is live (02 section 2, R50). -/
def State.restful (s : State) : Prop :=
  s.loop.state.closedToCycles = true → ∀ k ∈ s.cyc.cycles, k.abandoned = true

/-- A link that serves actuators is FAILED only in IDLE or SAFE (06 R121). -/
def State.driven (s : State) : Prop := s.linkFailed = true → s.loop.state.closedToCycles = true

/-- The existing cycles are bound to different banks, so there are at most two (02 R28). -/
def State.banked (s : State) : Prop := (s.cyc.cycles.map fun k => k.bank).Nodup

/-- An abandoned cycle is DRAINING: abandonment makes an ACCUMULATING one so, keeps a DRAINING one, and retires one in LAW
(02 Table 2.11, R49). -/
def State.drained (s : State) : Prop := ∀ k ∈ s.cyc.cycles, k.abandoned = true → k.state = .draining

/-- The memory has its canonical form. -/
def State.memoryWf (s : State) : Prop := s.mem.dram.wf = true

/-- One code of 0..65,535 for each actuator below N_act (05 R99, R100). -/
def State.coded (s : State) : Prop :=
  s.law.committed.length = s.mem.nAct ∧ ∀ c ∈ s.law.committed, 0 ≤ c ∧ c ≤ 65535

/-- What the control link may hold at once (10 R182, R183, R185). -/
def State.linked (s : State) : Prop :=
  s.link.queue.length ≤ 4
    ∧ (s.link.transmitter.filter fun r => decide (r.status ≠ .queueFull)).length ≤ 1
    ∧ (s.link.transmitter.filter fun r => decide (r.status = .queueFull)).length ≤ 7
    ∧ (s.link.holdsReply = true → s.link.executing = none)

/-! ## Conditions on a state -/

/-- The command in execution carries the message's name and a payload, and the owning block has yet to act (10 R183). -/
def State.hears (s : State) (m : Message) (payload : List Byte) : Bool :=
  match s.link.executing with
  | none => false
  | some c => decide (c.progress = .taken) && decide (c.frame.name = messageName m) && decide (c.frame.payload = payload)

/-- Nothing follows a step by itself: no bank waits to be offered, no cycle can pass to LAW, no job waits to start and the
arbiter has nothing to grant. -/
def State.quiet (s : State) : Bool :=
  !s.cyc.reoffer && !s.canPass && (s.recon.inFlight.isSome || s.recon.queue.isEmpty)
    && (s.mem.arbiter.current.isSome
      || (match s.recon.inFlight with
        | none => s.mem.arbiter.waiting.isEmpty
        | some f => match f.job.kind with
          | .substitution => true
          | .contribution _ => decide (f.nAct ≤ f.nextRow)))

/-- Unsigned 16-bit values. -/
def fits16 (l : List Nat) : Bool := l.all fun n => decide (n < 65536)

/-- Signed 16-bit values. -/
def fitsS16 (l : List Int) : Bool := l.all fun x => decide (-32768 ≤ x) && decide (x ≤ 32767)

/-- Every actuator's integrator holds its rest integrator value, or 0 for a DEAD actuator (05 R96). -/
def State.atRest (s : State) : Prop := ∀ i < s.mem.nAct, vget s.law.z i = restIntegrator (s.act i)

/-- The frame is one that intake neither finds bad nor stale, and whose flags are those of the record (01 R1, R17, R20). -/
def State.plainFrame (s : State) (i : Fin 6) (b : List Byte) : Bool :=
  !frameSyntaxError i (s.sensor i).config.nSub b && !frameContentError b && decide (frameFlags b = (s.sensor i).flags)
    && !(frameFlags b).shutter && decide ((s.sensor i).config.nStale = 0)

end Sys2Proof.Machine
end

