-- ==== Sys2Proof/Certificates/Slice0/Obligations.lean ====
section
/-! DEFINITION. The statements about the part, chapter by chapter. A payload is written with u16s, s16s and u32s, field by
field, as the host sends it (10 section 10.9); `s.hears m p` says that the command in execution is message m with payload p;
`s.quiet` that nothing follows a step by itself. -/

open Sys2Proof Sys2Proof.Machine

/-! ## The whole part -/

/-- A step carries out the command at the front of the queue with the queue's rest.

On an empty queue the part idles: the model's choice (DESIGN CHOICE, log 1). -/
def Obligations.StepRunsFrontCommand : Prop :=
  (∀ (c : Instr) (rest : List Instr) (s : State),
      step { s with pending := c :: rest } = exec c { s with pending := rest })
  ∧ (∀ s : State, s.pending = [] → step s = .next s)

/-- Every command in every state answers a next state and leaves the waiting commands alone; only HOLDN_CHANGE moves the level
of HOLDN (06 R123), and only CYC.STATUS and DRV.STATUS draw free values.

The model's choices in it are that a command whose event cannot come about answers a next state too (DESIGN CHOICE, log 2), the
free values (DESIGN CHOICE, log 5), and that POWER_ON_RESET keeps the waiting commands and HOLDN's level (DESIGN CHOICE,
log 23). -/
def Obligations.EveryCommandAnswersNext : Prop :=
  ∀ (c : Instr) (s : State), ∃ t, exec c s = .next t ∧ t.pending = s.pending
    ∧ (t.loop.holdnLow = s.loop.holdnLow ∨ ∃ low, c = .holdnChange low ∧ t.loop.holdnLow = low)
    ∧ (t.freeCount = s.freeCount ∨ c = .cycStatus ∨ c = .drvStatus)

/-- A message that is not the command in execution, or that its block has already acted on, changes nothing; so does an event
that cannot come about: no completion without a job in flight or a law in progress, no transfer end without a transfer.

The sections cited say when a message is acted on and when an event happens; that the row of one that does not happen changes
nothing is no rule of the spec but the model's choice in every clause (DESIGN CHOICE, log 2). -/
def Obligations.NothingWithoutItsCause : Prop :=
  (∀ (c : Instr) (m : Message) (s : State), messageOf c = some m → (∀ p, s.hears m p = false) → exec c s = .next s)
  ∧ (∀ s : State, s.link.executing = none → exec .unknownMessage s = .next s)
  ∧ (∀ (s : State) (us : List Upset), s.recon.inFlight = none →
      exec (.jobRowRead us) s = .next s ∧ exec .jobCompletion s = .next s)
  ∧ (∀ s : State, s.law.inProgress = none → exec .lawCompletion s = .next s)
  ∧ (∀ (s : State) (us : List Upset), s.mem.arbiter.current = none →
      exec .setLoadRowWrite s = .next s ∧ exec .calResponseWrite s = .next s ∧ exec (.calReadTransfer us) s = .next s
        ∧ exec (.jobRowRead us) s = .next s)
  ∧ (∀ (s : State) (b : Bank), s.cycleAt b = none → exec (.deadlineExpiry b) s = .next s)
  ∧ (∀ (s : State) (d : Fin 4), (s.driveLink d).state ≠ .busy → exec (.ackTimerExpiry d) s = .next s)
  ∧ (∀ s : State, s.mon.snapState ≠ .filling → exec .snapCopyEnd s = .next s)
  ∧ (∀ s : State, s.link.transmitter = [] → exec .replySent s = .next s)
  ∧ (∀ s : State, s.link.receiver ≠ .inBreak → exec .lineLeavesBreak s = .next s)

/-- A payload whose length or count is not what the message's rule asks for is answered BAD_FORM, and nothing else changes.

An index at or above its bound is answered BAD_VALUE by the messages whose payload is one index: sensors 0 to 5, sets 0 to
3, links 0 to 3.

A choice field that names no defined choice is answered BAD_VALUE by SNS.CONFIG, LOOP.PARAM and ACT.WRITE, and so are a sensor
index above 5 and an n_sub above 1,024 (R23, R131, R106, R184).

Which payloads are well formed, and which status a payload with two faults gets, is in part the model's choice: the widths of
operands that no table gives (log 19), the form checked before the values and the state (log 20), and the counts of 0 that are
accepted (log 21). -/
def Obligations.IllFormedRequestsChangeNothing : Prop :=
  (∀ (c : Instr) (m : Message) (p : List Byte) (s : State), messageOf c = some m → s.hears m p = true → formOk m p = false →
      exec c s = .next (s.refuse .badForm))
  ∧ (∀ e ∈ [(Instr.snsEnable, Message.snsEnable, 6), (.snsDisable, .snsDisable, 6), (.snsStatus, .snsStatus, 6),
        (.snsExclList, .snsExclList, 6), (.refCommit, .refCommit, 6), (.setErase, .setErase, 4), (.setStatus, .setStatus, 4),
        (.drvRestart, .drvRestart, 4)],
      ∀ (s : State) (n : Nat), e.2.2 ≤ n → n < 65536 → s.hears e.2.1 (u16s [n]) = true →
        exec e.1 s = .next (s.refuse .badValue))
  ∧ (∀ s : State,
      (∀ i n policy k a r h fx : Nat, i < 65536 → n < 65536 → policy < 65536 → fx < 65536 →
        s.hears .snsConfig (u16s [i, n, policy] ++ u32s [k, a, r, h] ++ u16s [fx]) = true →
        6 ≤ i ∨ 1024 < n ∨ 2 ≤ policy ∨ 4 ≤ fx → exec .snsConfig s = .next (s.refuse .badValue))
      ∧ (∀ g l source d timing exclusivity gate r n : Nat, source < 65536 → timing < 65536 → exclusivity < 65536 →
          gate < 65536 →
          s.hears .loopParam (u32s [g, l] ++ u16s [source] ++ u32s [d] ++ u16s [timing, exclusivity, gate] ++ u32s [r, n]) = true →
          2 ≤ source ∨ 2 ≤ timing ∨ 2 ≤ exclusivity ∨ 2 ≤ gate → exec .loopParam s = .next (s.refuse .badValue))
      ∧ (∀ (first gain mode : Nat) (lo hi flat : Int), mode < 65536 →
          s.hears .actWrite (u16s [first, 1] ++ s16s [lo, hi, flat] ++ u16s [gain, mode]) = true →
          3 ≤ mode → exec .actWrite s = .next (s.refuse .badValue)))

/-- A message answered with a status other than DONE and CLAMPED has changed nothing but the link's record of it. -/
def Obligations.RefusalChangesNothing : Prop :=
  ∀ (c : Instr) (m : Message) (s t : State) (r : Reply), messageOf c = some m → exec c s = .next t →
    t.link.transmitter = s.link.transmitter ++ [r] → r.status ≠ .done → r.status ≠ .clamped → t = s.reply r.status r.data

/-- The memory keeps its canonical form in every step. -/
def Obligations.MemoryStaysCanonical : Prop :=
  ∀ s t : State, s.memoryWf → step s = .next t → t.memoryWf

/-- The existing cycles stay bound to different banks in every step, so there are never more than two (02 R28).

In IDLE and SAFE no cycle is live, in every step (02 R50).

An abandoned cycle is DRAINING, in every step (02 Table 2.11, R49).

A link that serves actuators is FAILED only in IDLE and SAFE, in every step (06 R121, 07 R142). -/
def Obligations.CyclesStayInOrder : Prop :=
  (∀ s t : State, s.banked → step s = .next t → t.banked ∧ t.cyc.cycles.length ≤ 2)
  ∧ (∀ s t : State, s.banked → s.restful → step s = .next t → t.restful)
  ∧ (∀ s t : State, s.banked → s.drained → step s = .next t → t.drained)
  ∧ (∀ s t : State, s.driven → step s = .next t → t.driven)

/-- The newest committed vector holds one code of 0..65,535 for each actuator below N_act, in every step (05 R99, R100). -/
def Obligations.CommittedCodesStayInRange : Prop :=
  ∀ s t : State, s.coded → step s = .next t → t.coded

/-- In every step: the receive queue holds at most four frames, the transmitter at most one command's reply and at most seven
QUEUE_FULL replies, and while it holds a command's reply no command is in execution (10 R182, R183, R185). -/
def Obligations.LinkHoldsWhatItMay : Prop :=
  ∀ s t : State, s.linked → step s = .next t → t.linked

/-- The state after power-on reset meets every invariant above.

What the manual's tables give for power-on reset.

POWER_ON_RESET leaves every block at its power-on values; the memory keeps its contents (08 R165), HOLDN its level, and
the waiting commands and the count of free values stay (the model's choices, log 23). -/
def Obligations.PowerOnState : Prop :=
  (State.reset.memoryWf ∧ State.reset.banked ∧ State.reset.restful ∧ State.reset.drained ∧ State.reset.driven
      ∧ State.reset.coded ∧ State.reset.linked)
  ∧ (let s := State.reset
    (∀ i : Fin 6, (s.sensor i).mode = .disabled
      ∧ (s.sensor i).config = { nSub := 0, policy := .omit, kMiss := 3, aGood := 8, nStale := 0, hMax := 2, fx := .none }
      ∧ (s.sensor i).queue = [] ∧ (s.sensor i).activePage = 0 ∧ (s.sensor i).commitPending = false
      ∧ (s.sensor i).exclusion = [] ∧ (s.sensor i).copy = none ∧ (s.sensor i).meanSquare = 0)
    ∧ s.cyc.cycles = [] ∧ s.cyc.lastClosed = none ∧ s.cyc.lastOpened = none ∧ s.cyc.lastSet = none ∧ s.cyc.tDl = 1000
    ∧ s.cyc.selection = .auto ∧ (∀ i, s.degEntry i = none) ∧ s.cyc.degraded = false
    ∧ (∀ n : Fin 4, (s.setRec n).state = .empty) ∧ s.mem.nAct = 0
    ∧ s.recon.queue = [] ∧ s.recon.inFlight = none ∧ (∀ i, (s.savedOf i).valid = false)
    ∧ s.law.inProgress = none ∧ s.law.committed = [] ∧ s.law.neighbours = [] ∧ s.law.lastApplied = none ∧ s.law.lastQ = 0
    ∧ (∀ i, vget s.law.z i = 0)
    ∧ (∀ i, s.act i = { lo := -32768, hi := 32767, flat := 0, gain := 16384, mode := .normal })
    ∧ s.loop.state = .idle ∧ s.loop.command = false ∧ s.loop.diverge = false ∧ s.loop.runCount = 0
    ∧ s.loop.params = { gGlob := 0, leak := 32768, gainSource := .global, dMax := 0, timing := .atBoundary,
                        exclusivity := .shared, flagGate := true, rDiv := 0, nDiv := 5 }
    ∧ (∀ d : Fin 4, (s.driveLink d).state = .unused ∧ (s.driveLink d).seq = 0 ∧ (s.driveLink d).lastAccepted = none)
    ∧ s.drive.tAck = 200 ∧ s.drive.fMax = 3
    ∧ s.cal.pokeList = [] ∧ s.cal.running = false ∧ s.cal.endReason = none ∧ s.cal.nS = 0 ∧ s.cal.nM = 1
    ∧ s.mon.peakArmed = false ∧ s.mon.snapState = .empty ∧ s.mon.snapTrigger = .next ∧ s.mon.snapThreshold = 1
    ∧ s.mon.snapSelection = 7 ∧ s.mon.line0 = { source := .loopClosed, activeHigh := true }
    ∧ s.mon.line1 = { source := .loopHeld, activeHigh := true }
    ∧ s.link.queue = [] ∧ s.link.executing = none ∧ s.link.transmitter = [] ∧ s.link.notices = 0
    ∧ s.link.masks = BitVec.allOnes 12 ∧ s.link.dropped = 0 ∧ s.ntfnLow = false)
  ∧ (∀ s : State, ∃ t, exec .powerOnReset s = .next t
      ∧ t.intake = State.reset.intake ∧ t.cyc = State.reset.cyc ∧ t.recon = State.reset.recon ∧ t.law = State.reset.law
      ∧ t.drive = State.reset.drive ∧ t.cal = State.reset.cal ∧ t.mon = State.reset.mon ∧ t.link = State.reset.link
      ∧ t.mem = { State.reset.mem with dram := s.mem.dram } ∧ t.loop = { State.reset.loop with holdnLow := s.loop.holdnLow }
      ∧ t.pending = s.pending ∧ t.freeCount = s.freeCount)

/-- A pending notice condition stays pending until NTC.POLL, DEV.CLEAR or power-on reset (10 R187).

What the host has set changes only by the messages that set it and by power-on reset; DEV.CLEAR and LOOP.RESET keep it, but
for the set selection, which DEV.CLEAR returns to AUTO. -/
def Obligations.WhatStaysUntilChanged : Prop :=
  (∀ (c : Instr) (s t : State) (n : Notice), exec c s = .next t → s.isPending n = true →
      t.isPending n = true ∨ c = .ntcPoll ∨ c = .devClear ∨ c = .powerOnReset)
  ∧ (∀ (c : Instr) (s t : State), exec c s = .next t → c ≠ .powerOnReset →
      (∀ i, (t.sensor i).config = (s.sensor i).config ∨ c = .snsConfig)
      ∧ (∀ i, (t.sensor i).exclusion = (s.sensor i).exclusion ∨ c = .snsConfig ∨ c = .snsExclAdd ∨ c = .snsExclDel)
      ∧ (∀ i, (t.sensor i).pages = (s.sensor i).pages ∨ c = .snsConfig ∨ c = .refWrite)
      ∧ (t.cyc.tDl = s.cyc.tDl ∨ c = .cycParam)
      ∧ (t.cyc.degTable = s.cyc.degTable ∨ c = .degWrite)
      ∧ (t.cyc.selection = s.cyc.selection ∨ c = .setSelect ∨ (c = .devClear ∧ t.cyc.selection = .auto))
      ∧ (t.mem.nAct = s.mem.nAct ∨ c = .devGeom)
      ∧ (t.mem.dram.data = s.mem.dram.data ∨ c = .setLoadRowWrite ∨ c = .calResponseWrite)
      ∧ (t.law.neighbours = s.law.neighbours ∨ c = .nbrAdd ∨ c = .nbrClear ∨ c = .devGeom)
      ∧ (t.loop.params = s.loop.params ∨ c = .loopParam)
      ∧ ((t.drive.tAck = s.drive.tAck ∧ t.drive.fMax = s.drive.fMax) ∨ c = .drvParam)
      ∧ (t.cal.pokeList = s.cal.pokeList ∨ c = .calLoad ∨ c = .devGeom)
      ∧ ((t.mon.line0 = s.mon.line0 ∧ t.mon.line1 = s.mon.line1) ∨ c = .monSelect)
      ∧ (t.link.masks = s.link.masks ∨ c = .ntcMask))

/-! ## Slope intake (01) -/

/-- A sensor frame reads back as it was sent (10 Table 10.9, R194): one that passes the checks of R2 and R3 is handled with
exactly the FN, the three flags and the slopes that the front end sent. -/
def Obligations.SensorFrameReadsBack : Prop :=
  ∀ (s : State) (i : Fin 6) (fl : Byte) (fn : Half) (slopes : List Int),
    (s.sensor i).mode ≠ .disabled → fitsS16 slopes = true →
    (fl.getLsbD 0 = true → slopes = []) → (fl.getLsbD 0 = false → slopes.length = 2 * (s.sensor i).config.nSub) →
    (s.sensor i).config.nSub ≤ 1024 →
    exec (.sensorFrameArrival i (sensorFrameBytes i fl fn slopes)) s
      = .next (s.checkedFrame i { fn := fn, flags := { shutter := fl.getLsbD 0, holdreq := fl.getLsbD 1, fx := fl.getLsbD 2 },
                                  slopes := slopes, stamp := 0 })

/-- The frame of a DISABLED sensor is only counted; a syntax error or a content error is counted and restarts an acquisition
run, and nothing else changes while the flag gate is ON (R1 to R4, R15).

With the flag gate OFF a frame with only a content error records its HOLDREQ and FX and keeps the recorded SHUTTER; a
change raises INBAND_CHANGE and the INBAND source is evaluated again; under DROP_SAVED a set FX invalidates the sensor's saved
contribution, whatever the sensor's state, and under the other functions the saved contributions stay (R4, R20, R21). -/
def Obligations.DroppedFramesAreCounted : Prop :=
  (∀ (s : State) (i : Fin 6) (b : List Byte),
      let x := s.sensor i
      let bad := byteAt b 0 ≠ i.val ∨ ((b.getD 1 0).getLsbD 0 = true ∧ rd16 b 4 ≠ 0)
        ∨ ((b.getD 1 0).getLsbD 0 = false ∧ rd16 b 4 ≠ 2 * x.config.nSub) ∨ b.length ≠ 10 + 2 * rd16 b 4
      let damaged := BitVec.ofNat 32 (rd32 b (6 + 2 * rd16 b 4)) ≠ crc32 (b.take (6 + 2 * rd16 b 4))
      let run := if x.mode = .acquiring then 0 else x.acquire
      (x.mode = .disabled →
        exec (.sensorFrameArrival i b) s = .next (s.updSensor i fun x =>
          { x with counters := { x.counters with ignored := counterInc x.counters.ignored } }))
      ∧ (x.mode ≠ .disabled → bad →
        exec (.sensorFrameArrival i b) s = .next (s.updSensor i fun x =>
          { x with acquire := run, counters := { x.counters with syntaxErrors := counterInc x.counters.syntaxErrors } }))
      ∧ (x.mode ≠ .disabled → ¬ bad → damaged → s.loop.params.flagGate = true → s.quiet = true →
        exec (.sensorFrameArrival i b) s = .next (s.updSensor i fun x =>
          { x with acquire := run, counters := { x.counters with contentErrors := counterInc x.counters.contentErrors } })))
  ∧ (∀ (s : State) (i : Fin 6) (b : List Byte),
      let x := s.sensor i
      let flags : Flags := { shutter := x.flags.shutter, holdreq := (b.getD 1 0).getLsbD 1, fx := (b.getD 1 0).getLsbD 2 }
      x.mode ≠ .disabled → frameSyntaxError i x.config.nSub b = false → frameContentError b = true →
      s.loop.params.flagGate = false → s.quiet = true → s.loop.state ≠ .closed → s.loop.state ≠ .held →
      ∃ t, exec (.sensorFrameArrival i b) s = .next t ∧ (t.sensor i).flags = flags
        ∧ t.link = (if flags = x.flags then s else s.raise .inbandChange).link
        ∧ t.loop = (if flags = x.flags then s.loop else { s.loop with
            inband := allSensors.any fun j => decide ((t.sensor j).mode = .active) && ((t.sensor j).flags.holdreq
              || ((t.sensor j).flags.fx && decide ((t.sensor j).config.fx = .hold))) })
        ∧ (∀ j, j ≠ i → t.sensor j = s.sensor j)
        ∧ (t.sensor i) = { x with
            flags := flags
            acquire := if x.mode = .acquiring then 0 else x.acquire
            counters := { x.counters with contentErrors := counterInc x.counters.contentErrors } }
        ∧ (flags.fx = true ∧ x.config.fx = .dropSaved → t.recon = { s.recon with
            saved := s.recon.saved.set i { s.savedOf i with valid := false } })
        ∧ (flags.fx = false ∨ x.config.fx ≠ .dropSaved → t.recon = s.recon)
        ∧ t.cyc = s.cyc ∧ t.mem = s.mem ∧ t.law = s.law ∧ t.drive = s.drive ∧ t.cal = s.cal ∧ t.mon = s.mon)

/-- The frame of a sensor that is not yet trusted, and that of an ACTIVE sensor in IDLE or SAFE, is taken at once with no cycle:
the comparison copy and the stale run follow, the taken counter rises, and its slopes are corrected against the ACTIVE page
(R5, R6, R8, R15, R17).

Its FX flag acts as the sensor's function says (R8, R22): under EXCLUDE the slopes are not corrected, and under DROP_SAVED the
sensor's saved contribution is invalidated.

A SHUTTER frame is taken as well: it is not tested for staleness and not corrected, it restarts an acquisition run, and its
DROP_SAVED request is sent (R8, R15, R17, R22). -/
def Obligations.FrameTakenWithNoCycle : Prop :=
  (∀ (s : State) (i : Fin 6) (b : List Byte),
    let x := s.sensor i
    let fx := (b.getD 1 0).getLsbD 2
    let slopes := rdS16s b 6 (2 * x.config.nSub)
    let cases := if fx = true ∧ x.config.fx = .exclude then [] else x.slopeCases x.activePage slopes
    let taken := fun (y : Sensor) => { y with
      copy := some slopes
      staleRun := if x.copy = some slopes then countInc255 x.staleRun else 0
      meanSquare := if fx = true ∧ x.config.fx = .exclude then x.meanSquare else meanSquareOf cases
      counters := if fx = true ∧ x.config.fx = .exclude then { y.counters with taken := counterInc y.counters.taken }
        else { y.counters with
          taken := counterInc y.counters.taken
          noMeasurement := counterAdd y.counters.noMeasurement (cases.filter fun c => decide (c = .noMeasurement)).length
          saturatedCorrection := counterAdd y.counters.saturatedCorrection (cases.filter SlopeCase.isSaturated).length } }
    let dropped := if fx = true ∧ x.config.fx = .dropSaved then s.updSaved i fun y => { y with valid := false } else s
    s.plainFrame i b = true → s.quiet = true →
    (x.mode = .acquiring → x.acquire + 1 < x.config.aGood →
      exec (.sensorFrameArrival i b) s = .next (dropped.updSensor i fun y => { taken y with acquire := x.acquire + 1 }))
    ∧ (x.mode = .active → s.loop.state.closedToCycles = true → x.queue = [] →
      exec (.sensorFrameArrival i b) s
        = .next { dropped.updSensor i taken with
            intake := { (s.updSensor i taken).intake with arrivals := s.intake.arrivals + 1 } }))
  ∧ (∀ (s : State) (i : Fin 6) (b : List Byte),
    let x := s.sensor i
    let taken := fun (y : Sensor) => { y with counters := { y.counters with taken := counterInc y.counters.taken } }
    let dropped := if (b.getD 1 0).getLsbD 2 = true ∧ x.config.fx = .dropSaved then
      s.updSaved i fun y => { y with valid := false } else s
    frameSyntaxError i x.config.nSub b = false → frameContentError b = false → (b.getD 1 0).getLsbD 0 = true →
    frameFlags b = x.flags → s.quiet = true →
    (x.mode = .acquiring ∨ x.mode = .lost →
      exec (.sensorFrameArrival i b) s = .next (dropped.updSensor i fun y =>
        { taken y with acquire := if x.mode = .acquiring then 0 else x.acquire }))
    ∧ (x.mode = .active → s.loop.state.closedToCycles = true → x.queue = [] →
      exec (.sensorFrameArrival i b) s
        = .next { dropped.updSensor i taken with
            intake := { (s.updSensor i taken).intake with arrivals := s.intake.arrivals + 1 } }))

/-- Acquisition and staleness (Table 1.6, R15, R17): what a checked frame's arrival does to the sensor's state, its acquire count
and its stale run, before the frame is disposed of.

The stale frame that brings the run of an ACTIVE sensor up to N_stale makes it LOST (R16, R17, R19, R25): the declaration is
counted, SENSOR_STATE raised, the queue emptied into the lost-frame counter, the sensor settled as missed in a cycle that awaits
it, and the INBAND source evaluated again; the frame is taken, and the drop request of its FX is sent (DEDUCED, log 11). Stated
for policy OMIT, at most one cycle, and a loop neither CLOSED nor HELD.

A frame joins its sensor's queue behind the others; a third one drops the older of the two queued and counts it (R6, R7). -/
def Obligations.AcquisitionAndQueue : Prop :=
  (∀ (s : State) (i : Fin 6) (f : Frame),
      let x := s.sensor i
      let y := ((s.frameUpdate i f).1).sensor i
      let run := if x.copy = some f.slopes then countInc255 x.staleRun else 0
      let stale := f.flags.shutter = false ∧ x.config.nStale ≠ 0 ∧ x.config.nStale ≤ run
      ((s.frameUpdate i f).2 = true ↔ stale)
      ∧ (f.flags.shutter = true → y = { x with acquire := if x.mode = .acquiring then 0 else x.acquire })
      ∧ (f.flags.shutter = false → y.staleRun = run ∧ y.copy = some f.slopes)
      ∧ (f.flags.shutter = false → ¬ stale → x.mode = .acquiring → x.acquire + 1 < x.config.aGood →
          y.mode = .acquiring ∧ y.acquire = x.acquire + 1)
      ∧ (f.flags.shutter = false → ¬ stale → x.mode = .acquiring → x.config.aGood ≤ x.acquire + 1 →
          y.mode = .active ∧ y.acquire = 0 ∧ y.missCount = 0)
      ∧ (f.flags.shutter = false → ¬ stale → x.mode = .lost → 2 ≤ x.config.aGood → y.mode = .acquiring ∧ y.acquire = 1)
      ∧ (f.flags.shutter = false → ¬ stale → x.mode = .lost → x.config.aGood = 1 → y.mode = .active)
      ∧ (f.flags.shutter = false → ¬ stale → x.mode = .active → y.mode = .active)
      ∧ (stale → x.staleRun < x.config.nStale → run = x.config.nStale → x.mode = .acquiring →
          y.mode = .lost ∧ y.counters.staleDeclarations = counterInc x.counters.staleDeclarations ∧ y.queue = [])
      ∧ (stale → x.mode = .lost → y = { x with staleRun := run, copy := some f.slopes })
      ∧ (stale → x.mode = .active → x.config.nStale ≤ x.staleRun → y = { x with staleRun := run }))
  ∧ (∀ (s : State) (i : Fin 6) (b : List Byte),
      let x := s.sensor i
      let awaited := s.cyc.cycles.any fun k => k.awaits i
      let missed := fun (k : Cycle) =>
        if k.awaits i then { k with settlement := k.settlement.set i (.omitted false) } else k
      let drop := x.flags.fx = true ∧ x.config.fx = .dropSaved
      x.mode = .active → frameSyntaxError i x.config.nSub b = false → frameContentError b = false → frameFlags b = x.flags →
      x.flags.shutter = false → x.copy = some (rdS16s b 6 (2 * x.config.nSub)) → x.staleRun + 1 = x.config.nStale →
      x.config.nStale ≤ 255 → x.config.policy = .omit → s.quiet = true → s.loop.state ≠ .closed → s.loop.state ≠ .held →
      s.cyc.cycles.length ≤ 1 →
      (∀ k ∈ s.cyc.cycles, k.awaits i = true → k.calMark = false ∧ ∃ j, j ≠ i ∧ k.awaits j = true) →
      ∃ t, exec (.sensorFrameArrival i b) s = .next t
        ∧ t.sensor i = { x with
            mode := .lost, acquire := 0, staleRun := x.config.nStale, queue := []
            counters := { x.counters with
              taken := counterInc x.counters.taken
              staleDeclarations := counterInc x.counters.staleDeclarations
              misses := if awaited then counterInc x.counters.misses else x.counters.misses
              lostFrames := counterAdd x.counters.lostFrames x.queue.length } }
        ∧ (∀ j, j ≠ i → t.sensor j = s.sensor j)
        ∧ t.cyc = { s.cyc with cycles := s.cyc.cycles.map missed }
        ∧ t.link = (s.raise .sensorState).link
        ∧ t.loop = { s.loop with inband := allSensors.any fun j => decide (j ≠ i) && decide ((s.sensor j).mode = .active)
            && ((s.sensor j).flags.holdreq || ((s.sensor j).flags.fx && decide ((s.sensor j).config.fx = .hold))) }
        ∧ (drop → t.recon = { s.recon with saved := s.recon.saved.set i { s.savedOf i with valid := false } })
        ∧ (¬ drop → t.recon = s.recon)
        ∧ t.mem = s.mem ∧ t.law = s.law ∧ t.drive = s.drive ∧ t.cal = s.cal ∧ t.mon = s.mon)
  ∧ (∀ (s : State) (i : Fin 6) (f g h : Frame),
      let k := { f with stamp := s.intake.arrivals }
      let x := s.sensor i
      (x.queue = [] → (s.joinQueue i f).sensor i = { x with queue := [k] })
      ∧ (x.queue = [g] → (s.joinQueue i f).sensor i = { x with queue := [g, k] })
      ∧ (x.queue = [g, h] → (s.joinQueue i f).sensor i = { x with
          queue := [h, k], counters := { x.counters with lostFrames := counterInc x.counters.lostFrames } }))

/-- The correction of a frame's slopes (Table 1.4, R9, R10): each slope by the first case that applies, every corrected slope
within −32767..32767, the two counters, and the mean square over the slopes that were not zeroed. -/
def Obligations.SlopeCorrection : Prop :=
  ∀ (s : State) (i : Fin 6) (p : Fin 2) (raw : List Int),
    let x := s.sensor i
    let y := (s.correct i p raw).sensor i
    let excluded := fun j => j / 2 ∈ x.exclusion
    let e := fun j => if excluded j then 0 else if vget raw j = -32768 then 0
      else min 32767 (max (-32767) (vget raw j - vget (x.page p) j))
    let used := (List.range raw.length).filter fun j => decide (¬ excluded j) && decide (vget raw j ≠ -32768)
    x.corrected p raw = (List.range raw.length).map e
    ∧ (∀ j, -32767 ≤ vget (x.corrected p raw) j ∧ vget (x.corrected p raw) j ≤ 32767)
    ∧ y.meanSquare = (used.map fun j => (e j).natAbs * (e j).natAbs).sum / used.length
    ∧ (used = [] → y.meanSquare = 0)
    ∧ y.counters.noMeasurement = counterAdd x.counters.noMeasurement
        ((List.range raw.length).filter fun j => decide (¬ excluded j) && decide (vget raw j = -32768)).length
    ∧ y.counters.saturatedCorrection = counterAdd x.counters.saturatedCorrection
        (used.filter fun j => decide (vget raw j - vget (x.page p) j < -32767)
          || decide (32767 < vget raw j - vget (x.page p) j)).length
    ∧ (∀ j : Fin 6, j ≠ i → (s.correct i p raw).sensor j = s.sensor j)

/-- SNS.CONFIG: the refusals of R23 in their order, the ranges of Table 1.8, and what a new n_sub clears. -/
def Obligations.SensorConfiguration : Prop :=
  ∀ (s : State) (i : Fin 6) (n : Nat) (policy : Policy) (k a r h : Nat) (fx : FxFunction),
    n ≤ 1024 → k < 4294967296 → a < 4294967296 → r < 4294967296 → h < 4294967296 →
    s.hears .snsConfig (u16s [i.val, n, policyCode policy] ++ u32s [k, a, r, h] ++ u16s [fxCode fx]) = true →
    let x := s.sensor i
    let new := n ≠ x.config.nSub
    let listed := ∃ m : Fin 4, (s.setRec m).state ≠ .empty ∧ ∃ e ∈ (s.setRec m).participation, e.1 = i
    let standby := if x.activePage = 0 then (1 : Fin 2) else 0
    let bound := x.commitPending = true ∨ ∃ c ∈ s.cyc.cycles, c.binding[i] = standby
    let k' := min 255 (max 1 k)
    let a' := min 64 (max 1 a)
    let r' := if r = 0 then 0 else min 255 (max 4 r)
    let h' := min 255 (max 1 h)
    let stored : SensorConfig := { nSub := n, policy := policy, kMiss := k', aGood := a', nStale := r', hMax := h', fx := fx }
    (x.mode ≠ .disabled → exec .snsConfig s = .next (s.refuse .wrongState))
    ∧ (x.mode = .disabled → new → listed → exec .snsConfig s = .next (s.refuse .inUse))
    ∧ (x.mode = .disabled → new → ¬ listed → bound → exec .snsConfig s = .next (s.refuse .busy))
    ∧ (x.mode = .disabled → (new → ¬ listed ∧ ¬ bound) → ∃ st data,
        exec .snsConfig s = .next ((s.updSensor i fun y =>
            if new then
              { y with config := stored, exclusion := y.exclusion.filter (fun j => decide (j < n)),
                       pages := Vector.replicate 2 (List.replicate 2048 0), copy := none }
            else { y with config := stored }).reply st data)
        ∧ (k' = k ∧ a' = a ∧ r' = r ∧ h' = h → st = .done ∧ data = [])
        ∧ (¬ (k' = k ∧ a' = a ∧ r' = r ∧ h' = h) → st = .clamped
            ∧ data = [.u16 n, .u16 (policyCode policy), .u32 k', .u32 a', .u32 r', .u32 h', .u16 (fxCode fx)]))

/-- SNS.ENABLE (R18): WRONG_STATE unless DISABLED, NOT_READY without a geometry, and otherwise ACQUIRING with every count and
record fresh; SENSOR_STATE is raised (R19).

SNS.DISABLE (R18, R19, R25): DONE with no change for a DISABLED sensor; a sensor that no cycle awaits becomes DISABLED, its
queue is emptied without a count, its saved contribution is invalidated and SENSOR_STATE is raised; and an ACTIVE sensor that an
open cycle awaits is settled there as missed, without substitution and whatever the policy.

That SNS.ENABLE raises no INBAND_CHANGE when it clears a set flag is the model's reading (DEDUCED, log 10). -/
def Obligations.SensorSwitching : Prop :=
  (∀ (s : State) (i : Fin 6), s.hears .snsEnable (u16s [i.val]) = true →
      ((s.sensor i).mode ≠ .disabled → exec .snsEnable s = .next (s.refuse .wrongState))
      ∧ ((s.sensor i).mode = .disabled → (s.sensor i).config.nSub = 0 → exec .snsEnable s = .next (s.refuse .notReady))
      ∧ ((s.sensor i).mode = .disabled → (s.sensor i).config.nSub ≠ 0 →
          exec .snsEnable s = .next (((s.updSensor i fun x => { x with
            mode := .acquiring, acquire := 0, missCount := 0, staleRun := 0, copy := none,
            flags := { shutter := false, holdreq := false, fx := false } }).raise .sensorState).reply .done [])))
  ∧ (∀ (s : State) (i : Fin 6), s.hears .snsDisable (u16s [i.val]) = true →
      let off := ((s.updSensor i fun x => { x with mode := .disabled, queue := [] }).raise .sensorState).updSaved i
        fun x => { x with valid := false }
      ((s.sensor i).mode = .disabled → exec .snsDisable s = .next (s.reply .done []))
      ∧ ((s.sensor i).mode ≠ .disabled → s.quiet = true → off.inbandNow = s.loop.inband →
          (∀ k ∈ s.cyc.cycles, k.awaits i = false) → exec .snsDisable s = .next (off.reply .done []))
      ∧ (∀ k : Cycle, (s.sensor i).mode = .active → s.cyc.cycles = [k] → k.awaits i = true → k.calMark = false →
          (∃ j, j ≠ i ∧ k.awaits j = true) → off.inbandNow = s.loop.inband → s.quiet = true →
          exec .snsDisable s = .next (({ (off.updCounters i fun c => { c with misses := counterInc c.misses }) with
            cyc := { s.cyc with cycles := [{ k with settlement := k.settlement.set i (.omitted false) }] } } : State).reply
              .done [])))

/-- SNS.EXCL.ADD and SNS.EXCL.DEL (Table 1.5, R14): the whole list changes or nothing does, the list stays ascending without
repeats, and only the indices given join or leave it.

REF.WRITE (R11): the refusals in their order, and the values written into the STANDBY page only, −32768 as −32767.

REF.COMMIT (R12): NOT_READY without a geometry; in IDLE and SAFE the pages exchange roles at once, otherwise the commit
becomes or stays pending.

The model's choice: each subaperture index is a 16-bit field (DESIGN CHOICE, log 19), the CLAMPED reply of REF.WRITE carries the
one value -32,767 (DESIGN CHOICE, log 18), and REF.WRITE takes a count of 0 (DEDUCED, log 21). -/
def Obligations.SensorTables : Prop :=
  (∀ (s : State) (i : Fin 6) (given : List Nat),
      let x := s.sensor i
      let old := x.exclusion
      given ≠ [] → given.length ≤ 64 → old.Pairwise (· < ·) →
      (s.hears .snsExclAdd (u16s ([i.val, given.length] ++ given)) = true →
        ((∃ k ∈ given, k < 65536 ∧ x.config.nSub ≤ k) → (∀ k ∈ given, k < 65536) →
          exec .snsExclAdd s = .next (s.refuse .badValue))
        ∧ ((∀ k ∈ given, k < x.config.nSub) → x.config.nSub ≤ 1024 →
          (64 < (old ++ given).dedup.length → exec .snsExclAdd s = .next (s.refuse .full))
          ∧ ((old ++ given).dedup.length ≤ 64 → ∃ l,
              exec .snsExclAdd s = .next ((s.updSensor i fun y => { y with exclusion := l }).reply .done [])
              ∧ l.Pairwise (· < ·) ∧ ∀ k, k ∈ l ↔ k ∈ old ∨ k ∈ given)))
      ∧ (s.hears .snsExclDel (u16s ([i.val, given.length] ++ given)) = true →
        ((∃ k ∈ given, x.config.nSub ≤ k) → (∀ k ∈ given, k < 65536) → exec .snsExclDel s = .next (s.refuse .badValue))
        ∧ ((∀ k ∈ given, k < x.config.nSub) → x.config.nSub ≤ 1024 → ∃ l,
            exec .snsExclDel s = .next ((s.updSensor i fun y => { y with exclusion := l }).reply .done [])
            ∧ l.Pairwise (· < ·) ∧ ∀ k, k ∈ l ↔ k ∈ old ∧ k ∉ given)))
  ∧ (∀ (s : State) (i : Fin 6) (first : Nat) (values : List Int),
      first < 65536 → values.length < 65536 → fitsS16 values = true →
      s.hears .refWrite (u16s [i.val, first, values.length] ++ s16s values) = true →
      let x := s.sensor i
      let standby := if x.activePage = 0 then (1 : Fin 2) else 0
      let outside := x.config.nSub = 0 ∨ 2 * x.config.nSub < first + values.length
      let held := x.commitPending = true ∨ ∃ k ∈ s.cyc.cycles, k.binding[i] = standby
      (outside → exec .refWrite s = .next (s.refuse .badValue))
      ∧ (¬ outside → held → exec .refWrite s = .next (s.refuse .busy))
      ∧ (¬ outside → ¬ held → 2 * x.config.nSub ≤ x.pages[standby].length → ∃ page,
          exec .refWrite s = .next ((s.updSensor i fun y => { y with pages := y.pages.set standby page }).reply
            (if -32768 ∈ values then .clamped else .done) (if -32768 ∈ values then [.s16 (-32767)] else []))
          ∧ page.length = x.pages[standby].length
          ∧ ∀ j, vget page j = if first ≤ j ∧ j < first + values.length then max (-32767) (vget values (j - first))
              else vget x.pages[standby] j))
  ∧ (∀ (s : State) (i : Fin 6), s.hears .refCommit (u16s [i.val]) = true →
      let x := s.sensor i
      (x.config.nSub = 0 → exec .refCommit s = .next (s.refuse .notReady))
      ∧ (x.config.nSub ≠ 0 → (s.loop.state = .idle ∨ s.loop.state = .safe) →
          exec .refCommit s = .next ((s.updSensor i fun y => { y with
            activePage := if y.activePage = 0 then 1 else 0, commitPending := false }).reply .done []))
      ∧ (x.config.nSub ≠ 0 → (s.loop.state = .opened ∨ s.loop.state = .closed ∨ s.loop.state = .held) →
          exec .refCommit s = .next ((s.updSensor i fun y => { y with commitPending := true }).reply .done [])))

/-! ## Cycles (02) -/

/-- CYC.PARAM (R51), whole: BAD_FORM on a wrong length, the value brought into 50..5,000, timers that run keep their value, and a
cycle opened later takes the new one. -/
def Obligations.DeadlineParameter : Prop :=
  ∀ s : State,
    (∀ p, s.hears .cycParam p = true → p.length ≠ 4 → exec .cycParam s = .next (s.refuse .badForm))
    ∧ (∀ n, n < 4294967296 → s.hears .cycParam (u32s [n]) = true →
        let v := min 5000 (max 50 n)
        exec .cycParam s = .next (({ s with cyc := { s.cyc with tDl := v } } : State).reply
          (if v = n then .done else .clamped) (if v = n then [] else [.u32 v])))
    ∧ (∀ (bank : Bank) (fn : Half) (set : SetId), (s.newCycle bank fn set).deadline = some s.cyc.tDl)

/-- DEADLINE_EXPIRY (R43, R45): each sensor the cycle awaits is marked missed, not excused, and the cycle closes with reason
DEADLINE; stated for the only cycle, still with jobs, whose awaited sensors are ACTIVE, below K_miss and not substituted.

Abandonment (Table 2.11, R49): counted once, the queued jobs removed and the outstanding count lowered by their number; an
ACCUMULATING cycle becomes DRAINING with no close reason and its FN the last closed; a DRAINING one keeps its state; that of a
law in progress retires with its law.

That the reason is DEADLINE where the misses leave every sensor settled is the model's reading (DEDUCED, log 8). -/
def Obligations.CyclesEnd : Prop :=
  (∀ (s : State) (k : Cycle), s.cyc.cycles = [k] → k.abandoned = false → k.state = .accumulating → k.deadline ≠ none →
      k.calMark = false → 0 < k.outstanding → s.quiet = true →
      (∀ i, k.awaits i = true → (s.sensor i).mode = .active ∧ (s.sensor i).missCount + 1 < (s.sensor i).config.kMiss
        ∧ (s.sensor i).missCount < 255 ∧ (s.sensor i).config.policy = .omit) →
      ∃ t, exec (.deadlineExpiry k.bank) s = .next t
        ∧ t.cyc = { s.cyc with
            cycles := [{ k with
              state := .draining, deadline := none, closeReason := some .deadline
              settlement := Vector.ofFn fun i => if k.awaits i then .omitted false else k.settlement[i] }]
            lastClosed := some k.fn
            closesDeadline := counterInc s.cyc.closesDeadline }
        ∧ (∀ i, t.sensor i = if k.awaits i then
            { s.sensor i with
              missCount := (s.sensor i).missCount + 1
              counters := { (s.sensor i).counters with misses := counterInc (s.sensor i).counters.misses } }
          else s.sensor i)
        ∧ t.mon = { s.mon with deadlineClose := true }
        ∧ t.mem = s.mem ∧ t.recon = s.recon ∧ t.law = s.law ∧ t.loop = s.loop ∧ t.drive = s.drive ∧ t.cal = s.cal
        ∧ t.link = s.link)
  ∧ (∀ (s : State) (k : Cycle) (entry : Bool), s.cyc.cycles = [k] → (k.calMark = false ∨ entry = true) →
      let t := s.abandon k.bank entry
      let kept := s.recon.queue.filter fun j => decide (j.bank ≠ k.bank)
      let gone := s.recon.queue.length - kept.length
      (k.abandoned = true → t = s)
      ∧ (k.abandoned = false → t.cyc.abandonedCount = counterInc s.cyc.abandonedCount ∧ t.recon.queue = kept)
      ∧ (k.abandoned = false → k.state = .draining →
          t.cyc.cycles = [{ k with abandoned := true, outstanding := k.outstanding - gone }]
          ∧ t.cyc.lastClosed = s.cyc.lastClosed)
      ∧ (k.abandoned = false → k.state = .accumulating →
          t.cyc.cycles = [{ k with abandoned := true, outstanding := k.outstanding - gone, state := .draining, deadline := none }]
          ∧ t.cyc.lastClosed = some k.fn)
      ∧ (k.abandoned = false → k.state = .law → s.law.deferred = none →
          t.cyc.cycles = [] ∧ t.law = { s.law with inProgress := none }))

/-- Miss handling (Table 2.9, R41): with a saved contribution that may still be used the miss is MISSED_SUBSTITUTED, a
substitution job is queued at the tail and counted; in any other case it is MISSED_OMITTED and no job is queued.

Settlement reports (Table 1.7, R16, R25): a non-excused miss of an ACTIVE sensor counts and at K_miss makes it LOST, with
its queue emptied into the lost-frame counter; an excused one is only counted; that of a sensor not ACTIVE counts as a miss
alone. -/
def Obligations.MissHandling : Prop :=
  (∀ (s : State) (k : Cycle) (i : Fin 6) (excused : Bool), s.cyc.cycles = [k] →
      let x := s.savedOf i
      let may := (s.sensor i).config.policy = .saved ∧ x.valid = true ∧ k.set = some x.setTag
        ∧ x.useCount + s.pendingSub i < (s.sensor i).config.hMax
      let t := s.recordMiss k.bank i excused false
      let job : Job := { kind := .substitution, bank := k.bank, sensor := i }
      (may → s.recon.inFlight ≠ none →
        t.cyc.cycles = [{ k with settlement := k.settlement.set i (.substituted excused), outstanding := k.outstanding + 1 }]
        ∧ t.recon = { s.recon with queue := s.recon.queue ++ [job] }
        ∧ (∀ j, t.pendingSub j = if j = i then s.pendingSub i + 1 else s.pendingSub j))
      ∧ (may → s.recon.inFlight = none → s.recon.queue = [] →
        t.recon.queue = [] ∧ (∃ f, t.recon.inFlight = some f ∧ f.job = job ∧ f.orphan = false) ∧ t.pendingSub i = s.pendingSub i + 1)
      ∧ (¬ may → t = { s with cyc := { s.cyc with
          cycles := [{ k with settlement := k.settlement.set i (.omitted excused) }] } }))
  ∧ (∀ (s : State) (i : Fin 6),
      let x := s.sensor i
      let y := fun excused => (s.reportSettledMiss i excused).sensor i
      let counted := { x with counters := { x.counters with misses := counterInc x.counters.misses } }
      (x.mode ≠ .active → y true = counted ∧ y false = counted)
      ∧ (x.mode = .active → y true = { x with counters := { x.counters with excusedMisses := counterInc x.counters.excusedMisses } })
      ∧ (x.mode = .active → min 255 (x.missCount + 1) < x.config.kMiss → x.missCount ≤ 255 →
          y false = { counted with missCount := min 255 (x.missCount + 1) })
      ∧ (x.mode = .active → x.config.kMiss ≤ min 255 (x.missCount + 1) → x.missCount ≤ 255 → s.cyc.cycles = [] →
          y false = { counted with
            mode := .lost, missCount := 0, queue := []
            counters := { counted.counters with lostFrames := counterAdd x.counters.lostFrames x.queue.length } }))

/-- What an opening binds (R36 to R39, Tables 2.7 and 2.8), with holds taken at the boundary: the set by the selection, the
pages after pending commits, the presence and expected sets, a fresh timer, a cleared bank, the markers, the skipped frame
numbers, and the saved contributions of other sets invalidated. That an opening with the last opened FN again adds 0 to the
skipped frame numbers is the model's reading (DEDUCED, log 31). -/
def Obligations.OpeningRecord : Prop :=
  ∀ (s : State) (bank : Bank) (fn : Half), (s.loop.params.timing = .atBoundary ∨ s.loop.state ≠ .closed) →
    let t := s.openCycle bank fn
    let index := (allSensors.map fun i => if (s.sensor i).mode = .active then 2 ^ i.val else 0).sum
    let entry : SetId := (s.cyc.degTable[index]?).getD none
    let set : SetId := match s.cyc.selection with
      | .fixed n => some n
      | .auto => if ∃ n, entry = some n ∧ (s.setRec n).state = .complete then entry else none
    ∃ k, t.cyc.cycles = s.cyc.cycles ++ [k]
      ∧ k.fn = fn ∧ k.bank = bank ∧ k.state = .accumulating ∧ k.set = set ∧ k.abandoned = false ∧ k.outstanding = 0
      ∧ k.closeReason = none ∧ k.deadline = some s.cyc.tDl ∧ k.calMark = s.cal.running
      ∧ (∀ i, k.settlement[i] = .unsettled
        ∧ k.binding[i] = (if (s.sensor i).commitPending then
            (if (s.sensor i).activePage = 0 then 1 else 0) else (s.sensor i).activePage)
        ∧ k.presence[i] = decide ((s.sensor i).mode = .active)
        ∧ (k.expected[i] = true ↔ (s.sensor i).mode = .active ∧ (s.cal.running = true ∨ set = none
            ∨ ∃ n, set = some n ∧ ∃ e ∈ (s.setRec n).participation, e.1 = i))
        ∧ (t.sensor i).activePage = k.binding[i] ∧ (t.sensor i).commitPending = false
        ∧ (t.savedOf i).valid = ((s.savedOf i).valid && decide (set = some (s.savedOf i).setTag)))
      ∧ t.cyc.degraded = decide (s.cyc.selection = .auto ∧ set = none)
      ∧ t.bankVector bank = List.replicate 3072 0
      ∧ t.cyc.lastOpened = some fn ∧ t.cyc.lastSet = some set ∧ t.cyc.opened = counterInc s.cyc.opened
      ∧ t.cyc.skipped = counterAdd s.cyc.skipped (match s.cyc.lastOpened with
          | none => 0
          | some l => (fn - l).toNat - 1)

/-- A frame of an ACTIVE sensor in OPEN, CLOSED and HELD (Tables 2.4 to 2.6, R30 to R34): late, because it is not newer than the
last closed frame number or than a live cycle of another exposure, it is taken and counted; into the cycle of its FN it
contributes, or is a duplicate, or, not expected there, gives its statistics alone; of a new exposure with both banks bound it
waits at the head of its queue; with no cycle it opens one in bank A and contributes to it. Taken into the newer of two open
cycles that await its sensor, it is skip-ahead: the sensor is missed in the older one first. Whatever becomes of a frame that is
taken, its DROP_SAVED request is sent (R22).

OVERRUN (R33, R46): a new exposure that finds two live ACCUMULATING cycles closes the older one, its awaited sensors missed,
and waits; the newer cycle stays as it was. Stated for an older cycle still with jobs and awaited sensors below K_miss.

A SHUTTER frame, and one with FX under EXCLUDE, taken into the cycle that awaits its ACTIVE sensor (R22, R16, R40, R41): an
excused miss, by substitution where that applies; it is counted, the miss count stays, and nothing is corrected. A frame with FX
under DROP_SAVED invalidates the saved contribution when taken, so none is substituted.

That the lone cycle opens in bank A is the model's reading (DEDUCED, log 6), and so is the reason OVERRUN where the misses leave
every sensor settled (log 8). -/
def Obligations.FrameDisposition : Prop :=
  (∀ (s : State) (i : Fin 6) (b : List Byte),
      let x := s.sensor i
      let fn := frameFn b
      let slopes := rdS16s b 6 (2 * x.config.nSub)
      let fx := (b.getD 1 0).getLsbD 2
      let taken := if fx = true ∧ x.config.fx = .dropSaved then
        { s.recon with saved := s.recon.saved.set i { s.savedOf i with valid := false } } else s.recon
      x.mode = .active → x.queue = [] → s.loop.state.closedToCycles = false → s.plainFrame i b = true →
      (fx = false ∨ x.config.fx ≠ .exclude) → s.quiet = true → s.banked →
      ∃ t, exec (.sensorFrameArrival i b) s = .next t
        ∧ ((∃ c, s.cyc.lastClosed = some c ∧ fnNewer fn c = false)
              ∨ (∃ k ∈ s.cyc.cycles, k.abandoned = false ∧ fnNewer fn k.fn = false) →
            (∀ k ∈ s.cyc.cycles, k.isOpen = true → k.fn ≠ fn) →
            t.cyc = s.cyc ∧ t.recon = taken ∧ t.law = s.law
            ∧ (t.sensor i).queue = [] ∧ (t.sensor i).meanSquare = x.meanSquare
            ∧ (t.sensor i).counters = { x.counters with taken := counterInc x.counters.taken, late := counterInc x.counters.late })
        ∧ (∀ k, s.cyc.cycles = [k] → k.isOpen = true → k.fn = fn → k.expected[i] = true → k.settlement[i] ≠ .unsettled →
            t.cyc = s.cyc ∧ t.recon = taken ∧ t.law = s.law
            ∧ (t.sensor i).counters
              = { x.counters with taken := counterInc x.counters.taken, duplicate := counterInc x.counters.duplicate })
        ∧ (∀ k, s.cyc.cycles = [k] → k.isOpen = true → k.fn = fn → k.awaits i = true → (∃ j, j ≠ i ∧ k.awaits j = true) →
            k.calMark = false →
            (s.participates k.set i = false →
              t.cyc.cycles = [{ k with settlement := k.settlement.set i .contributed }] ∧ t.recon = taken)
            ∧ (s.participates k.set i = true → s.recon.inFlight ≠ none →
              t.cyc.cycles = [{ k with settlement := k.settlement.set i .contributed, outstanding := k.outstanding + 1 }]
              ∧ t.recon = { taken with queue := s.recon.queue ++
                  [{ kind := .contribution (x.corrected k.binding[i] slopes), bank := k.bank, sensor := i }] })
            ∧ (t.sensor i).missCount = 0 ∧ (t.sensor i).counters.taken = counterInc x.counters.taken
            ∧ (t.buffer k.bank)[i] = some (x.corrected k.binding[i] slopes))
        ∧ (∀ k, s.cyc.cycles = [k] → k.isOpen = true → k.fn = fn → k.expected[i] = false →
            t.cyc = s.cyc ∧ t.recon = taken ∧ t.law = s.law ∧ t.mon = s.mon ∧ (t.sensor i).queue = []
            ∧ (t.sensor i).meanSquare = meanSquareOf (x.slopeCases k.binding[i] slopes)
            ∧ (t.sensor i).missCount = x.missCount ∧ (t.sensor i).counters.taken = counterInc x.counters.taken)
        ∧ (∀ k k', s.cyc.cycles = [k, k'] → k.isOpen = true → k'.isOpen = true → k.fn ≠ fn → k'.fn = fn →
            k.awaits i = true → k'.awaits i = true → k.calMark = false → k'.calMark = false →
            (∃ j, j ≠ i ∧ k.awaits j = true) → (∃ j, j ≠ i ∧ k'.awaits j = true) → x.config.policy = .omit →
            x.missCount + 1 < x.config.kMiss → x.missCount < 255 →
            t.cyc.cycles = [{ k with settlement := k.settlement.set i (.omitted false) },
                { k' with
                  settlement := k'.settlement.set i .contributed
                  outstanding := k'.outstanding + if s.participates k'.set i then 1 else 0 }]
            ∧ (t.sensor i).missCount = 0 ∧ (t.sensor i).counters.taken = counterInc x.counters.taken
            ∧ (t.sensor i).counters.misses = counterInc x.counters.misses)
        ∧ (∀ k k', s.cyc.cycles = [k, k'] → s.isLate fn = false → (k.isOpen = false ∨ k'.isOpen = false) →
            (∀ c ∈ s.cyc.cycles, c.isOpen = true → c.fn ≠ fn) →
            t.cyc = s.cyc ∧ t.recon = s.recon ∧ t.law = s.law
            ∧ (t.sensor i).queue = [{ fn := fn, flags := x.flags, slopes := slopes, stamp := s.intake.arrivals }]
            ∧ (t.sensor i).counters = x.counters)
        ∧ (s.cyc.cycles = [] → (∀ c, s.cyc.lastClosed = some c → fnNewer fn c = true) →
            (s.expectedFor s.chooseSet.1)[i] = true → (∃ j, j ≠ i ∧ (s.expectedFor s.chooseSet.1)[j] = true) →
            s.cal.running = false →
            ∃ k, t.cyc.cycles = [k] ∧ k.fn = fn ∧ k.bank = .bankA ∧ k.state = .accumulating ∧ k.set = s.chooseSet.1
              ∧ k.expected = s.expectedFor s.chooseSet.1
              ∧ k.settlement = (Vector.replicate 6 Settlement.unsettled).set i .contributed
              ∧ k.outstanding = (if s.participates s.chooseSet.1 i then 1 else 0)
              ∧ t.cyc.opened = counterInc s.cyc.opened ∧ t.cyc.lastOpened = some fn
              ∧ (t.sensor i).queue = [] ∧ (t.sensor i).counters.taken = counterInc x.counters.taken))
  ∧ (∀ (s : State) (i : Fin 6) (b : List Byte) (k k' : Cycle),
      let x := s.sensor i
      x.mode = .active → x.queue = [] → s.loop.state.closedToCycles = false → s.plainFrame i b = true → s.quiet = true →
      s.cyc.cycles = [k, k'] → k.bank ≠ k'.bank → k.isOpen = true → k'.isOpen = true → s.isLate (frameFn b) = false →
      k.calMark = false → 0 < k.outstanding →
      (∀ j, k.awaits j = true → (s.sensor j).mode = .active ∧ (s.sensor j).missCount + 1 < (s.sensor j).config.kMiss
        ∧ (s.sensor j).missCount < 255 ∧ (s.sensor j).config.policy = .omit) →
      ∃ t, exec (.sensorFrameArrival i b) s = .next t
        ∧ t.cyc = { s.cyc with
            cycles := [{ k with
              state := .draining, deadline := none, closeReason := some .overrun
              settlement := Vector.ofFn fun j => if k.awaits j then .omitted false else k.settlement[j] }, k']
            lastClosed := some k.fn
            closesOverrun := counterInc s.cyc.closesOverrun }
        ∧ (t.sensor i).queue.map Frame.fn = [frameFn b]
        ∧ (∀ j, j ≠ i → k.awaits j = true → (t.sensor j).missCount = (s.sensor j).missCount + 1))
  ∧ (∀ (s : State) (i : Fin 6) (b : List Byte) (k : Cycle),
      let x := s.sensor i
      let fl := frameFlags b
      let drop := fl.fx = true ∧ x.config.fx = .dropSaved
      let v := s.savedOf i
      let may := x.config.policy = .saved ∧ ¬ drop ∧ v.valid = true ∧ k.set = some v.setTag
        ∧ v.useCount + s.pendingSub i < x.config.hMax
      x.mode = .active → x.queue = [] →
      (s.loop.state = .opened ∨ ((s.loop.state = .closed ∨ s.loop.state = .held) ∧ fl = x.flags)) →
      frameSyntaxError i x.config.nSub b = false →
      frameContentError b = false → x.config.nStale = 0 → (fl.shutter = true ∨ (fl.fx = true ∧ x.config.fx = .exclude)) →
      s.quiet = true → s.cyc.cycles = [k] → k.isOpen = true → k.fn = frameFn b → k.awaits i = true → k.calMark = false →
      (∃ j, j ≠ i ∧ k.awaits j = true) →
      ∃ t, exec (.sensorFrameArrival i b) s = .next t
        ∧ (t.sensor i).mode = .active ∧ (t.sensor i).flags = fl ∧ (t.sensor i).missCount = x.missCount
        ∧ (t.sensor i).meanSquare = x.meanSquare ∧ (t.sensor i).queue = []
        ∧ (t.sensor i).counters = { x.counters with
            taken := counterInc x.counters.taken, excusedMisses := counterInc x.counters.excusedMisses }
        ∧ (¬ may → t.cyc = { s.cyc with cycles := [{ k with settlement := k.settlement.set i (.omitted true) }] }
            ∧ t.recon = (if drop then { s.recon with saved := s.recon.saved.set i { v with valid := false } } else s.recon))
        ∧ (may → s.recon.inFlight ≠ none →
            t.cyc.cycles
              = [{ k with settlement := k.settlement.set i (.substituted true), outstanding := k.outstanding + 1 }]
            ∧ t.recon = { s.recon with
                queue := s.recon.queue ++ [{ kind := .substitution, bank := k.bank, sensor := i }] })
        ∧ t.mon = s.mon ∧ t.law = s.law)

/-! ## Reconstructor sets (03) -/

/-- SET.BEGIN (R56, R57): the refusals in their order, and a set that begins to load with the named sensors in ascending order,
no row marked and a fresh error record; a shift above 30 is taken as 30.

SET.ERASE (R60): an EMPTY set is left, one in use by a row of Table 3.4 is IN_USE, any other becomes EMPTY with its record
cleared and its coefficients left in the memory (R55, R56). -/
def Obligations.SetBeginAndErase : Prop :=
  (∀ (s : State) (n : Fin 4) (l : List (Fin 6 × Nat)) (shift : Nat), l ≠ [] → l.length ≤ 6 → (∀ e ∈ l, e.2 < 65536) →
      shift < 4294967296 →
      s.hears .setBegin (u16s (n.val :: l.length :: l.flatMap fun e => [e.1.val, e.2]) ++ u32s [shift]) = true →
      let bad := ¬ (l.map Prod.fst).Nodup ∨ ∃ e ∈ l, e.2 ≠ (s.sensor e.1).config.nSub ∨ e.2 = 0
      let index := (allSensors.map fun i => if (s.sensor i).mode = .active then 2 ^ i.val else 0).sum
      let used := (s.setRec n).state = .complete ∧ ((∃ k ∈ s.cyc.cycles, k.set = some n) ∨ s.cyc.selection = .fixed n
        ∨ ((s.loop.state = .closed ∨ s.loop.state = .held) ∧ s.cyc.selection = .auto
          ∧ (s.cyc.degTable[index]?).getD none = some n))
      (bad → exec .setBegin s = .next (s.refuse .badValue))
      ∧ (¬ bad → s.mem.nAct = 0 → exec .setBegin s = .next (s.refuse .notReady))
      ∧ (¬ bad → s.mem.nAct ≠ 0 → used → exec .setBegin s = .next (s.refuse .inUse))
      ∧ (¬ bad → s.mem.nAct ≠ 0 → ¬ used → ∃ part : List (Fin 6 × Nat),
          part.Pairwise (fun a b => a.1 < b.1) ∧ part.Perm l
          ∧ exec .setBegin s = .next ((s.updSet n fun _ =>
              { state := .loading, participation := part, shift := min 30 shift, marks := Vector.replicate 6 [],
                rowsLoaded := 0, rowsRequired := s.mem.nAct * l.length, errCount := 0, errLoc := none }).reply
              (if shift ≤ 30 then .done else .clamped) (if shift ≤ 30 then [] else [.u32 30]))))
  ∧ (∀ (s : State) (n : Fin 4), s.hears .setErase (u16s [n.val]) = true →
      let index := (allSensors.map fun i => if (s.sensor i).mode = .active then 2 ^ i.val else 0).sum
      let used := (s.setRec n).state = .complete ∧ ((∃ k ∈ s.cyc.cycles, k.set = some n) ∨ s.cyc.selection = .fixed n
        ∨ ((s.loop.state = .closed ∨ s.loop.state = .held) ∧ s.cyc.selection = .auto
          ∧ (s.cyc.degTable[index]?).getD none = some n))
      ((s.setRec n).state = .empty → exec .setErase s = .next (s.reply .done []))
      ∧ (used → exec .setErase s = .next (s.refuse .inUse))
      ∧ ((s.setRec n).state ≠ .empty → ¬ used →
          exec .setErase s = .next ((s.updSet n fun _ =>
            { state := .empty, participation := [], shift := 0, marks := Vector.replicate 6 [], rowsLoaded := 0,
              rowsRequired := 0, errCount := 0, errLoc := none }).reply .done [])))

/-- SET.LOAD (R58): the refusals in their order; accepted, it has a transfer for each row asked for, row by row, and no row is
written yet. -/
def Obligations.SetLoadTaken : Prop :=
  ∀ (s : State) (n : Fin 4) (i : Fin 6) (first count : Nat) (coeffs : List Int), first < 65536 → count < 65536 →
    fitsS16 coeffs = true →
    s.hears .setLoad (u16s [n.val, i.val, first, count] ++ s16s coeffs) = true →
    let r := s.setRec n
    (r.state ≠ .loading → exec .setLoad s = .next (s.refuse .wrongState))
    ∧ (r.state = .loading → (∀ e ∈ r.participation, e.1 ≠ i) → exec .setLoad s = .next (s.refuse .badValue))
    ∧ (∀ nSub, r.state = .loading → r.nSubOf i = some nSub →
        (count = 0 ∨ coeffs.length ≠ count * (2 * nSub) → exec .setLoad s = .next (s.refuse .badForm))
        ∧ (count ≠ 0 → coeffs.length = count * (2 * nSub) → s.mem.nAct < first + count →
            exec .setLoad s = .next (s.refuse .badValue))
        ∧ (count ≠ 0 → coeffs.length = count * (2 * nSub) → first + count ≤ s.mem.nAct → ∃ rows t,
            exec .setLoad s = .next t ∧ rows.length = count ∧ rows.flatten = coeffs ∧ (∀ v ∈ rows, v.length = 2 * nSub)
            ∧ t.link = (s.setProgress (.loading n i first rows)).link
            ∧ t.mem.dram = s.mem.dram ∧ t.mem.sets = s.mem.sets
            ∧ t.intake = s.intake ∧ t.cyc = s.cyc ∧ t.recon = s.recon ∧ t.law = s.law ∧ t.loop = s.loop
            ∧ t.drive = s.drive ∧ t.cal = s.cal ∧ t.mon = s.mon
            ∧ (s.mem.arbiter = { current := none, waiting := [] } → s.recon.inFlight = none → s.recon.queue = [] →
                t.mem.arbiter = { current := some .loadRow, waiting := [] })))

/-- SET_LOAD_ROW_WRITE (R54, R55, R59): the row's slot holds the coefficients, padded to whole words with 0, and every other
place reads as before; the words written are clean; the mark is set and counted once; after the last row the set is COMPLETE
exactly when every row is loaded, and the reply is DONE with its state and rows loaded. -/
def Obligations.SetRowWrite : Prop :=
  ∀ (s : State) (n : Fin 4) (i : Fin 6) (row : Nat) (values : List Int) (rest : List (List Int)) (c : Execution),
    s.memoryWf → s.mem.arbiter.current = some .loadRow → s.link.executing = some c →
    c.progress = .loading n i row (values :: rest) → fitsS16 values = true → values.length ≤ 2048 →
    s.recon.inFlight = none → s.recon.queue = [] → s.mem.arbiter.waiting = [] →
    let slot := coefficientSlot n i row
    let words := (values.length + 3) / 4
    let r := s.setRec n
    let fresh := row ∉ r.marks[i]
    let loaded := if fresh then r.rowsLoaded + 1 else r.rowsLoaded
    let full := loaded = r.rowsRequired
    ∃ t, exec .setLoadRowWrite s = .next t
      ∧ (∀ j, j < values.length → (t.mem.dram.read (slot + j)).toInt = vget values j)
      ∧ (∀ j, values.length ≤ j → j < 4 * words → t.mem.dram.read (slot + j) = 0)
      ∧ (∀ place, place < slot ∨ slot + 4 * words ≤ place → t.mem.dram.read place = s.mem.dram.read place)
      ∧ (∀ w, slot / 4 ≤ w → w < slot / 4 + words → t.mem.dram.wordError w = none)
      ∧ (∀ w, w < slot / 4 ∨ slot / 4 + words ≤ w → t.mem.dram.wordError w = s.mem.dram.wordError w)
      ∧ row ∈ (t.setRec n).marks[i] ∧ (∀ x, x ≠ row → (x ∈ (t.setRec n).marks[i] ↔ x ∈ r.marks[i]))
      ∧ (t.setRec n).rowsLoaded = loaded ∧ (t.setRec n).rowsRequired = r.rowsRequired
      ∧ (t.setRec n).participation = r.participation ∧ (∀ m, m ≠ n → t.setRec m = s.setRec m)
      ∧ (rest = [] → (t.setRec n).state = (if full then .complete else r.state)
          ∧ t.link = ((if full then s.raise .setReady else s).reply .done
              [.u16 (setStateCode (if full then .complete else r.state)), .u32 loaded]).link
          ∧ t.mem.arbiter = { current := none, waiting := [] })
      ∧ (rest ≠ [] → (t.setRec n).state = r.state ∧ t.link = (s.setProgress (.loading n i (row + 1) rest)).link
          ∧ t.mem.arbiter = { current := some .loadRow, waiting := [] })
      ∧ t.intake = s.intake ∧ t.cyc = s.cyc ∧ t.recon = s.recon ∧ t.law = s.law ∧ t.loop = s.loop ∧ t.drive = s.drive
      ∧ t.cal = s.cal ∧ t.mon = s.mon

/-- SET.SELECT and DEG.WRITE (R62, R63): a FIXED set must be COMPLETE, and either every entry of the degradation table in the
range is written or none is. -/
def Obligations.SelectionAndTable : Prop :=
  ∀ s : State,
    (∀ mode n : Nat, mode < 65536 → n < 65536 → s.hears .setSelect (u16s [mode, n]) = true →
      (mode = 0 → exec .setSelect s = .next (({ s with cyc := { s.cyc with selection := .auto } } : State).reply .done []))
      ∧ (2 ≤ mode ∨ (mode = 1 ∧ 4 ≤ n) → exec .setSelect s = .next (s.refuse .badValue))
      ∧ (∀ m : Fin 4, mode = 1 → n = m.val → (s.setRec m).state ≠ .complete → exec .setSelect s = .next (s.refuse .notReady))
      ∧ (∀ m : Fin 4, mode = 1 → n = m.val → (s.setRec m).state = .complete →
          exec .setSelect s = .next (({ s with cyc := { s.cyc with selection := .fixed m } } : State).reply .done [])))
    ∧ (∀ (first : Nat) (values : List Nat), first < 65536 → values ≠ [] → values.length ≤ 64 → (∀ v ∈ values, v < 65536) →
      s.hears .degWrite (u16s (first :: values.length :: values)) = true →
      (64 < first + values.length ∨ (∃ v ∈ values, 4 < v) → exec .degWrite s = .next (s.refuse .badValue))
      ∧ (first + values.length ≤ 64 → (∀ v ∈ values, v ≤ 4) → ∃ table : Vector SetId 64,
          exec .degWrite s = .next (({ s with cyc := { s.cyc with degTable := table } } : State).reply .done [])
          ∧ ∀ j : Fin 64, table[j] = if first ≤ j.val ∧ j.val < first + values.length then
              (if h : (values.getD (j.val - first) 4) < 4 then some ⟨values.getD (j.val - first) 4, h⟩ else none)
            else s.cyc.degTable[j]))

/-- DEV.GEOM (R65, R66): the refusals in their order; accepted, the actuator records are at their power-on values, the tables
that depend on the geometry are empty, the integrators are at rest, and each link that serves actuators has been made IDLE and
sent the rest vector, every other link being UNUSED. -/
def Obligations.GeometryClearsWhatDependsOnIt : Prop :=
  ∀ (s : State) (n : Nat), n < 65536 → s.hears .devGeom (u16s [n]) = true →
    let kept := ∃ m : Fin 4, (s.setRec m).state ≠ .empty
    (3072 < n → exec .devGeom s = .next (s.refuse .badValue))
    ∧ (n ≤ 3072 → s.loop.state ≠ .idle → exec .devGeom s = .next (s.refuse .wrongState))
    ∧ (n ≤ 3072 → s.loop.state = .idle → kept → exec .devGeom s = .next (s.refuse .inUse))
    ∧ (n ≤ 3072 → s.loop.state = .idle → ¬ kept → s.cyc.cycles ≠ [] → exec .devGeom s = .next (s.refuse .busy))
    ∧ (n ≤ 3072 → s.loop.state = .idle → ¬ kept → s.cyc.cycles = [] → s.cal.running = false → ∃ t : State,
        exec .devGeom s = .next (t.reply .done [])
        ∧ t.mem = { s.mem with nAct := n }
        ∧ (∀ i, t.act i = { lo := -32768, hi := 32767, flat := 0, gain := 16384, mode := .normal })
        ∧ (∀ i, i < n → vget t.law.z i = 0) ∧ t.law.neighbours = [] ∧ t.law.idlePokes = [] ∧ t.law.calPoke = none
        ∧ t.law.committed = List.replicate n 32768
        ∧ t.cal = { s.cal with pokeList := [], records := [], tallies := [], entry := 0, phase := none }
        ∧ (∀ d : Fin 4, t.driveLink d = if 768 * d.val < n then
            { s.driveLink d with
              state := .busy, waiting := false, upToDate := false, failCount := 0, timer := some s.drive.tAck
              seq := (s.driveLink d).seq + 1, frames := counterInc (s.driveLink d).frames
              inTransit := driveFrame d ((s.driveLink d).seq + 1) (List.replicate (min 768 (n - 768 * d.val)) 32768) }
          else { s.driveLink d with state := .unused, waiting := false, upToDate := false, failCount := 0, timer := none })
        ∧ t.intake = s.intake ∧ t.cyc = s.cyc ∧ t.recon = s.recon ∧ t.loop = s.loop ∧ t.mon = s.mon ∧ t.link = s.link)

/-! ## Reconstruction (04) -/

/-- JOB_ROW_READ (R70, R74, R75, R81): the row's partial sum, exact, goes into the buffer at the row's actuator, single-bit errors
are counted and corrected, and bank and saved contribution are not touched; the next row follows at once.

An uncorrectable error ends the job as failed (R71, R79): counted, located in the set's error record and noticed; no bank and
no saved contribution changes. Its cycle is abandoned, and here, with nothing else outstanding, retires; an orphan's error
leaves the cycle controller alone, and that it updates the set's record whatever the set's state is the model's reading
(DEDUCED, log 28). -/
def Obligations.JobRows : Prop :=
  (∀ (s : State) (us : List Upset) (f : Flight) (n : Fin 4) (slopes : List Int),
      s.mem.arbiter.current = some .jobRow → s.recon.inFlight = some f → f.job.kind = .contribution slopes → f.set = some n →
      slopes.length = 2 * f.nSub →
      let slot := coefficientSlot n f.job.sensor f.nextRow
      let dram := s.mem.dram.upset slot us
      let words := (List.range ((2 * f.nSub + 3) / 4)).map fun w => dram.wordError (slot / 4 + w)
      some WordError.double ∉ words →
      ∃ t, exec (.jobRowRead us) s = .next t
        ∧ t.recon.inFlight = some { f with nextRow := f.nextRow + 1 }
        ∧ vget t.recon.buffer f.nextRow
          = ((List.range (2 * f.nSub)).map fun j => (s.mem.dram.read (slot + j)).toInt * vget slopes j).sum
        ∧ (∀ i, i ≠ f.nextRow → vget t.recon.buffer i = vget s.recon.buffer i)
        ∧ t.recon.bankA = s.recon.bankA ∧ t.recon.bankB = s.recon.bankB ∧ t.recon.saved = s.recon.saved
        ∧ t.recon.queue = s.recon.queue
        ∧ t.mem.dram.data = s.mem.dram.data
        ∧ t.mem.correctedErrors = counterAdd s.mem.correctedErrors (words.filter fun e => decide (e = some .single)).length
        ∧ t.mem.uncorrectableErrors = s.mem.uncorrectableErrors ∧ t.mem.sets = s.mem.sets
        ∧ t.mem.arbiter.current = (if f.nextRow + 1 < f.nAct then some .jobRow else none)
        ∧ t.intake = s.intake ∧ t.cyc = s.cyc ∧ t.law = s.law ∧ t.loop = s.loop ∧ t.drive = s.drive ∧ t.cal = s.cal
        ∧ t.mon = s.mon ∧ t.link = s.link)
  ∧ (∀ (s : State) (us : List Upset) (f : Flight) (n : Fin 4) (slopes : List Int),
      s.mem.arbiter.current = some .jobRow → s.recon.inFlight = some f → f.job.kind = .contribution slopes → f.set = some n →
      let slot := coefficientSlot n f.job.sensor f.nextRow
      let dram := s.mem.dram.upset slot us
      (∃ w, w < (2 * f.nSub + 3) / 4 ∧ dram.wordError (slot / 4 + w) = some .double) →
      s.recon.queue = [] → s.mem.arbiter.waiting = [] → s.cyc.reoffer = false → (∀ i, (s.sensor i).queue = []) →
      s.law.inProgress = none → (f.orphan = true → s.cyc.cycles = []) →
      (f.orphan = false → ∃ k, s.cyc.cycles = [k] ∧ k.bank = f.job.bank ∧ k.abandoned = false ∧ k.state = .accumulating
        ∧ k.outstanding = 1 ∧ k.calMark = false) →
      ∃ t, exec (.jobRowRead us) s = .next t
        ∧ t.mem.uncorrectableErrors = counterInc s.mem.uncorrectableErrors
        ∧ t.setRec n = { s.setRec n with
            errCount := counterInc (s.setRec n).errCount, errLoc := some (f.job.sensor, f.nextRow) }
        ∧ (∀ m, m ≠ n → t.setRec m = s.setRec m)
        ∧ t.isPending .memoryError = true ∧ t.recon = { s.recon with inFlight := none }
        ∧ t.mem.arbiter = { current := none, waiting := [] } ∧ t.mem.dram = dram
        ∧ t.intake = s.intake ∧ t.law = s.law ∧ t.loop = s.loop ∧ t.drive = s.drive ∧ t.cal = s.cal ∧ t.mon = s.mon
        ∧ (f.orphan = true → t.cyc = s.cyc)
        ∧ (∀ k, f.orphan = false → s.cyc.cycles = [k] →
            t.cyc = { s.cyc with cycles := [], lastClosed := some k.fn, abandonedCount := counterInc s.cyc.abandonedCount }))

/-- JOB_COMPLETION of a contribution job (R78, R79, R83, R88): in a live cycle the buffer is added to the bank and becomes the
sensor's saved contribution; in an abandoned one, and for an orphan, nothing is added or saved. The outstanding count falls by
one, but for an orphan, and the next job begins in the same step (DEDUCED, log 29).

JOB_COMPLETION of a substitution job (R78, R84): the saved contribution that stands is added and its use count rises when it
is valid and of the cycle's set, and otherwise nothing is added; the pending substitutions and the outstanding count fall by
one either way, and for an abandoned cycle nothing is added.

Both stated for a cycle that is ACCUMULATING, or DRAINING with more jobs outstanding; an abandoned one is DRAINING, as
CyclesStayInOrder states. -/
def Obligations.JobCompletes : Prop :=
  (∀ (s : State) (f : Flight) (slopes : List Int) (k : Cycle) (n : Fin 4),
      s.recon.inFlight = some f → f.job.kind = .contribution slopes → f.nAct ≤ f.nextRow → s.mem.arbiter.current = none →
      s.mem.arbiter.waiting = [] → s.cyc.reoffer = false → s.cyc.cycles = [k] → k.bank = f.job.bank → k.set = some n →
      s.drained → (k.state = .accumulating ∨ 1 < k.outstanding) →
      let counted := { s.cyc with cycles := [{ k with outstanding := k.outstanding - 1 }] }
      ∃ t, exec .jobCompletion s = .next t
        ∧ t.recon.queue = s.recon.queue.tail ∧ t.recon.inFlight.map (fun g => g.job) = s.recon.queue.head?
        ∧ (f.orphan = false → k.abandoned = false →
            (∀ i, vget (t.bankVector k.bank) i
              = vget (s.bankVector k.bank) i + if i < f.nAct then vget s.recon.buffer i else 0)
            ∧ (t.savedOf f.job.sensor).valid = true ∧ (t.savedOf f.job.sensor).setTag = n
            ∧ (t.savedOf f.job.sensor).fnTag = k.fn ∧ (t.savedOf f.job.sensor).useCount = 0
            ∧ (∀ i, i < f.nAct → vget (t.savedOf f.job.sensor).vector i = vget s.recon.buffer i)
            ∧ (∀ j, j ≠ f.job.sensor → t.savedOf j = s.savedOf j) ∧ t.cyc = counted)
        ∧ (f.orphan = false → k.abandoned = true →
            t.recon.bankA = s.recon.bankA ∧ t.recon.bankB = s.recon.bankB ∧ t.recon.saved = s.recon.saved ∧ t.cyc = counted)
        ∧ (f.orphan = true →
            t.recon.bankA = s.recon.bankA ∧ t.recon.bankB = s.recon.bankB ∧ t.recon.saved = s.recon.saved ∧ t.cyc = s.cyc)
        ∧ t.intake = s.intake ∧ t.law = s.law ∧ t.loop = s.loop ∧ t.drive = s.drive ∧ t.cal = s.cal ∧ t.mon = s.mon
        ∧ t.link = s.link ∧ t.mem.dram = s.mem.dram)
  ∧ (∀ (s : State) (f : Flight) (k : Cycle),
      s.recon.inFlight = some f → f.job.kind = .substitution → f.orphan = false → s.mem.arbiter.current = none →
      s.mem.arbiter.waiting = [] → s.cyc.reoffer = false → s.cyc.cycles = [k] → k.bank = f.job.bank → s.drained →
      (k.state = .accumulating ∨ 1 < k.outstanding) → s.recon.queue = [] →
      let x := s.savedOf f.job.sensor
      let may := k.abandoned = false ∧ x.valid = true ∧ k.set = some x.setTag
      ∃ t, exec .jobCompletion s = .next t
        ∧ t.recon.inFlight = none
        ∧ (may → (∀ i, vget (t.bankVector k.bank) i = vget (s.bankVector k.bank) i + if i < f.nAct then vget x.vector i else 0)
            ∧ t.savedOf f.job.sensor = { x with useCount := x.useCount + 1 })
        ∧ (¬ may → t.recon.bankA = s.recon.bankA ∧ t.recon.bankB = s.recon.bankB ∧ t.recon.saved = s.recon.saved)
        ∧ t.pendingSub f.job.sensor = s.pendingSub f.job.sensor - 1
        ∧ (∀ j, j ≠ f.job.sensor → t.pendingSub j = s.pendingSub j)
        ∧ t.cyc.cycles = [{ k with outstanding := k.outstanding - 1 }]
        ∧ t.intake = s.intake ∧ t.mem = s.mem ∧ t.law = s.law ∧ t.loop = s.loop ∧ t.drive = s.drive ∧ t.cal = s.cal
        ∧ t.mon = s.mon ∧ t.link = s.link)

/-! ## Control law and mirror limits (05) -/

/-- The integrator step of one actuator (R94, R95): a NORMAL one takes (L·z + G·r) / 2^15 rounded half up and brought into its
limits, its flag set exactly when the limits changed it; a FROZEN one keeps z, a DEAD one is 0.

One pair of the neighbour pass (Table 5.5, R97): a pair within the limit stays; the higher of two NORMAL members moves down by
half the excess rounded up and the lower up by half rounded down; a single NORMAL member, the first or the second of the pair,
moves toward the other by the excess; a pair without one stays.

A member that moved is brought into its limits, and its flag is set exactly when that changes its value (R98); where it does so
for none the pair ends at the limit. A move is one adjustment, and no other actuator moves. -/
def Obligations.ActuatorSteps : Prop :=
  (∀ (a : ActRecord) (gain leak : Nat) (z r : Int), a.lo ≤ a.hi →
      let t := leak * z + gain * r
      let y := integratorStep a gain leak z r
      (a.mode = .normal → ∃ x : Int, 65536 * x ≤ 2 * t + 32768 ∧ 2 * t + 32768 < 65536 * (x + 1)
        ∧ y.1 = max (256 * a.lo) (min (256 * a.hi) x) ∧ (y.2 = true ↔ x < 256 * a.lo ∨ 256 * a.hi < x)
        ∧ 256 * a.lo ≤ y.1 ∧ y.1 ≤ 256 * a.hi)
      ∧ (a.mode = .frozen → y = (z, false)) ∧ (a.mode = .dead → y = (0, false)))
  ∧ (∀ (act : Nat → ActRecord) (limit : Int) (p : PassState) (a b : Nat), a ≠ b →
      let u := vget p.scratch a
      let v := vget p.scratch b
      let q := passPair act limit p (a, b)
      let x := (u - v).natAbs - limit
      let lim := fun (i : Nat) (w : Int) => max (256 * (act i).lo) (min (256 * (act i).hi) w)
      let moved := fun (i : Nat) (w : Int) => vget q.scratch i = lim i w
        ∧ (q.flags.getD i false = true ↔ p.flags.getD i false = true ∨ lim i w ≠ w)
      let stays := fun (i : Nat) => vget q.scratch i = vget p.scratch i ∧ q.flags.getD i false = p.flags.getD i false
      let ends := ((vget q.scratch a - vget q.scratch b).natAbs : Int) = limit ∧ q.flags = p.flags
      ((u - v).natAbs ≤ limit → q = p)
      ∧ ((act a).mode ≠ .normal → (act b).mode ≠ .normal → q = p)
      ∧ (limit < (u - v).natAbs → 0 ≤ limit → (∀ i, (act i).lo ≤ (act i).hi) → a < p.flags.length → b < p.flags.length →
          ((act a).mode = .normal → (act b).mode = .normal →
            let w := if v < u then u - (x + 1) / 2 else u + x / 2
            let w' := if v < u then v + x / 2 else v - (x + 1) / 2
            moved a w ∧ moved b w' ∧ q.adjustments = p.adjustments + 1 ∧ (lim a w = w → lim b w' = w' → ends))
          ∧ ((act a).mode = .normal → (act b).mode ≠ .normal →
            let w := if v < u then u - x else u + x
            moved a w ∧ stays b ∧ q.adjustments = p.adjustments + 1 ∧ (lim a w = w → ends))
          ∧ ((act a).mode ≠ .normal → (act b).mode = .normal →
            let w := if v < u then v + x else v - x
            stays a ∧ moved b w ∧ q.adjustments = p.adjustments + 1 ∧ (lim b w = w → ends)))
      ∧ (∀ i, i ≠ a → i ≠ b → stays i))

/-- The whole neighbour pass (R97, R98): with D_max = 0 nothing is done; otherwise every NORMAL actuator that stood within its
limits ends within them, FROZEN and DEAD ones do not move, each pair counts at most one adjustment, no flag is cleared, and the
remaining violations are the pairs that still differ by more than the limit. -/
def Obligations.NeighbourPassKeepsLimits : Prop :=
  ∀ (act : Nat → ActRecord) (dMax : Nat) (pairs : List (Nat × Nat)) (p : PassState),
    (∀ i, (act i).lo ≤ (act i).hi) →
    let q := neighbourPass act dMax pairs p
    (dMax = 0 → q = (p, 0))
    ∧ (∀ i, (act i).mode = .normal → 256 * (act i).lo ≤ vget p.scratch i → vget p.scratch i ≤ 256 * (act i).hi →
        256 * (act i).lo ≤ vget q.1.scratch i ∧ vget q.1.scratch i ≤ 256 * (act i).hi)
    ∧ (∀ i, (act i).mode ≠ .normal → vget q.1.scratch i = vget p.scratch i)
    ∧ p.adjustments ≤ q.1.adjustments ∧ q.1.adjustments ≤ p.adjustments + pairs.length
    ∧ q.1.flags.length = p.flags.length ∧ (∀ i, p.flags.getD i false = true → q.1.flags.getD i false = true)
    ∧ (dMax ≠ 0 → q.2 = (pairs.filter fun e =>
        decide (256 * dMax < (vget q.1.scratch e.1 - vget q.1.scratch e.2).natAbs)).length)

/-- The residual of an accumulated sum (Table 4.5, R87): 0 for set NONE, otherwise the sum over 2^S rounded half up and brought
into ±8,388,607.

The beginning of a law (R90, R91, R102): mode and parameters fixed, the residual of each actuator below N_act by R87, Q the
mean square over the NORMAL ones; z, the committed vector and the figures stay, and no scratch value is formed unless the law is
NORMAL.

In a NORMAL law (R94, R95, R97, R98) the scratch values, the saturation flags, the adjustments and the remaining violations are
those of the neighbour pass over the neighbour list, begun with the integrator step of every actuator below N_act; with D_max = 0
they are the steps' own.

JOB_COMPLETION of the last outstanding job passes the oldest cycle to LAW when none is in progress (R47, R78, R84, R90), and the
law of a live cycle begins over the bank with the job's sum in it; an abandoned one retires at once and its bank is free.

That residuals, Q and scratch are formed at the beginning and held while the last Q keeps its value is the model's reading
(DEDUCED, log 17), and so is the passage inside the step of the last completion (log 29). -/
def Obligations.LawBegins : Prop :=
  ((∀ acc, residualOf none acc = 0)
    ∧ (∀ shift acc, -8388607 ≤ residualOf shift acc ∧ residualOf shift acc ≤ 8388607)
    ∧ (∀ acc, -8388607 ≤ acc → acc ≤ 8388607 → residualOf (some 0) acc = acc)
    ∧ (∀ (k : Nat) (acc : Int), 1 ≤ k →
        let r := residualOf (some k) acc
        let halved := 2 * acc + 2 ^ k
        (-8388607 < r → r < 8388607 → 2 * 2 ^ k * r ≤ halved ∧ halved < 2 * 2 ^ k * (r + 1))
        ∧ (r = 8388607 ↔ 2 * 2 ^ k * 8388607 ≤ halved)
        ∧ (r = -8388607 ↔ halved < 2 * 2 ^ k * (-8388606))))
  ∧ (∀ (s : State) (k : Cycle),
      let t := s.beginLaw k
      let used := (List.range s.mem.nAct).filter fun i => decide ((s.act i).mode = .normal)
      ∃ run, t.law.inProgress = some run ∧ run.fn = k.fn ∧ run.bank = k.bank ∧ run.set = k.set ∧ run.superseded = false
        ∧ run.mode = (match s.loop.state with | .closed => .normal | .held => .held | _ => .opened)
        ∧ run.gain = s.loop.params.gGlob ∧ run.leak = s.loop.params.leak ∧ run.gainSource = s.loop.params.gainSource
        ∧ run.dMax = s.loop.params.dMax
        ∧ run.residual.length = s.mem.nAct
        ∧ (∀ i, i < s.mem.nAct → vget run.residual i
            = residualOf (k.set.map fun n => (s.setRec n).shift) (vget (s.bankVector k.bank) i))
        ∧ run.q = (used.map fun i => (vget run.residual i).natAbs * (vget run.residual i).natAbs).sum / used.length
        ∧ (used = [] → run.q = 0)
        ∧ (let steps := (List.range s.mem.nAct).map fun i => integratorStep (s.act i)
            (if run.gainSource = .global then run.gain else (s.act i).gain) run.leak (vget s.law.z i) (vget run.residual i)
          let pass := neighbourPass s.act run.dMax s.law.neighbours
            { scratch := steps.map Prod.fst, flags := steps.map Prod.snd, adjustments := 0 }
          (run.mode = .normal →
            (∀ i, i < s.mem.nAct → vget t.law.scratch i = vget pass.1.scratch i)
            ∧ run.satFlags = pass.1.flags ∧ run.adjustments = pass.1.adjustments ∧ run.violations = pass.2)
          ∧ (run.mode = .normal → run.dMax = 0 →
            (∀ i, i < s.mem.nAct → some (vget t.law.scratch i) = (steps[i]?).map Prod.fst)
            ∧ run.satFlags = steps.map Prod.snd ∧ run.adjustments = 0 ∧ run.violations = 0))
        ∧ (run.mode ≠ .normal →
            t.law.scratch = s.law.scratch ∧ run.satFlags = [] ∧ run.adjustments = 0 ∧ run.violations = 0)
        ∧ t.law = { s.law with inProgress := some run, scratch := t.law.scratch }
        ∧ t = { s with law := t.law })
  ∧ (∀ (s : State) (f : Flight) (k : Cycle),
      s.recon.inFlight = some f → f.ready = true → f.orphan = false → s.mem.arbiter.current = none →
      s.mem.arbiter.waiting = [] → s.cyc.reoffer = false → s.cyc.cycles = [k] → k.bank = f.job.bank → k.state = .draining →
      k.outstanding = 1 → s.recon.queue = [] → s.law.inProgress = none → (∀ i, (s.sensor i).queue = []) →
      let x := s.savedOf f.job.sensor
      let sum := fun i : Nat => match f.job.kind, k.set with
        | .contribution _, some _ => vget s.recon.buffer i
        | .substitution, some n => if x.valid = true ∧ x.setTag = n then vget x.vector i else 0
        | _, none => 0
      ∃ t, exec .jobCompletion s = .next t ∧ t.recon.inFlight = none
        ∧ (k.abandoned = false → t.cyc.cycles = [{ k with outstanding := 0, state := .law }]
            ∧ (∀ i, vget (t.bankVector k.bank) i = vget (s.bankVector k.bank) i + if i < f.nAct then sum i else 0)
            ∧ t.law = (({ t with law := s.law } : State).beginLaw k).law
            ∧ ∃ run, t.law.inProgress = some run ∧ run.fn = k.fn ∧ run.bank = k.bank)
        ∧ (k.abandoned = true → t.cyc.cycles = [] ∧ t.law = s.law ∧ t.recon.bankA = s.recon.bankA
            ∧ t.recon.bankB = s.recon.bankB))

/-- LAW_COMPLETION of an applied law (R48, R92, R100, R103): the scratch becomes z, the flags, figures, counters and the last
applied FN follow, the vector of the new z is committed, and the cycle retires. Stated with no second cycle, no deferred edit, no
calibration run, no armed snapshot, and the divergence monitor off.

LAW_COMPLETION of a HELD or OPEN law, and of a superseded NORMAL one (R92, R102, R104, R105): only the residuals and Q are
kept, nothing is committed, and the cycle retires. -/
def Obligations.LawCompletes : Prop :=
  (∀ (s : State) (run : LawRun) (k : Cycle),
      s.law.inProgress = some run → run.mode = .normal → run.superseded = false → run.satFlags.length = s.mem.nAct →
      s.cyc.cycles = [k] → k.bank = run.bank → s.law.deferred = none → s.cal.running = false → s.mon.snapState ≠ .armed →
      s.loop.params.rDiv = 0 → s.cyc.reoffer = false → (∀ i, (s.sensor i).queue = []) → s.recon.inFlight = none →
      s.recon.queue = [] → s.mem.arbiter.waiting = [] → s.mem.nAct ≤ 3072 →
      ∃ t, exec .lawCompletion s = .next t
        ∧ (∀ i, vget t.law.z i = if i < s.mem.nAct then vget s.law.scratch i else vget s.law.z i)
        ∧ (∀ i, t.law.satFlags.getD i false = run.satFlags.getD i false)
        ∧ t.law.satCount = run.satFlags.count true ∧ t.law.adjustments = run.adjustments
        ∧ t.law.violations = run.violations ∧ t.law.lastApplied = some run.fn ∧ t.law.lastQ = run.q
        ∧ t.law.residual = run.residual ∧ t.law.inProgress = none
        ∧ t.law.lawsApplied = counterInc s.law.lawsApplied
        ∧ t.law.adjustTotal = counterAdd s.law.adjustTotal run.adjustments
        ∧ t.law.violationTotal = counterAdd s.law.violationTotal run.violations
        ∧ t.law.committed = (List.range s.mem.nAct).map t.codeOf
        ∧ t.law.actuators = s.law.actuators ∧ t.law.neighbours = s.law.neighbours ∧ t.law.idlePokes = s.law.idlePokes
        ∧ (∀ d, t.driveLink d = linkCommit s.drive.tAck d (linkCodes t.law.committed s.mem.nAct d) (s.driveLink d))
        ∧ t.cyc = { s.cyc with cycles := [] } ∧ t.loop = { s.loop with runCount := 0 }
        ∧ t.intake = s.intake ∧ t.mem = s.mem ∧ t.recon = s.recon ∧ t.cal = s.cal ∧ t.mon = s.mon ∧ t.link = s.link)
  ∧ (∀ (s : State) (run : LawRun) (k : Cycle),
      s.law.inProgress = some run → (run.mode ≠ .normal ∨ run.superseded = true) →
      s.cyc.cycles = [k] → k.bank = run.bank → s.law.deferred = none → s.mon.snapState ≠ .armed → s.cyc.reoffer = false →
      (∀ i, (s.sensor i).queue = []) → s.recon.inFlight = none → s.recon.queue = [] → s.mem.arbiter.waiting = [] →
      exec .lawCompletion s = .next { s with
        law := { s.law with inProgress := none, residual := run.residual, lastQ := run.q }
        cyc := { s.cyc with cycles := [] } })

/-- ACT.WRITE with no law in progress (R106 to R108): the refusals in their order; applied, it replaces the records named, sets
their integrators by Table 5.7 and commits exactly when a lo, hi, flat or mode changed.

ACT.WRITE while a law is in progress is deferred: no record changes and no reply is formed, and at the law's end it is
applied and its DONE reply formed (R109). Stated for the end of a HELD or OPEN law. -/
def Obligations.ActuatorWrite : Prop :=
  (∀ (s : State) (first : Nat) (new : List ActRecord), first < 65536 → new ≠ [] → new.length < 65536 →
      (∀ a ∈ new, fitsS16 [a.lo, a.hi, a.flat] = true ∧ a.gain < 65536) →
      s.hears .actWrite (u16s [first, new.length]
        ++ new.flatMap fun a => s16s [a.lo, a.hi, a.flat] ++ u16s [a.gain, actModeCode a.mode]) = true →
      let named := fun i => first ≤ i ∧ i < first + new.length
      let record := fun i => new.getD (i - first) ActRecord.reset
      let moved := ∃ i, named i ∧ ((s.act i).lo ≠ (record i).lo ∨ (s.act i).hi ≠ (record i).hi
        ∨ (s.act i).flat ≠ (record i).flat ∨ (s.act i).mode ≠ (record i).mode)
      let rest := fun a : ActRecord => 256 * (if 0 < a.lo then a.lo else if a.hi < 0 then a.hi else 0)
      let placed := s.loop.state = .closed ∨ s.loop.state = .held
      (s.mem.nAct < first + new.length → exec .actWrite s = .next (s.refuse .badValue))
      ∧ (first + new.length ≤ s.mem.nAct → (∃ a ∈ new, a.hi < a.lo) → exec .actWrite s = .next (s.refuse .badValue))
      ∧ (first + new.length ≤ s.mem.nAct → (∀ a ∈ new, a.lo ≤ a.hi) → s.law.inProgress = none →
          s.mem.nAct ≤ s.law.actuators.length → s.mem.nAct ≤ s.law.z.length → s.cal.measuring = false →
          ∃ t : State, exec .actWrite s = .next (t.reply .done [])
          ∧ (∀ i, t.act i = if named i then record i else s.act i)
          ∧ (∀ i, vget t.law.z i = if named i then
                (if (record i).mode = .dead then 0
                 else if (s.act i).mode = .dead ∨ ¬ placed then rest (record i)
                 else max (256 * (record i).lo) (min (256 * (record i).hi) (vget s.law.z i)))
              else vget s.law.z i)
          ∧ (moved → t.law.committed = (List.range s.mem.nAct).map t.codeOf
              ∧ ∀ d, t.driveLink d = linkCommit s.drive.tAck d (linkCodes t.law.committed s.mem.nAct d) (s.driveLink d))
          ∧ (¬ moved → t.law.committed = s.law.committed ∧ t.drive = s.drive)
          ∧ t.intake = s.intake ∧ t.cyc = s.cyc ∧ t.mem = s.mem ∧ t.recon = s.recon ∧ t.loop = s.loop ∧ t.cal = s.cal
          ∧ t.mon = s.mon ∧ t.link = s.link))
  ∧ (∀ (s : State) (first : Nat) (new : List ActRecord) (c : Execution) (run : LawRun) (k : Cycle),
      s.law.inProgress = some run → s.link.executing = some c → c.noReply = false → s.cyc.cycles = [k] → k.bank = run.bank →
      s.cal.running = false →
      (s.hears .actWrite (u16s [first, new.length]
            ++ new.flatMap (fun a => s16s [a.lo, a.hi, a.flat] ++ u16s [a.gain, actModeCode a.mode])) = true →
          first < 65536 → new.length < 65536 → new ≠ [] →
          (∀ a ∈ new, fitsS16 [a.lo, a.hi, a.flat] = true ∧ a.gain < 65536 ∧ a.lo ≤ a.hi) →
          first + new.length ≤ s.mem.nAct →
          exec .actWrite s = .next { s with
            law := { s.law with deferred := some (first, new) }
            link := { s.link with executing := some { c with progress := .deferred } } })
      ∧ (s.law.deferred = some (first, new) → c.progress = .deferred → run.mode ≠ .normal → s.mon.snapState ≠ .armed →
          first + new.length ≤ s.law.actuators.length →
          s.cyc.reoffer = false → (∀ i, (s.sensor i).queue = []) → s.recon.inFlight = none → s.recon.queue = [] →
          s.mem.arbiter.waiting = [] →
          ∃ t, exec .lawCompletion s = .next t ∧ t.law.deferred = none ∧ t.law.inProgress = none ∧ t.cyc.cycles = []
            ∧ (∀ i, t.act i = if first ≤ i ∧ i < first + new.length then new.getD (i - first) ActRecord.reset else s.act i)
            ∧ t.link.executing = none
            ∧ t.link.transmitter = s.link.transmitter
                ++ [{ name := c.frame.name, tag := c.frame.tag, status := .done, data := [] }]))

/-- NBR.ADD and NBR.CLEAR (R111, R112): refused outside IDLE and OPEN; a pair of equal or out-of-range indices is BAD_VALUE; the
new pairs are appended, lower index first, once each, behind the list as it stood; more than 6,144 is FULL. -/
def Obligations.NeighbourListEdits : Prop :=
  ∀ (s : State) (given : List (Nat × Nat)), given ≠ [] → given.length < 65536 →
    (∀ q ∈ given, q.1 < 65536 ∧ q.2 < 65536) → s.law.neighbours.Nodup →
    let old := s.law.neighbours
    let pair := fun q : Nat × Nat => if q.1 < q.2 then q else (q.2, q.1)
    let bad := ∃ q ∈ given, q.1 = q.2 ∨ s.mem.nAct ≤ q.1 ∨ s.mem.nAct ≤ q.2
    let grown := (old ++ given.map pair).dedup.length
    let edits := s.loop.state = .idle ∨ s.loop.state = .opened
    (s.hears .nbrAdd (u16s (given.length :: given.flatMap fun q => [q.1, q.2])) = true →
      (¬ edits → exec .nbrAdd s = .next (s.refuse .wrongState))
      ∧ (edits → bad → exec .nbrAdd s = .next (s.refuse .badValue))
      ∧ (edits → ¬ bad → 6144 < grown → exec .nbrAdd s = .next (s.refuse .full))
      ∧ (edits → ¬ bad → grown ≤ 6144 → ∃ added : List (Nat × Nat),
          exec .nbrAdd s = .next (({ s with law := { s.law with neighbours := old ++ added } } : State).reply .done [])
          ∧ (old ++ added).Nodup ∧ (∀ q ∈ added, q.1 < q.2)
          ∧ (∀ q, q ∈ old ++ added ↔ q ∈ old ∨ ∃ g ∈ given, q = pair g)
          ∧ added.Sublist (given.map pair)))
    ∧ (s.hears .nbrClear [] = true →
      (¬ edits → exec .nbrClear s = .next (s.refuse .wrongState))
      ∧ (edits → exec .nbrClear s = .next (({ s with law := { s.law with neighbours := [] } } : State).reply .done [])))

/-- What a commit forms (Table 5.6, R99, R100): one code of 0..65,535 for each actuator below N_act, from 0 for a DEAD one, the
poke value in force brought into the limits, and z / 256 rounded half up otherwise; the law unit's other state stays.

A commit reaches a link (R136 to R138): an IDLE link sends a frame of the newest vector with the next number and becomes BUSY
with its timer started; a BUSY one sets pending, or counts a superseded vector; a FAILED one sends nothing; the up-to-date mark
becomes no on each of these; an UNUSED link ignores it. -/
def Obligations.CommitFormsCodesAndReachesLinks : Prop :=
  (∀ s : State,
      let t := s.commitVector
      let poke := fun i : Nat => match s.loop.state with
        | .idle => (s.law.idlePokes.find? fun e => decide (e.1 = i)).map Prod.snd
        | .opened => (s.law.calPoke.filter fun e => decide (e.1 = i)).map Prod.snd
        | _ => none
      let value := fun i : Nat => if (s.act i).mode = .dead then 0
        else match poke i with
          | some v => if v < (s.act i).lo then (s.act i).lo else min (s.act i).hi v
          | none => (vget s.law.z i + 128) / 256
      let codes := (List.range s.mem.nAct).map fun i => max 0 (min 65535 (value i + (s.act i).flat + 32768))
      t.law = { s.law with committed := codes }
      ∧ t.intake = s.intake ∧ t.cyc = s.cyc ∧ t.mem = s.mem ∧ t.recon = s.recon ∧ t.loop = s.loop ∧ t.cal = s.cal
      ∧ t.mon = s.mon ∧ t.link = s.link ∧ t.drive.tAck = s.drive.tAck ∧ t.drive.fMax = s.drive.fMax)
  ∧ (∀ (s : State) (d : Fin 4),
      let l := s.driveLink d
      let t := s.handToLinks.driveLink d
      let codes := (List.range (min 768 (s.mem.nAct - 768 * d.val))).map fun i => vget s.law.committed (768 * d.val + i)
      (l.state = .unused → t = l)
      ∧ (l.state = .idle → t = { l with
          state := .busy, seq := l.seq + 1, waiting := false, upToDate := false, frames := counterInc l.frames
          timer := some s.drive.tAck, inTransit := driveFrame d (l.seq + 1) codes })
      ∧ (l.state = .busy → l.waiting = false → t = { l with waiting := true, upToDate := false })
      ∧ (l.state = .busy → l.waiting = true → t = { l with upToDate := false, superseded := counterInc l.superseded })
      ∧ (l.state = .failed → t = { l with upToDate := false }))

/-! ## Loop states and holds (06) -/

/-- The rest requests (Table 5.4, R96): every integrator below N_act to its rest value, or 0 for a DEAD actuator, the saturation
flags and figures cleared, a NORMAL law in progress superseded; a rest commit also clears the pokes and commits the rest vector,
an integrator reset commits nothing. -/
def Obligations.RestRequests : Prop :=
  ∀ s : State, s.cal.measuring = false →
    let rest := fun i : Nat => if (s.act i).mode = .dead then 0
      else if 0 < (s.act i).lo then (s.act i).lo else if (s.act i).hi < 0 then (s.act i).hi else 0
    let cleared := fun t : State => (∀ i, vget t.law.z i = if i < s.mem.nAct then 256 * rest i else vget s.law.z i)
      ∧ (∀ i, t.law.satFlags.getD i false = false) ∧ t.law.satCount = 0 ∧ t.law.adjustments = 0 ∧ t.law.violations = 0
      ∧ t.law.inProgress = s.law.inProgress.map (fun r => if r.mode = .normal then { r with superseded := true } else r)
      ∧ t.law.lastQ = s.law.lastQ ∧ t.law.lastApplied = s.law.lastApplied ∧ t.law.lawsApplied = s.law.lawsApplied
      ∧ t.law.actuators = s.law.actuators ∧ t.law.neighbours = s.law.neighbours
      ∧ t.intake = s.intake ∧ t.cyc = s.cyc ∧ t.mem = s.mem ∧ t.recon = s.recon ∧ t.loop = s.loop ∧ t.cal = s.cal
      ∧ t.mon = s.mon ∧ t.link = s.link
    cleared s.integratorReset ∧ s.integratorReset.law.committed = s.law.committed ∧ s.integratorReset.drive = s.drive
      ∧ s.integratorReset.law.idlePokes = s.law.idlePokes
    ∧ cleared s.restCommit ∧ s.restCommit.law.idlePokes = [] ∧ s.restCommit.law.calPoke = none
      ∧ s.restCommit.law.committed = (List.range s.mem.nAct).map fun i =>
          max 0 (min 65535 (rest i + (s.act i).flat + 32768))

/-- LOOP.OPEN (R117, R118): WRONG_STATE in OPEN and SAFE, NOT_READY without a geometry or with a FAILED link that serves
actuators; otherwise the loop is OPEN after a rest commit, and the cycles go on.

LOOP.CLOSE (R117, R119): WRONG_STATE outside OPEN, BUSY during a calibration run, NOT_READY without a COMPLETE set to bind;
otherwise an integrator reset, the run count 0, and HELD or CLOSED by the effective hold, as the reply names. -/
def Obligations.LoopOpenAndClose : Prop :=
  (∀ s : State, s.hears .loopOpen [] = true →
      let failed := ∃ d : Fin 4, 768 * d.val < s.mem.nAct ∧ (s.driveLink d).state = .failed
      let from_ := s.loop.state = .idle ∨ s.loop.state = .closed ∨ s.loop.state = .held
      (¬ from_ → exec .loopOpen s = .next (s.refuse .wrongState))
      ∧ (from_ → (s.mem.nAct = 0 ∨ failed) → exec .loopOpen s = .next (s.refuse .notReady))
      ∧ (from_ → s.mem.nAct ≠ 0 → ¬ failed → s.cal.running = false → ∃ t : State, exec .loopOpen s = .next (t.reply .done [])
          ∧ t.loop = { s.loop with state := .opened } ∧ t.link = (s.raise .loopState).link
          ∧ (∀ i, i < s.mem.nAct → vget t.law.z i = if (s.act i).mode = .dead then 0
              else 256 * if 0 < (s.act i).lo then (s.act i).lo else if (s.act i).hi < 0 then (s.act i).hi else 0)
          ∧ t.law.idlePokes = [] ∧ t.law.calPoke = none ∧ t.law.committed = (List.range s.mem.nAct).map t.codeOf
          ∧ t.law.inProgress = s.law.inProgress.map (fun r => if r.mode = .normal then { r with superseded := true } else r)
          ∧ (∀ d, t.driveLink d = linkCommit s.drive.tAck d (linkCodes t.law.committed s.mem.nAct d) (s.driveLink d))
          ∧ t.intake = s.intake ∧ t.cyc = s.cyc ∧ t.mem = s.mem ∧ t.recon = s.recon ∧ t.cal = s.cal ∧ t.mon = s.mon))
  ∧ (∀ s : State, s.hears .loopClose [] = true →
      let index := (allSensors.map fun i => if (s.sensor i).mode = .active then 2 ^ i.val else 0).sum
      let usable := ∃ n : Fin 4, (s.setRec n).state = .complete ∧ (s.cyc.selection = .fixed n
        ∨ (s.cyc.selection = .auto ∧ (s.cyc.degTable[index]?).getD none = some n))
      (s.loop.state ≠ .opened → exec .loopClose s = .next (s.refuse .wrongState))
      ∧ (s.loop.state = .opened → s.cal.running = true → exec .loopClose s = .next (s.refuse .busy))
      ∧ (s.loop.state = .opened → s.cal.running = false → ¬ usable → exec .loopClose s = .next (s.refuse .notReady))
      ∧ (s.loop.state = .opened → s.cal.running = false → usable → ∃ t : State,
          let held := s.loop.command = true ∨ s.cyc.degraded = true ∨ s.loop.diverge = true
            ∨ (s.loop.params.exclusivity = .shared ∧ (s.loop.holdnLow = true ∨ s.loop.inband = true))
          exec .loopClose s = .next (t.reply .done [.u16 (if held then 3 else 2)])
          ∧ t.loop = { s.loop with state := if held then .held else .closed, runCount := 0 }
          ∧ t.link = (if held then (s.raise .loopState).raise .holdChange else s.raise .loopState).link
          ∧ (∀ i, i < s.mem.nAct → vget t.law.z i = if (s.act i).mode = .dead then 0
              else 256 * if 0 < (s.act i).lo then (s.act i).lo else if (s.act i).hi < 0 then (s.act i).hi else 0)
          ∧ t.law.committed = s.law.committed ∧ t.drive = s.drive
          ∧ t.intake = s.intake ∧ t.cyc = s.cyc ∧ t.mem = s.mem ∧ t.recon = s.recon ∧ t.cal = s.cal ∧ t.mon = s.mon))

/-- HOLDN_CHANGE, LOOP.HOLD and LOOP.RELEASE outside CLOSED and HELD (R123, R124, R126, R128): the source or the latches change
and nothing else.

A hold onset (R125 to R127): HOLDN going low under SHARED, or LOOP.HOLD, with no source active that counts, takes CLOSED to
HELD and raises LOOP_STATE and HOLD_CHANGE. With AT_BOUNDARY timing nothing else changes, a law in progress included; with
IMMEDIATE timing that law is discarded and its cycle abandoned and retired. Under COMMAND_ONLY HOLDN does nothing.

A hold release (R124, R128): HOLDN returning high, or LOOP.RELEASE, takes HELD to CLOSED when no other source that counts is
active, with the run count 0 and HOLD_CHANGE raised; with another one active the loop stays HELD.

In HELD (R124, R126): LOOP.HOLD, and HOLDN going low under SHARED, add their source and raise HOLD_CHANGE and do no more; with
the source active already, with latches already clear for LOOP.RELEASE, and for HOLDN under COMMAND_ONLY, the set of sources
that hold stays and nothing is raised. -/
def Obligations.HoldOnsetsAndReleases : Prop :=
  (∀ s : State, s.quiet = true → s.loop.state ≠ .closed → s.loop.state ≠ .held →
      (∀ low, exec (.holdnChange low) s = .next { s with loop := { s.loop with holdnLow := low } })
      ∧ (s.hears .loopHold [] = true →
          exec .loopHold s = .next (({ s with loop := { s.loop with command := true } } : State).reply .done []))
      ∧ (s.hears .loopRelease [] = true →
          exec .loopRelease s
            = .next (({ s with loop := { s.loop with command := false, diverge := false } } : State).reply .done [])))
  ∧ (∀ s : State, s.quiet = true → s.loop.state = .closed → s.effectiveHold = false → s.mon.snapState ≠ .armed →
      let onset := fun (l : LoopSupervisor) => ((({ s with loop := { l with state := .held } } : State).raise .loopState).raise
        .holdChange)
      (s.loop.params.timing = .atBoundary → s.loop.params.exclusivity = .shared →
          exec (.holdnChange true) s = .next (onset { s.loop with holdnLow := true }))
      ∧ (s.loop.params.exclusivity = .commandOnly →
          exec (.holdnChange true) s = .next { s with loop := { s.loop with holdnLow := true } })
      ∧ (s.loop.params.timing = .atBoundary → s.hears .loopHold [] = true →
          exec .loopHold s = .next ((onset { s.loop with command := true }).reply .done []))
      ∧ (∀ (run : LawRun) (k : Cycle), s.loop.params.timing = .immediate → s.loop.params.exclusivity = .shared →
          s.law.inProgress = some run → s.cyc.cycles = [k] → k.bank = run.bank → k.state = .law → k.abandoned = false →
          s.law.deferred = none → (∀ j ∈ s.recon.queue, j.bank ≠ k.bank) → (∀ i, (s.sensor i).queue = []) →
          ∃ t, exec (.holdnChange true) s = .next t
            ∧ t.loop = { s.loop with state := .held, holdnLow := true }
            ∧ t.law = { s.law with inProgress := none }
            ∧ t.cyc.cycles = [] ∧ t.cyc.abandonedCount = counterInc s.cyc.abandonedCount
            ∧ t.isPending .loopState = true ∧ t.isPending .holdChange = true
            ∧ t.intake = s.intake ∧ t.drive = s.drive ∧ t.cal = s.cal ∧ t.mon = s.mon))
  ∧ (∀ s : State, s.quiet = true → s.loop.state = .held →
      let free := fun (l : LoopSupervisor) => ((({ s with loop := { l with state := .closed, runCount := 0 } } : State).raise
        .loopState).raise .holdChange)
      let shared := s.loop.params.exclusivity = .shared
      (shared → s.loop.holdnLow = true → s.loop.command = false → s.loop.inband = false → s.cyc.degraded = false →
          s.loop.diverge = false → exec (.holdnChange false) s = .next (free { s.loop with holdnLow := false }))
      ∧ (shared → s.loop.holdnLow = true →
          (s.loop.command = true ∨ s.loop.inband = true ∨ s.cyc.degraded = true ∨ s.loop.diverge = true) →
          exec (.holdnChange false) s
            = .next (({ s with loop := { s.loop with holdnLow := false } } : State).raise .holdChange))
      ∧ (s.hears .loopRelease [] = true → (s.loop.command = true ∨ s.loop.diverge = true) →
          let released := { s.loop with command := false, diverge := false }
          (s.cyc.degraded = false → (shared → s.loop.holdnLow = false ∧ s.loop.inband = false) →
            exec .loopRelease s = .next ((free released).reply .done []))
          ∧ (s.cyc.degraded = true ∨ (shared ∧ (s.loop.holdnLow = true ∨ s.loop.inband = true)) →
            exec .loopRelease s = .next ((({ s with loop := released } : State).raise .holdChange).reply .done [])))
      ∧ (s.hears .loopRelease [] = true → s.loop.command = false → s.loop.diverge = false →
          exec .loopRelease s = .next (s.reply .done []))
      ∧ (s.hears .loopHold [] = true → exec .loopHold s = .next ((if s.loop.command = true then s
          else ({ s with loop := { s.loop with command := true } } : State).raise .holdChange).reply .done []))
      ∧ (shared → exec (.holdnChange true) s = .next (if s.loop.holdnLow = true then s
          else ({ s with loop := { s.loop with holdnLow := true } } : State).raise .holdChange))
      ∧ (¬ shared → ∀ low, exec (.holdnChange low) s = .next { s with loop := { s.loop with holdnLow := low } }))

/-- The entry to IDLE or SAFE (R116, R120, R121, R50): LOOP.STOP from OPEN, CLOSED or HELD, and LOOP.SAFE from any state but
SAFE, leave every cycle abandoned, the markers undefined, every saved contribution invalid, a calibration run ended with LOOP,
the integrators at rest, the rest vector committed and the pending reference commits carried out. LOOP.STOP in IDLE makes the
rest commit alone; LOOP.STOP in SAFE is WRONG_STATE, LOOP.SAFE in SAFE is DONE with no change. Stated with empty intake queues
and no deferred edit.

LOOP.RESET (R122): WRONG_STATE outside SAFE; in SAFE the loop becomes IDLE with no rest commit: the integrators, the committed
vector, the links, the latches and the parameters stay. -/
def Obligations.EntryToRest : Prop :=
  (∀ s : State, s.banked → (∀ i, (s.sensor i).queue = []) → s.law.deferred = none →
      let rest := fun i : Nat => if (s.act i).mode = .dead then 0
        else if 0 < (s.act i).lo then (s.act i).lo else if (s.act i).hi < 0 then (s.act i).hi else 0
      let entered := fun (l : LoopState) (t : State) =>
        t.loop = { s.loop with state := l } ∧ t.isPending .loopState = true
        ∧ (∀ k ∈ t.cyc.cycles, k.abandoned = true) ∧ t.cyc.lastClosed = none ∧ t.cyc.lastOpened = none
        ∧ t.cyc.lastSet = none ∧ t.cyc.degraded = false ∧ (∀ i, t.pendingSub i = 0)
        ∧ (∀ i, (t.savedOf i).valid = false)
        ∧ t.cal.running = false ∧ (s.cal.running = true → t.cal.endReason = some .loop ∧ t.isPending .calEnd = true)
        ∧ (∀ i, i < s.mem.nAct → vget t.law.z i = 256 * rest i) ∧ t.law.idlePokes = [] ∧ t.law.calPoke = none
        ∧ t.law.committed = (List.range s.mem.nAct).map (fun i => max 0 (min 65535 (rest i + (s.act i).flat + 32768)))
        ∧ t.law.actuators = s.law.actuators
        ∧ (∀ i, t.sensor i = { s.sensor i with
            commitPending := false
            activePage := if (s.sensor i).commitPending then (if (s.sensor i).activePage = 0 then 1 else 0)
              else (s.sensor i).activePage })
        ∧ t.mon.deadlineClose = false ∧ t.mon.onsetSeen = false ∧ t.mem.sets = s.mem.sets ∧ t.mem.dram = s.mem.dram
      (s.hears .loopStop [] = true →
        (s.loop.state = .safe → exec .loopStop s = .next (s.refuse .wrongState))
        ∧ (s.loop.state = .idle → exec .loopStop s = .next (s.restCommit.reply .done []))
        ∧ (s.loop.state ≠ .safe → s.loop.state ≠ .idle → ∃ t : State,
            exec .loopStop s = .next (t.reply .done []) ∧ entered .idle t))
      ∧ (s.hears .loopSafe [] = true →
        (s.loop.state = .safe → exec .loopSafe s = .next (s.reply .done []))
        ∧ (s.loop.state ≠ .safe → ∃ t : State, exec .loopSafe s = .next (t.reply .done []) ∧ entered .safe t)))
  ∧ (∀ s : State, s.hears .loopReset [] = true →
      (s.loop.state ≠ .safe → exec .loopReset s = .next (s.refuse .wrongState))
      ∧ (s.loop.state = .safe → s.cyc.cycles = [] → s.cal.running = false → (∀ i, (s.sensor i).queue = []) → ∃ t : State,
          exec .loopReset s = .next (t.reply .done [])
          ∧ t.loop = { s.loop with state := .idle } ∧ t.link = (s.raise .loopState).link ∧ t.law = s.law ∧ t.drive = s.drive
          ∧ t.cal = s.cal ∧ t.cyc.cycles = [] ∧ t.cyc.lastClosed = none ∧ t.cyc.lastOpened = none ∧ t.cyc.lastSet = none
          ∧ t.cyc.degraded = false ∧ (∀ i, (t.savedOf i).valid = false)
          ∧ (∀ i, (t.sensor i).commitPending = false ∧ (t.sensor i).config = (s.sensor i).config)))

/-- LOOP.PARAM (R131, R132): the nine fields stored after Table 6.6 has brought the numeric ones into range, the reply with the
stored values, the run count cleared when R_div or N_div changes; a change to SHARED in CLOSED with HOLDN low or INBAND active
is an onset.

In HELD (R125, R126, R128): a change to COMMAND_ONLY while HOLDN or INBAND alone holds the loop is a release; while a source that
goes on counting holds it too, and at a change to SHARED with one of the two active, the loop stays HELD and HOLD_CHANGE is
raised; with neither active the change moves nothing.

The divergence monitor (R129): off with R_div = 0; a Q above (256·R_div)² counts and any other sets the count to 0; at N_div
the DIVERGE latch is set, the count returns to 0, DIVERGE is raised, and a CLOSED loop takes an onset. -/
def Obligations.LoopParameters : Prop :=
  (∀ (s : State) (g l d r n : Nat) (src : GainSource) (timing : HoldTiming) (excl : Exclusivity) (gate : Bool),
      g < 4294967296 → l < 4294967296 → d < 4294967296 → r < 4294967296 → n < 4294967296 → s.quiet = true →
      s.hears .loopParam (u32s [g, l] ++ u16s [gainSourceCode src] ++ u32s [d]
        ++ u16s [timingCode timing, exclusivityCode excl, gateCode gate] ++ u32s [r, n]) = true →
      let q : LoopParams := { gGlob := min 65535 g, leak := min 32768 l, gainSource := src, dMax := min 65535 d,
                              timing := timing, exclusivity := excl, flagGate := gate, rDiv := min 32767 r,
                              nDiv := min 255 (max 1 n) }
      let asGiven := g ≤ 65535 ∧ l ≤ 32768 ∧ d ≤ 65535 ∧ r ≤ 32767 ∧ 1 ≤ n ∧ n ≤ 255
      let count := if q.rDiv = s.loop.params.rDiv ∧ q.nDiv = s.loop.params.nDiv then s.loop.runCount else 0
      let stored := { s.loop with params := q, runCount := count }
      let data : List Field := [.u32 q.gGlob, .u32 q.leak, .u16 (gainSourceCode src), .u32 q.dMax, .u16 (timingCode timing),
        .u16 (exclusivityCode excl), .u16 (gateCode gate), .u32 q.rDiv, .u32 q.nDiv]
      let status : Status := if asGiven then .done else .clamped
      let line := s.loop.holdnLow = true ∨ s.loop.inband = true
      let other := s.loop.command = true ∨ s.cyc.degraded = true ∨ s.loop.diverge = true
      ((s.loop.state ≠ .closed ∧ s.loop.state ≠ .held) ∨ excl = s.loop.params.exclusivity ∨ ¬ line →
        exec .loopParam s = .next (({ s with loop := stored } : State).reply status data))
      ∧ (s.loop.state = .held → excl ≠ s.loop.params.exclusivity → line →
          (excl = .shared ∨ other →
            exec .loopParam s = .next ((({ s with loop := stored } : State).raise .holdChange).reply status data))
          ∧ (excl = .commandOnly → ¬ other →
            exec .loopParam s = .next (((({ s with loop := { stored with state := .closed, runCount := 0 } } : State).raise
              .loopState).raise .holdChange).reply status data)))
      ∧ (s.loop.state = .closed → s.effectiveHold = false → line → excl = .shared → timing = .atBoundary →
          s.mon.snapState ≠ .armed →
          exec .loopParam s = .next (((({ s with loop := { stored with state := .held } } : State).raise .loopState).raise
            .holdChange).reply status data)))
  ∧ (∀ (s : State) (q : Nat),
      let p := s.loop.params
      let t := s.takeQ q
      (p.rDiv = 0 → t = { s with loop := { s.loop with runCount := 0 } })
      ∧ (p.rDiv ≠ 0 → q ≤ (256 * p.rDiv) * (256 * p.rDiv) → t = { s with loop := { s.loop with runCount := 0 } })
      ∧ (p.rDiv ≠ 0 → (256 * p.rDiv) * (256 * p.rDiv) < q → s.loop.runCount + 1 < p.nDiv →
          t = { s with loop := { s.loop with runCount := s.loop.runCount + 1 } })
      ∧ (p.rDiv ≠ 0 → (256 * p.rDiv) * (256 * p.rDiv) < q → p.nDiv ≤ s.loop.runCount + 1 →
          t.loop.diverge = true ∧ t.loop.runCount = 0 ∧ t.isPending .diverge = true
          ∧ (s.loop.state = .closed → s.effectiveHold = false →
              t.loop.state = .held ∧ t.isPending .holdChange = true ∧ t.isPending .loopState = true)
          ∧ (s.loop.state = .held → t.loop.state = .held)))

/-! ## Drive links (07) -/

/-- ACKNOWLEDGEMENT (R139, R141): bytes that fail the check change nothing; a checked one with another number, or on a link that
is not BUSY, is late and only counted; an ACCEPT with the current number stops the timer, clears the failure count and leaves
the link IDLE and up to date, or, with a vector pending, sends the newest one at once. A verdict other than 0 is a REJECT
(10 R194).

A failure, be it a REJECT with the current number or ACK_TIMER_EXPIRY (R140, R142, R121): below F_max it sends a new frame; at
F_max the link is FAILED and DRIVE_FAIL is raised. In IDLE and SAFE the loop stays; in OPEN, CLOSED and HELD it enters SAFE, and
the FAILED link is sent nothing. -/
def Obligations.Acknowledgements : Prop :=
  (∀ (s : State) (d : Fin 4) (seq verdict : Byte) (b : List Byte),
      let l := s.driveLink d
      let codes := (List.range (min 768 (s.mem.nAct - 768 * d.val))).map fun i => vget s.law.committed (768 * d.val + i)
      ((b.length ≠ 7 ∨ byteAt b 0 ≠ d.val ∨ BitVec.ofNat 32 (rd32 b 3) ≠ crc32 (b.take 3)) →
        exec (.acknowledgement d b) s = .next s)
      ∧ (l.state ≠ .busy ∨ seq ≠ l.seq →
        exec (.acknowledgement d (ackBytes d seq verdict)) s = .next (s.updLink d fun l => { l with late := counterInc l.late }))
      ∧ (l.state = .busy → seq = l.seq → verdict = 0 → l.waiting = false →
        exec (.acknowledgement d (ackBytes d seq verdict)) s = .next (s.updLink d fun l => { l with
          state := .idle, timer := none, failCount := 0, lastAccepted := some seq, upToDate := true }))
      ∧ (l.state = .busy → seq = l.seq → verdict = 0 → l.waiting = true →
        exec (.acknowledgement d (ackBytes d seq verdict)) s = .next (s.updLink d fun l => { l with
          timer := some s.drive.tAck, failCount := 0, lastAccepted := some seq, waiting := false, seq := l.seq + 1
          frames := counterInc l.frames, inTransit := driveFrame d (l.seq + 1) codes })))
  ∧ (∀ (s : State) (d : Fin 4) (c : Instr),
      let l := s.driveLink d
      let codes := (List.range (min 768 (s.mem.nAct - 768 * d.val))).map fun i => vget s.law.committed (768 * d.val + i)
      let failed := s.updLink d fun l => { l with
        state := .failed, timer := none, waiting := false, upToDate := false, failCount := l.failCount + 1
        failures := counterInc l.failures }
      l.state = .busy →
      (c = .ackTimerExpiry d ∧ l.timer ≠ none)
        ∨ (∃ verdict : Byte, verdict ≠ 0 ∧ c = .acknowledgement d (ackBytes d l.seq verdict)) →
      (l.failCount + 1 < s.drive.fMax →
        exec c s = .next (s.updLink d fun l => { l with
          timer := some s.drive.tAck, failCount := l.failCount + 1, failures := counterInc l.failures, waiting := false
          seq := l.seq + 1, frames := counterInc l.frames, inTransit := driveFrame d (l.seq + 1) codes }))
      ∧ (s.drive.fMax ≤ l.failCount + 1 → (s.loop.state = .idle ∨ s.loop.state = .safe) →
        exec c s = .next (failed.raise .driveFail))
      ∧ (s.drive.fMax ≤ l.failCount + 1 → s.loop.state ≠ .idle → s.loop.state ≠ .safe → s.banked → ∃ t,
        exec c s = .next t ∧ t.loop.state = .safe ∧ t.isPending .driveFail = true
        ∧ t.driveLink d = failed.driveLink d ∧ (∀ k ∈ t.cyc.cycles, k.abandoned = true)))

/-- DRV.PARAM (R146): each value brought into its range, both stored and given in the reply; the links, their timers and a
FAILED state stay.

DRV.POKE (R145, R101): WRONG_STATE outside IDLE, BAD_VALUE beyond N_act; otherwise the later of two values for one actuator
stands, the vector is committed, and the reply names each output value, CLAMPED when a value lay outside its limits.

DRV.RESTART (R144): WRONG_STATE unless FAILED; otherwise the failure count is 0 and a frame of the newest vector with the
next number is sent at once.

The layout of DRV.POKE's reply, every pair of the message with its output value and no count before the list, is the model's
choice (DESIGN CHOICE, log 18). -/
def Obligations.DriveMessages : Prop :=
  (∀ (s : State) (t f : Nat), t < 4294967296 → f < 4294967296 → s.hears .drvParam (u32s [t, f]) = true →
      let t' := min 2000 (max 20 t)
      let f' := min 15 (max 1 f)
      exec .drvParam s = .next (({ s with drive := { s.drive with tAck := t', fMax := f' } } : State).reply
        (if t' = t ∧ f' = f then .done else .clamped) [.u32 t', .u32 f']))
  ∧ (∀ (s : State) (given : List (Nat × Int)), given ≠ [] → given.length ≤ 1024 →
      (∀ e ∈ given, e.1 < 65536 ∧ -32768 ≤ e.2 ∧ e.2 ≤ 32767) →
      s.hears .drvPoke (u16s [given.length] ++ given.flatMap fun e => u16s [e.1] ++ s16s [e.2]) = true →
      let limited := fun e : Nat × Int => if e.2 < (s.act e.1).lo then (s.act e.1).lo
        else if (s.act e.1).hi < e.2 then (s.act e.1).hi else e.2
      let output := fun e : Nat × Int => if (s.act e.1).mode = .dead then 0 else limited e
      let clamped := ∃ e ∈ given, (s.act e.1).mode ≠ .dead ∧ limited e ≠ e.2
      (s.loop.state ≠ .idle → exec .drvPoke s = .next (s.refuse .wrongState))
      ∧ (s.loop.state = .idle → (∃ e ∈ given, s.mem.nAct ≤ e.1) → exec .drvPoke s = .next (s.refuse .badValue))
      ∧ (s.loop.state = .idle → (∀ e ∈ given, e.1 < s.mem.nAct) → s.cal.measuring = false → ∃ t : State,
          exec .drvPoke s = .next (t.reply (if clamped then .clamped else .done)
            (given.flatMap fun e => [.u16 e.1, .s16 (output e)]))
          ∧ (∀ i, (t.law.idlePokes.find? fun e => decide (e.1 = i))
              = match given.reverse.find? fun e => decide (e.1 = i) with
                | some e => some e
                | none => s.law.idlePokes.find? fun e => decide (e.1 = i))
          ∧ t.law.committed = (List.range s.mem.nAct).map t.codeOf ∧ t.law.z = s.law.z
          ∧ (∀ d, t.driveLink d = linkCommit s.drive.tAck d (linkCodes t.law.committed s.mem.nAct d) (s.driveLink d))
          ∧ t.intake = s.intake ∧ t.cyc = s.cyc ∧ t.mem = s.mem ∧ t.recon = s.recon ∧ t.loop = s.loop ∧ t.cal = s.cal
          ∧ t.mon = s.mon ∧ t.link = s.link))
  ∧ (∀ (s : State) (d : Fin 4), s.hears .drvRestart (u16s [d.val]) = true →
      let codes := (List.range (min 768 (s.mem.nAct - 768 * d.val))).map fun i => vget s.law.committed (768 * d.val + i)
      ((s.driveLink d).state ≠ .failed → exec .drvRestart s = .next (s.refuse .wrongState))
      ∧ ((s.driveLink d).state = .failed → exec .drvRestart s = .next ((s.updLink d fun l => { l with
          state := .busy, failCount := 0, waiting := false, timer := some s.drive.tAck, seq := l.seq + 1
          frames := counterInc l.frames, inTransit := driveFrame d (l.seq + 1) codes }).reply .done [])))

/-! ## Poke calibration (08) -/

/-- CAL.LOAD (R150): BUSY during a run, BAD_VALUE beyond N_act; otherwise the whole list is replaced, amplitudes brought into
1..32,767, and the records of the last run stay.

CAL.START (R151, R152): the refusals in their order; accepted, a run with fresh records and the ACTIVE sensors begins with the
PUSH phase of entry 0: its poke is committed, the serial advances, the counts and sums are 0 and the push output is recorded.

CAL.STOP (R161, R162): WRONG_STATE with no run; otherwise the run ends STOPPED, its poke is cleared and the vector committed,
CAL_END is raised, and its waiting transfers are not made.

The layouts of CAL.LOAD's CLAMPED reply, the stored list without a count, and of CAL.START's reply, the sensor set after its
count, are the model's choice (DESIGN CHOICE, log 18). -/
def Obligations.CalibrationRun : Prop :=
  (∀ (s : State) (given : List (Nat × Nat)), given.length ≤ 256 → (∀ e ∈ given, e.1 < 65536 ∧ e.2 < 65536) →
      s.hears .calLoad (u16s (given.length :: given.flatMap fun e => [e.1, e.2])) = true →
      let stored := given.map fun e => (e.1, min 32767 (max 1 e.2))
      (s.cal.running = true → exec .calLoad s = .next (s.refuse .busy))
      ∧ (s.cal.running = false → (∃ e ∈ given, s.mem.nAct ≤ e.1) → exec .calLoad s = .next (s.refuse .badValue))
      ∧ (s.cal.running = false → (∀ e ∈ given, e.1 < s.mem.nAct) →
          exec .calLoad s = .next (({ s with cal := { s.cal with pokeList := stored } } : State).reply
            (if stored = given then .done else .clamped)
            (if stored = given then [] else stored.flatMap fun e => [.u16 e.1, .u16 e.2]))))
  ∧ (∀ (s : State) (nS nM : Nat), nS < 4294967296 → nM < 4294967296 → s.hears .calStart (u32s [nS, nM]) = true →
      let nS' := min 15 nS
      let nM' := min 64 (max 1 nM)
      let sensors := (allSensors.filter fun i => decide ((s.sensor i).mode = .active)).map fun i => (i, (s.sensor i).config.nSub)
      (s.loop.state ≠ .opened → exec .calStart s = .next (s.refuse .wrongState))
      ∧ (s.loop.state = .opened → s.cal.running = true → exec .calStart s = .next (s.refuse .busy))
      ∧ (s.loop.state = .opened → s.cal.running = false → (s.cal.pokeList = [] ∨ ∀ i, (s.sensor i).mode ≠ .active) →
          exec .calStart s = .next (s.refuse .notReady))
      ∧ (∀ (e : Nat × Nat) (rest : List (Nat × Nat)), s.loop.state = .opened → s.cal.running = false →
          s.cal.pokeList = e :: rest → (∃ i, (s.sensor i).mode = .active) → ∃ t : State,
          exec .calStart s = .next (t.reply (if nS ≤ 15 ∧ 1 ≤ nM ∧ nM ≤ 64 then .done else .clamped)
            ([.u32 nS', .u32 nM', .u16 sensors.length] ++ sensors.flatMap fun x => [.u16 x.1.val, .u16 x.2]))
          ∧ t.cal = { s.cal with
              running := true, endReason := none, nS := nS', nM := nM', sensors := sensors, entry := 0, phase := some .push
              serial := s.cal.serial + 1, settle := 0, measure := 0, voids := 0, tallies := [], storing := []
              push := Vector.ofFn fun i =>
                List.replicate (if (s.sensor i).mode = .active then 2 * (s.sensor i).config.nSub else 0) 0
              records := { freshRecord e with pushOut := some (t.outputValue e.1) } :: rest.map freshRecord }
          ∧ t.law = { s.law with calPoke := some (e.1, (e.2 : Int)), committed := (List.range s.mem.nAct).map t.codeOf }
          ∧ (∀ d, t.driveLink d = linkCommit s.drive.tAck d (linkCodes t.law.committed s.mem.nAct d) (s.driveLink d))
          ∧ t.intake = s.intake ∧ t.cyc = s.cyc ∧ t.mem = s.mem ∧ t.recon = s.recon ∧ t.loop = s.loop ∧ t.mon = s.mon
          ∧ t.link = s.link))
  ∧ (∀ s : State, s.hears .calStop [] = true →
      (s.cal.running = false → exec .calStop s = .next (s.refuse .wrongState))
      ∧ (s.cal.running = true → ∃ t : State, exec .calStop s = .next (t.reply .done [])
          ∧ t.cal = { s.cal with
              running := false, endReason := some .stopped, phase := none, entry := 0, settle := 0, measure := 0, voids := 0
              push := Vector.replicate 6 [], pull := Vector.replicate 6 [], tallies := [], storing := [] }
          ∧ t.law = { s.law with calPoke := none, committed := (List.range s.mem.nAct).map t.codeOf }
          ∧ t.link = (s.raise .calEnd).link ∧ .calibration ∉ t.mem.arbiter.waiting ∧ t.mem.dram = s.mem.dram
          ∧ t.mem.sets = s.mem.sets ∧ t.intake = s.intake ∧ t.cyc = s.cyc ∧ t.recon = s.recon ∧ t.loop = s.loop
          ∧ t.mon = s.mon))

/-- The judgement of a tally in PUSH and in PULL (R155, R156): one of another serial is dropped; a void counts in the phase and in
the record, and the ninth ends the run with MISSING; a cycle that is not void settles first and then measures, its slopes added
into the sums of the phase.

The end of a phase (R158, R152): at the judgement that brings the measure count to N_m, PUSH gives way to PULL with its phase
commit, the poke at minus the amplitude, and PULL to STORING, which asks for the transfers and leaves the poke.

A cycle abandoned while ACCUMULATING is judged void; at the entry to IDLE or SAFE, with another serial or in STORING its tally is
dropped; one abandoned after its close does not reach the run (R155).

SENSOR_FRAME_ARRIVAL of the last awaited frame of a marked cycle hands over its slopes, and the close judges the tally;
DEADLINE_EXPIRY with a calibration sensor still awaited is a void (R43, R154, R155).

A commit that is not a phase commit restarts the phase (R157), the restarts counted without bound (the model's choice, log 30);
in STORING, and with no run, it does nothing to the run.

The responses (R159): for each slope, the push sum less the pull sum over 2·N_m, rounded half up. -/
def Obligations.CalibrationTallies : Prop :=
  (∀ (s : State) (y : Tally) (r : ResponseRecord) (pull : Bool), s.cal.tallies = [y] → s.cal.running = true →
      s.cal.phase = some (if pull then .pull else .push) → s.cal.records[s.cal.entry]? = some r →
      let t := s.judgeTally y.bank false
      let lacks := ∃ e ∈ s.cal.sensors, ∀ l, y.entries[e.1] ≠ .slopes l
      let sums := fun (c : Calibration) => if pull then c.pull else c.push
      let added := ∀ (i : Fin 6) (j : Nat), vget (sums t.cal)[i] j
        = vget (sums s.cal)[i] j + (match y.entries[i] with | .slopes l => vget l j | _ => 0)
      (y.serial ≠ s.cal.serial → t = { s with cal := { s.cal with tallies := [] } })
      ∧ (y.serial = s.cal.serial → lacks → s.cal.voids + 1 < 9 →
          t = { s with cal := { s.cal with
            tallies := [], voids := s.cal.voids + 1
            records := s.cal.records.set s.cal.entry (if pull then { r with voidsPull := r.voidsPull + 1 }
              else { r with voidsPush := r.voidsPush + 1 }) } })
      ∧ (y.serial = s.cal.serial → lacks → s.cal.voids = 8 →
          t.cal.running = false ∧ t.cal.endReason = some .missing ∧ t.cal.tallies = [] ∧ t.law.calPoke = none
          ∧ t.isPending .calEnd = true)
      ∧ (y.serial = s.cal.serial → ¬ lacks → s.cal.settle < s.cal.nS →
          t = { s with cal := { s.cal with tallies := [], settle := s.cal.settle + 1 } })
      ∧ (y.serial = s.cal.serial → ¬ lacks → s.cal.nS ≤ s.cal.settle → s.cal.measure + 1 < s.cal.nM →
          added ∧ t = { s with cal := { s.cal with
            tallies := [], measure := s.cal.measure + 1, push := t.cal.push, pull := t.cal.pull } }
          ∧ (if pull then t.cal.push = s.cal.push else t.cal.pull = s.cal.pull))
      ∧ (y.serial = s.cal.serial → ¬ lacks → s.cal.nS ≤ s.cal.settle → s.cal.nM ≤ s.cal.measure + 1 →
          added
          ∧ (pull = false →
            t.cal = { s.cal with
              tallies := [], phase := some .pull, serial := s.cal.serial + 1, settle := 0, measure := 0, voids := 0
              push := t.cal.push, pull := Vector.ofFn fun i => List.replicate (s.cal.slopesOf i) 0
              records := s.cal.records.set s.cal.entry { r with pullOut := some (t.outputValue r.actuator) } }
            ∧ t.law = { s.law with
              calPoke := some (r.actuator, -(r.amplitude : Int)), committed := (List.range s.mem.nAct).map t.codeOf }
            ∧ (∀ d, t.driveLink d = linkCommit s.drive.tAck d (linkCodes t.law.committed s.mem.nAct d) (s.driveLink d))
            ∧ t.mem = s.mem)
          ∧ (pull = true →
            t.cal = { s.cal with
              tallies := [], phase := some .storing, measure := s.cal.measure + 1, pull := t.cal.pull
              storing := s.cal.sensors.map Prod.fst }
            ∧ t.law = s.law ∧ t.drive = s.drive ∧ .calibration ∈ t.mem.arbiter.waiting)
          ∧ t.intake = s.intake ∧ t.cyc = s.cyc ∧ t.recon = s.recon ∧ t.loop = s.loop ∧ t.mon = s.mon ∧ t.link = s.link))
  ∧ (∀ (s : State) (k : Cycle) (y : Tally) (atRest : Bool), s.cyc.cycles = [k] → k.calMark = true → k.abandoned = false →
      s.cal.tallies = [y] → y.bank = k.bank → s.cal.running = true →
      let t := s.abandon k.bank atRest
      (k.state = .accumulating → atRest = true ∨ y.serial ≠ s.cal.serial ∨ s.cal.phase = some .storing →
          t.cal = { s.cal with tallies := [] } ∧ t.law = s.law)
      ∧ (∀ (r : ResponseRecord) (pull : Bool), k.state = .accumulating → atRest = false → y.serial = s.cal.serial →
          s.cal.phase = some (if pull then .pull else .push) → s.cal.records[s.cal.entry]? = some r →
          (s.cal.voids + 1 < 9 → t.law = s.law ∧ t.cal = { s.cal with
            tallies := [], voids := s.cal.voids + 1
            records := s.cal.records.set s.cal.entry (if pull then { r with voidsPull := r.voidsPull + 1 }
              else { r with voidsPush := r.voidsPush + 1 }) })
          ∧ (s.cal.voids = 8 → t.cal.running = false ∧ t.cal.endReason = some .missing ∧ t.law.calPoke = none
            ∧ t.isPending .calEnd = true))
      ∧ (k.state = .draining → t.cal = s.cal ∧ t.law = s.law)
      ∧ (k.state = .law → s.law.deferred = none → t.cal = s.cal))
  ∧ (∀ (s : State) (i : Fin 6) (b : List Byte) (k : Cycle) (y : Tally),
      let x := s.sensor i
      let slopes := x.corrected k.binding[i] (rdS16s b 6 (2 * x.config.nSub))
      x.mode = .active → x.queue = [] → s.loop.state = .opened → s.plainFrame i b = true → (b.getD 1 0).getLsbD 2 = false →
      s.quiet = true → s.cyc.cycles = [k] → k.isOpen = true → k.fn = frameFn b → k.awaits i = true →
      (∀ j, j ≠ i → k.awaits j = false) → 0 < k.outstanding → s.recon.inFlight ≠ none → k.calMark = true →
      s.cal.tallies = [y] → y.bank = k.bank → (∃ n, (i, n) ∈ s.cal.sensors) → s.cal.slopesOf i = slopes.length →
      (s.cal.phase = some .push ∨ s.cal.measure + 1 < s.cal.nM) →
      let handed := ({ s with cal := { s.cal with
        tallies := [{ y with entries := y.entries.set i (.slopes slopes) }] } } : State).judgeTally k.bank false
      ∃ t, exec (.sensorFrameArrival i b) s = .next t ∧ t.cal = handed.cal ∧ t.law = handed.law ∧ t.drive = handed.drive
        ∧ t.cyc.cycles.map (fun c => c.state) = [.draining])
  ∧ (∀ (s : State) (k : Cycle) (y : Tally) (r : ResponseRecord) (pull : Bool), s.cyc.cycles = [k] → k.abandoned = false →
      k.state = .accumulating → k.deadline ≠ none → k.calMark = true → 0 < k.outstanding → s.quiet = true →
      (∀ i, k.awaits i = true → (s.sensor i).mode = .active ∧ (s.sensor i).missCount + 1 < (s.sensor i).config.kMiss
        ∧ (s.sensor i).missCount < 255 ∧ (s.sensor i).config.policy = .omit) →
      s.cal.tallies = [y] → y.bank = k.bank → y.serial = s.cal.serial → s.cal.running = true →
      s.cal.phase = some (if pull then .pull else .push) → s.cal.records[s.cal.entry]? = some r → s.cal.voids + 1 < 9 →
      (∃ e ∈ s.cal.sensors, k.awaits e.1 = true) →
      ∃ t, exec (.deadlineExpiry k.bank) s = .next t ∧ t.law = s.law ∧ t.cal = { s.cal with
        tallies := [], voids := s.cal.voids + 1
        records := s.cal.records.set s.cal.entry (if pull then { r with voidsPull := r.voidsPull + 1 }
          else { r with voidsPush := r.voidsPush + 1 }) })
  ∧ (∀ (s : State) (r : ResponseRecord), s.cal.records[s.cal.entry]? = some r →
      let t := s.commit
      let u := s.commitVector
      (s.cal.running = false ∨ s.cal.phase = some .storing → t = u)
      ∧ (s.cal.running = true → s.cal.phase = some .push →
          t.cal = { s.cal with
            serial := s.cal.serial + 1, settle := 0, measure := 0
            push := Vector.ofFn fun i => List.replicate (s.cal.slopesOf i) 0
            records := s.cal.records.set s.cal.entry
              { r with pushOut := some (u.outputValue r.actuator), restartsPush := r.restartsPush + 1 } })
      ∧ (s.cal.running = true → s.cal.phase = some .pull →
          t.cal = { s.cal with
            serial := s.cal.serial + 1, settle := 0, measure := 0
            pull := Vector.ofFn fun i => List.replicate (s.cal.slopesOf i) 0
            records := s.cal.records.set s.cal.entry
              { r with pullOut := some (u.outputValue r.actuator), restartsPull := r.restartsPull + 1 } })
      ∧ t.law = u.law ∧ t.drive = u.drive ∧ t.loop = s.loop ∧ t.link = s.link)
  ∧ (∀ (s : State) (i : Fin 6) (n j : Nat), s.cal.sensors.find? (fun e => decide (e.1 = i)) = some (i, n) → j < 2 * n →
      1 ≤ s.cal.nM →
      let m : Int := s.cal.nM
      let diff := vget s.cal.push[i] j - vget s.cal.pull[i] j
      let x := vget (s.responsesOf i) j
      (s.responsesOf i).length = 2 * n ∧ 2 * m * x ≤ diff + m ∧ diff + m < 2 * m * (x + 1)
        ∧ (-(2 * m * 32767) ≤ diff → diff ≤ 2 * m * 32767 → -32767 ≤ x ∧ x ≤ 32767))

/-- CAL_RESPONSE_WRITE (R160, R161): the slot holds the responses, padded to whole words with 0, and every other place reads as
before. In a run, the sensor is done and the next transfer is asked for; after the last sensor of the last entry the run ends
DONE and CAL_END is raised. A transfer whose run has ended does nothing more. -/
def Obligations.ResponseWrite : Prop :=
  ∀ (s : State) (e : Nat) (i : Fin 6) (values : List Int) (live : Bool),
    s.memoryWf → s.mem.arbiter.current = some (.calWrite e i values live) → fitsS16 values = true → values.length ≤ 2048 →
    s.mem.arbiter.waiting = [] → s.recon.inFlight = none → s.recon.queue = [] →
    let slot := responseSlot e i
    let words := (values.length + 3) / 4
    ∃ t, exec .calResponseWrite s = .next t
      ∧ (∀ j, j < values.length → (t.mem.dram.read (slot + j)).toInt = vget values j)
      ∧ (∀ j, values.length ≤ j → j < 4 * words → t.mem.dram.read (slot + j) = 0)
      ∧ (∀ place, place < slot ∨ slot + 4 * words ≤ place → t.mem.dram.read place = s.mem.dram.read place)
      ∧ (∀ w, slot / 4 ≤ w → w < slot / 4 + words → t.mem.dram.wordError w = none)
      ∧ t.mem.sets = s.mem.sets ∧ t.intake = s.intake ∧ t.cyc = s.cyc ∧ t.recon = s.recon ∧ t.loop = s.loop ∧ t.mon = s.mon
      ∧ (live = false → t.cal = s.cal ∧ t.law = s.law ∧ t.drive = s.drive ∧ t.link = s.link
          ∧ t.mem.arbiter = { current := none, waiting := [] })
      ∧ (∀ j rest, live = true → s.cal.storing = i :: j :: rest →
          t.cal = { s.cal with storing := j :: rest } ∧ t.law = s.law ∧ t.drive = s.drive
          ∧ t.mem.arbiter = { current := some (.calWrite s.cal.entry j (s.responsesOf j) true), waiting := [] })
      ∧ (∀ r, live = true → s.cal.storing = [i] → s.cal.records[s.cal.entry]? = some r →
          s.cal.records.length ≤ s.cal.entry + 1 →
          t.cal.running = false ∧ t.cal.endReason = some .done
          ∧ t.cal.records = s.cal.records.set s.cal.entry { r with complete := true } ∧ t.law.calPoke = none
          ∧ t.link = (s.raise .calEnd).link)
      ∧ (∀ r r', live = true → s.cal.storing = [i] → s.cal.records[s.cal.entry]? = some r →
          s.cal.records[s.cal.entry + 1]? = some r' →
          t.cal.running = s.cal.running ∧ t.cal.entry = s.cal.entry + 1 ∧ t.cal.phase = some .push
          ∧ t.cal.serial = s.cal.serial + 1 ∧ t.law.calPoke = some (r'.actuator, (r'.amplitude : Int))
          ∧ (t.cal.records[s.cal.entry]?).map (fun x => x.complete) = some true)

/-- CAL.READ (R164) and CAL_READ_TRANSFER (R70, R72): the refusals in their order; accepted, the transfer waits for the DRAM; at
its end the reply is DONE with the entry's record and the responses, single-bit errors counted, or NOT_READY with no responses
when a word is uncorrectable. The layout of the record in the reply is the model's choice (DESIGN CHOICE, log 18). -/
def Obligations.ResponseReadout : Prop :=
  (∀ (s : State) (e sensor first count : Nat), e < 65536 → sensor < 65536 → first < 65536 → 1 ≤ count → count ≤ 2048 →
    s.hears .calRead (u16s [e, sensor, first, count]) = true →
    let bad := s.cal.records.length ≤ e ∨ (∀ x ∈ s.cal.sensors, x.1.val ≠ sensor)
    (bad → exec .calRead s = .next (s.refuse .badValue))
    ∧ (∀ (r : ResponseRecord) (i : Fin 6) (n : Nat), s.cal.records[e]? = some r → i.val = sensor →
        s.cal.sensors.find? (fun x => decide (x.1 = i)) = some (i, n) →
        (2 * n < first + count → exec .calRead s = .next (s.refuse .badValue))
        ∧ (first + count ≤ 2 * n → r.complete = false → exec .calRead s = .next (s.refuse .notReady))
        ∧ (first + count ≤ 2 * n → r.complete = true → s.mem.arbiter = { current := none, waiting := [] } →
            s.recon.inFlight = none → s.recon.queue = [] →
            exec .calRead s = .next ((s.setProgress (.reading e i first count)).setArbiter
              { current := some .calRead, waiting := [] }))))
  ∧ (∀ (s : State) (us : List Upset) (c : Execution) (r : ResponseRecord) (e first count : Nat) (i : Fin 6),
      s.mem.arbiter = { current := some .calRead, waiting := [] } → s.link.executing = some c →
      c.progress = .reading e i first count → s.cal.records[e]? = some r → 1 ≤ count → s.recon.inFlight = none →
      s.recon.queue = [] →
      let slot := responseSlot e i
      let place := slot + first
      let dram := s.mem.dram.upset slot us
      let words := (List.range ((place + count - 1) / 4 - place / 4 + 1)).map fun w => dram.wordError (place / 4 + w)
      (some WordError.double ∉ words →
        exec (.calReadTransfer us) s = .next (({ s with mem := { s.mem with
            dram := dram, arbiter := { current := none, waiting := [] }
            correctedErrors := counterAdd s.mem.correctedErrors (words.filter fun x => decide (x = some .single)).length } }
          : State).reply .done (recordFields r
            ++ (List.range count).map fun j => Field.s16 (s.mem.dram.read (place + j)).toInt)))
      ∧ (some WordError.double ∈ words → ∃ n,
          exec (.calReadTransfer us) s = .next (({ s with mem := { s.mem with
            dram := dram, arbiter := { current := none, waiting := [] }
            correctedErrors := counterAdd s.mem.correctedErrors n
            uncorrectableErrors := counterInc s.mem.uncorrectableErrors } } : State).reply .notReady [])
          ∧ n ≤ (words.filter fun x => decide (x = some .single)).length))

/-! ## Monitoring and capture (09) -/

/-- STAT.CLEAR (R166, R168): BAD_FORM on a payload; otherwise every counter of Table 9.2 is 0 and nothing else has changed:
the mean squares, the last Q, the law figures, the saved contributions, the captures and the line selections stay. -/
def Obligations.CountersCleared : Prop :=
  ∀ s : State,
    (∀ p, s.hears .statClear p = true → p ≠ [] → exec .statClear s = .next (s.refuse .badForm))
    ∧ (s.hears .statClear [] = true → ∃ t : State, exec .statClear s = .next (t.reply .done [])
      ∧ (∀ i, t.sensor i = { s.sensor i with counters := {
          taken := 0, contentErrors := 0, syntaxErrors := 0, ignored := 0, lostFrames := 0, noMeasurement := 0
          saturatedCorrection := 0, misses := 0, excusedMisses := 0, staleDeclarations := 0, late := 0, duplicate := 0 } })
      ∧ t.intake.arrivals = s.intake.arrivals
      ∧ t.cyc = { s.cyc with
          opened := 0, closesComplete := 0, closesSettled := 0, closesDeadline := 0, closesOverrun := 0, skipped := 0
          abandonedCount := 0 }
      ∧ t.mem = { s.mem with correctedErrors := 0, uncorrectableErrors := 0 }
      ∧ t.law = { s.law with lawsApplied := 0, adjustTotal := 0, violationTotal := 0 }
      ∧ (∀ d, t.driveLink d = { s.driveLink d with frames := 0, failures := 0, late := 0, superseded := 0 })
      ∧ t.drive.tAck = s.drive.tAck ∧ t.drive.fMax = s.drive.fMax
      ∧ t.link = { s.link with dropped := 0 }
      ∧ t.recon = s.recon ∧ t.loop = s.loop ∧ t.cal = s.cal ∧ t.mon = s.mon)

/-- The peak capture (R170 to R172): PEAK.ARM empties and arms it; it stays armed until a capture, DEV.CLEAR or power-on reset;
a law's beginning captures when it is armed and a sensor is filled: the first five slopes that are not 0 by magnitude, then
sensor, then slope index; PEAK.READ answers with it and changes nothing else.

The JOB_COMPLETION that passes a live cycle to LAW makes the capture for that cycle, and one that passes an abandoned cycle makes
none (R47, R78, R90).

The layout of PEAK.READ's reply is the model's choice (DESIGN CHOICE, log 18). -/
def Obligations.PeakCaptureTakesLargestSlopes : Prop :=
  ∀ s : State,
    (∀ p, s.hears .peakArm p = true → p ≠ [] → exec .peakArm s = .next (s.refuse .badForm))
    ∧ (s.hears .peakArm [] = true → exec .peakArm s
        = .next (({ s with mon := { s.mon with peakArmed := true, peakFn := none, peaks := [] } } : State).reply .done []))
    ∧ (∀ c t, exec c s = .next t → s.mon.peakArmed = true →
        t.mon.peakArmed = true ∨ t.mon.peakFn ≠ none ∨ c = .devClear ∨ c = .powerOnReset)
    ∧ (s.hears .peakRead [] = true → exec .peakRead s = .next (s.reply .done (List.flatten
        [ [.u16 (boolCode s.mon.peakArmed)],
          match s.mon.peakFn with | none => [.u16 0, .u16 0] | some f => [.u16 1, .u16 f.toNat],
          [.u16 s.mon.peaks.length],
          s.mon.peaks.flatMap fun r => [.u16 r.sensor.val, .u16 r.subaperture, .u16 (boolCode r.axisY), .s16 r.value] ])))
    ∧ (∀ k : Cycle,
        let buf := s.buffer k.bank
        let u := s.capturePeaks k
        let peaks := u.mon.peaks
        let slope := fun r : PeakRecord => 2 * r.subaperture + (if r.axisY then 1 else 0)
        let candidate := fun r : PeakRecord => r.value ≠ 0
          ∧ ∃ l, buf[r.sensor] = some l ∧ slope r < l.length ∧ vget l (slope r) = r.value
        let ahead := fun r q : PeakRecord => q.value.natAbs < r.value.natAbs
          ∨ (q.value.natAbs = r.value.natAbs ∧ (r.sensor < q.sensor ∨ (r.sensor = q.sensor ∧ slope r < slope q)))
        (s.mon.peakArmed = false ∨ (∀ i : Fin 6, buf[i] = none) → u = s)
        ∧ (s.mon.peakArmed = true → (∃ i : Fin 6, buf[i] ≠ none) →
            u = ({ s with mon := { s.mon with peakArmed := false, peakFn := some k.fn, peaks := peaks } } : State).raise
              .peakReady
            ∧ peaks.length ≤ 5 ∧ (∀ r ∈ peaks, candidate r) ∧ peaks.Pairwise ahead
            ∧ ∀ r, candidate r → r ∈ peaks ∨ (peaks.length = 5 ∧ ∀ q ∈ peaks, ahead q r)))
    ∧ (∀ (f : Flight) (k : Cycle), s.recon.inFlight = some f → f.ready = true → f.orphan = false →
        s.mem.arbiter.current = none → s.mem.arbiter.waiting = [] → s.cyc.reoffer = false → s.cyc.cycles = [k] →
        k.bank = f.job.bank → k.state = .draining → k.outstanding = 1 → s.recon.queue = [] → s.law.inProgress = none →
        (∀ i, (s.sensor i).queue = []) →
        ∃ t, exec .jobCompletion s = .next t
          ∧ (k.abandoned = false → t.law.inProgress ≠ none
              ∧ t.mon = (s.capturePeaks k).mon ∧ t.link = (s.capturePeaks k).link)
          ∧ (k.abandoned = true → t.mon = s.mon ∧ t.link = s.link))

/-- SNAP.ARM, SNAP.STATUS, SNAP.READ and SNAP_COPY_END (R173, R176, R177): the refusals in their order; arming brings the
threshold into 1..3,072, discards the content and clears the mark; the status changes nothing, a read gives the elements asked
for and keeps the store FULL, and the end of the copy makes it FULL and raises SNAP_FULL.

The snapshot's trigger and content (R174 to R176, Table 9.5): at the completion of a law that commits nothing, an ARMED
store fires with NEXT, with ON_HOLD when the mark is set, and not with ON_SATURATION; the content fixed is the header of
sixteen fields and the selected sections. At an applied law ON_SATURATION fires at or above the threshold. An onset sets the
mark of a store armed with ON_HOLD: HOLDN going low under SHARED, and LOOP.HOLD, that take a CLOSED loop into HELD do so.

The layout of SNAP.ARM's payload, with a 16-bit selection, is the model's choice (DESIGN CHOICE, log 19), and so are those of
the replies of SNAP.ARM and SNAP.STATUS (log 18). -/
def Obligations.SnapshotFiresAndFills : Prop :=
  (∀ s : State,
      (∀ kind threshold selection : Nat, kind < 65536 → threshold < 4294967296 → selection < 65536 →
        s.hears .snapArm (u16s [kind] ++ u32s [threshold] ++ u16s [selection]) = true →
        let stored := min 3072 (max 1 threshold)
        let bad := 3 ≤ kind ∨ selection = 0 ∨ 7 < selection
        (bad → exec .snapArm s = .next (s.refuse .badValue))
        ∧ (¬ bad → s.mon.snapState = .filling → exec .snapArm s = .next (s.refuse .busy))
        ∧ (∀ trigger : SnapTrigger, kind = triggerCode trigger → ¬ bad → s.mon.snapState ≠ .filling →
            exec .snapArm s = .next (({ s with mon := { s.mon with
              snapState := .armed, snapTrigger := trigger, snapThreshold := stored, snapSelection := selection
              onsetSeen := false, snapContent := [] } } : State).reply
                (if stored = threshold then .done else .clamped) [.u16 kind, .u32 stored, .u16 selection])))
      ∧ (s.hears .snapStatus [] = true → exec .snapStatus s = .next (s.reply .done
          ([.u16 (snapCode s.mon.snapState), .u16 (triggerCode s.mon.snapTrigger), .u32 s.mon.snapThreshold,
              .u16 s.mon.snapSelection, .u16 (boolCode s.mon.onsetSeen)]
            ++ (if s.mon.snapState = .filling ∨ s.mon.snapState = .full then
              [.u16 s.mon.snapFn.toNat, .u16 s.mon.snapContent.length] else []))))
      ∧ (∀ offset length : Nat, offset < 65536 → 1 ≤ length → length ≤ 2000 →
          s.hears .snapRead (u16s [offset, length]) = true →
          (s.mon.snapState ≠ .full → exec .snapRead s = .next (s.refuse .wrongState))
          ∧ (s.mon.snapState = .full → s.mon.snapContent.length < offset + length →
              exec .snapRead s = .next (s.refuse .badValue))
          ∧ (s.mon.snapState = .full → offset + length ≤ s.mon.snapContent.length →
              exec .snapRead s = .next (s.reply .done
                ((List.range length).map fun j => .s32 (vget s.mon.snapContent (offset + j))))))
      ∧ (s.mon.snapState = .filling →
          exec .snapCopyEnd s = .next (({ s with mon := { s.mon with snapState := .full } } : State).raise .snapFull)))
  ∧ (∀ (s : State) (run : LawRun),
      let m := s.mon
      let buf := s.buffer run.bank
      let part := fun (i : Fin 6) => (buf[i]).getD []
      let on := fun bit : Nat => m.snapSelection.testBit bit
      let slopes := if on 0 then part 0 ++ part 1 ++ part 2 ++ part 3 ++ part 4 ++ part 5 else []
      let residuals := if on 1 then run.residual else []
      let codes := if on 2 then s.law.committed else []
      let width := fun i : Fin 6 => if on 0 then ((part i).length : Int) / 2 else 0
      let header : List Int := List.flatten
        [ [(run.fn.toNat : Int), triggerCode m.snapTrigger, lawModeCode run.mode, setCode run.set],
          [(s.mem.nAct : Int), s.law.satCount, m.snapSelection],
          [((if on 0 then (allSensors.filter fun i => (buf[i]).isSome).length else 0 : Nat) : Int)],
          [width 0, width 1, width 2, width 3, width 4, width 5],
          [if on 1 then (16 + slopes.length : Int) else 0],
          [if on 2 then (16 + slopes.length + residuals.length : Int) else 0] ]
      let filled : State := { s with mon := { m with
        snapState := .filling, snapFn := run.fn, snapContent := header ++ slopes ++ residuals ++ codes } }
      let fires := fun applied : Bool => m.snapState = .armed ∧ (m.snapTrigger = .next
        ∨ (m.snapTrigger = .onHold ∧ m.onsetSeen = true)
        ∨ (m.snapTrigger = .onSaturation ∧ applied = true ∧ m.snapThreshold ≤ s.law.satCount))
      (∀ applied, fires applied → s.testSnapshot run applied = filled)
      ∧ (∀ applied, ¬ fires applied → s.testSnapshot run applied = s)
      ∧ (∀ k : Cycle, s.law.inProgress = some run → (run.mode ≠ .normal ∨ run.superseded = true) → fires false →
          s.cyc.cycles = [k] → k.bank = run.bank → s.law.deferred = none → s.cyc.reoffer = false →
          (∀ i, (s.sensor i).queue = []) → s.recon.inFlight = none → s.recon.queue = [] → s.mem.arbiter.waiting = [] →
          exec .lawCompletion s = .next { filled with
            law := { s.law with inProgress := none, residual := run.residual, lastQ := run.q }
            cyc := { s.cyc with cycles := [] } })
      ∧ s.markOnset = (if m.snapState = .armed ∧ m.snapTrigger = .onHold then { s with mon := { m with onsetSeen := true } }
          else s))
  ∧ (∀ s : State, s.quiet = true → s.loop.state = .closed → s.effectiveHold = false →
      (s.loop.params.timing = .atBoundary ∨ s.law.inProgress = none) →
      let marked := if s.mon.snapState = .armed ∧ s.mon.snapTrigger = .onHold then { s.mon with onsetSeen := true } else s.mon
      let held := fun (l : LoopSupervisor) =>
        (({ s with loop := { l with state := .held }, mon := marked } : State).raise .loopState).raise .holdChange
      (s.loop.params.exclusivity = .shared → exec (.holdnChange true) s = .next (held { s.loop with holdnLow := true }))
      ∧ (s.hears .loopHold [] = true →
          exec .loopHold s = .next ((held { s.loop with command := true }).reply .done [])))

/-- MON.SELECT and the monitor lines (R179, R180): a line above 1 or a value of no choice is BAD_VALUE; otherwise that line's
selection is replaced; each line is high exactly when its source is active, or, with ACTIVE_LOW, when it is not; DEV.CLEAR
keeps both selections. -/
def Obligations.MonitorLines : Prop :=
  ∀ s : State,
    let active := fun source : MonSource => match source with
      | .loopClosed => s.loop.state = .closed
      | .loopHeld => s.loop.state = .held
      | .loopSafe => s.loop.state = .safe
      | .cycleOpen => ∃ k ∈ s.cyc.cycles, k.state = .accumulating
      | .lawActive => s.law.inProgress ≠ none
      | .sensorLost => ∃ i, (s.sensor i).mode = .lost
      | .saturated => 0 < s.law.satCount
      | .driveBusy => ∃ d, (s.driveLink d).state = .busy
      | .deadlineClose => s.mon.deadlineClose = true
      | .snapFull => s.mon.snapState = .full
      | .calRunning => s.cal.running = true
      | .notify => s.ntfnLow = true
    let code := fun source : MonSource => match source with
      | .loopClosed => 0 | .loopHeld => 1 | .loopSafe => 2 | .cycleOpen => 3 | .lawActive => 4 | .sensorLost => 5
      | .saturated => 6 | .driveBusy => 7 | .deadlineClose => 8 | .snapFull => 9 | .calRunning => 10 | .notify => 11
    (s.mon0High = true ↔ if s.mon.line0.activeHigh = true then active s.mon.line0.source else ¬ active s.mon.line0.source)
    ∧ (s.mon1High = true ↔ if s.mon.line1.activeHigh = true then active s.mon.line1.source
        else ¬ active s.mon.line1.source)
    ∧ (∀ line source polarity : Nat, line < 65536 → source < 65536 → polarity < 65536 →
        s.hears .monSelect (u16s [line, source, polarity]) = true →
        (2 ≤ line ∨ 12 ≤ source ∨ 2 ≤ polarity → exec .monSelect s = .next (s.refuse .badValue))
        ∧ (∀ x : MonSource, source = code x → polarity < 2 →
            let chosen : MonLine := { source := x, activeHigh := decide (polarity = 0) }
            (line = 0 → exec .monSelect s = .next (({ s with mon := { s.mon with line0 := chosen } } : State).reply .done []))
            ∧ (line = 1 →
                exec .monSelect s = .next (({ s with mon := { s.mon with line1 := chosen } } : State).reply .done []))))
    ∧ (∀ t, exec .devClear s = .next t → t.mon.line0 = s.mon.line0 ∧ t.mon.line1 = s.mon.line1)

/-! ## Control link, messages and notices (10) -/

/-- A command frame as the host sends it, with any name, tag and payload up to 8,192 bytes, is received whole by a hunting
receiver (Table 10.9, R181, R182, R195): it begins execution at once, or joins the queue, or is answered QUEUE_FULL, or, with
seven such replies held, is dropped and counted. -/
def Obligations.CommandFrameIsReceived : Prop :=
  ∀ (s : State) (name : List Byte) (tag : Word) (payload : List Byte) (saw : Bool),
    name.length = 12 → payload.length ≤ 8192 → s.link.receiver = .hunting saw →
    let arrives := exec (.commandFrameReceived (commandFrameBytes name tag payload)) s
    let frame : CommandFrame := { name := name, tag := tag, payload := payload }
    let l := { s.link with receiver := .hunting false }
    let held := s.link.transmitter.countP fun r => decide (r.status = .queueFull)
    let replying := ∃ r ∈ s.link.transmitter, r.status ≠ .queueFull
    (s.link.queue = [] → s.link.executing = none → ¬ replying →
        arrives = .next { s with link := { l with
          executing := some { frame := frame, noReply := false, progress := .taken } } })
    ∧ (s.link.queue.length < 4 → (s.link.executing ≠ none ∨ replying) →
        arrives = .next { s with link := { l with queue := s.link.queue ++ [frame] } })
    ∧ (4 ≤ s.link.queue.length → held < 7 →
        arrives = .next { s with link := { l with transmitter := s.link.transmitter ++
          [{ name := name, tag := tag, status := .queueFull, data := [] }] } })
    ∧ (4 ≤ s.link.queue.length → 7 ≤ held →
        arrives = .next (({ s with link := { l with dropped := counterInc s.link.dropped } } : State).raise .linkError))

/-- Bad command frames and breaks (R181, R186): a frame whose CRC-32 does not match, a length above 8,192 and a frame cut by a
short break are each counted with LINK_ERROR raised and leave the receiver hunting; a link clear empties queue and transmitter
and marks the command in execution, which then completes without a reply; in the break nothing is received.

Execution and replies (R183, R185, R196, Table 10.9): the reply at the front is sent with its layout and leaves the
transmitter, and the next frame of the queue begins only when no command is in execution and no command's reply is left; a name
that matches none is answered UNKNOWN and changes nothing else. -/
def Obligations.ControlLinkEvents : Prop :=
  (∀ s : State,
      let bad := ({ s with link := { s.link with receiver := .hunting false, dropped := counterInc s.link.dropped } } : State).raise
        .linkError
      (∀ (saw : Bool) (name payload : List Byte) (tag crc : Word), s.link.receiver = .hunting saw → name.length = 12 →
        payload.length ≤ 8192 →
        let body := beBytes 2 payload.length ++ name ++ beBytes 4 tag.toNat ++ payload
        crc ≠ crc32 body →
        exec (.commandFrameReceived ([0xC3#8, 0x5D#8] ++ body ++ beBytes 4 crc.toNat)) s = .next bad)
      ∧ (∀ (saw : Bool) (n : Half), s.link.receiver = .hunting saw →
          (8192 < n.toNat → exec (.commandLengthAboveLimit n) s = .next bad)
          ∧ (n.toNat ≤ 8192 → exec (.commandLengthAboveLimit n) s
              = .next { s with link := { s.link with receiver := .receiving (beBytes 2 n.toNat) } }))
      ∧ (∀ got, s.link.receiver = .receiving got → exec .shortBreak s = .next bad)
      ∧ (∀ saw, s.link.receiver = .hunting saw →
          exec .shortBreak s = .next { s with link := { s.link with receiver := .hunting false } })
      ∧ exec .linkClear s = .next { s with link := { s.link with
          receiver := .inBreak, queue := [], transmitter := []
          executing := s.link.executing.map fun c => { c with noReply := true } } }
      ∧ (s.link.receiver = .inBreak → ∀ bytes,
          exec (.commandFrameReceived bytes) s = .next s
          ∧ exec .lineLeavesBreak s = .next { s with link := { s.link with receiver := .hunting false } })
      ∧ (∀ c p f, s.link.executing = some c → c.noReply = true → s.link.transmitter = [] → s.hears .peakArm p = true →
          p = [] → s.link.queue = [f] → exec .peakArm s = .next { s with
            mon := { s.mon with peakArmed := true, peakFn := none, peaks := [] }
            link := { s.link with queue := [], executing := some { frame := f, noReply := false, progress := .taken } } }))
  ∧ (∀ s : State,
      (∀ (r : Reply) (rest : List Reply), s.link.transmitter = r :: rest →
        let data := r.data.flatMap fieldBytes
        let body := beBytes 2 data.length ++ r.name ++ beBytes 4 r.tag.toNat ++ [BitVec.ofNat 8 (statusCode r.status)] ++ data
        let sent := { s.link with transmitter := rest, lastSent := [0xC3#8, 0x5D#8] ++ body ++ beBytes 4 (crc32 body).toNat }
        let more := ∃ q ∈ rest, q.status ≠ .queueFull
        (∀ f q, s.link.executing = none → ¬ more → s.link.queue = f :: q →
          exec .replySent s = .next { s with link := { sent with
            queue := q, executing := some { frame := f, noReply := false, progress := .taken } } })
        ∧ (s.link.executing ≠ none ∨ more ∨ s.link.queue = [] → exec .replySent s = .next { s with link := sent }))
      ∧ (∀ (c : Execution) (st : Status) (data : List Field), s.link.executing = some c → c.noReply = false →
          s.reply st data = { s with link := { s.link with
            executing := none
            transmitter := s.link.transmitter ++ [{ name := c.frame.name, tag := c.frame.tag, status := st, data := data }] } })
      ∧ (∀ c : Execution, s.link.executing = some c → c.progress = .taken → (∀ m, messageName m ≠ c.frame.name) →
          exec .unknownMessage s = .next (s.refuse .unknown)))

/-- The notify line and its messages (R187 to R190): NTFN is low exactly when a pending condition is unmasked; a raise makes its
condition pending and no other; NTC.MASK replaces the masks as a whole and answers with them and the pending conditions, BAD_VALUE
for a field above twelve places; NTC.POLL reports and clears every condition. -/
def Obligations.NotifyLine : Prop :=
  ∀ s : State,
    (s.ntfnLow = true ↔ ∃ n : Notice, s.isPending n = true ∧ s.link.masks.getLsbD (noticeIndex n) = false)
    ∧ (∀ n m : Notice, (s.raise n).isPending m = (decide (m = n) || s.isPending m))
    ∧ (∀ p, s.hears .ntcMask p = true → p.length ≠ 2 → exec .ntcMask s = .next (s.refuse .badForm))
    ∧ (∀ v, v < 65536 → s.hears .ntcMask (u16s [v]) = true →
        (4096 ≤ v → exec .ntcMask s = .next (s.refuse .badValue))
        ∧ (v < 4096 → ∃ t : State, exec .ntcMask s = .next (t.reply .done [.u16 v, .u16 s.link.notices.toNat])
            ∧ t = { s with link := { s.link with masks := BitVec.ofNat 12 v } }
            ∧ (t.ntfnLow = true ↔ ∃ n : Notice, s.isPending n = true ∧ v.testBit (noticeIndex n) = false)))
    ∧ (∀ p, s.hears .ntcPoll p = true → p ≠ [] → exec .ntcPoll s = .next (s.refuse .badForm))
    ∧ (s.hears .ntcPoll [] = true → exec .ntcPoll s
        = .next (({ s with link := { s.link with notices := 0 } } : State).reply .done
            [.u16 s.link.notices.toNat, .u16 s.link.masks.toNat]))

/-- DEV.IDENT (R191): BAD_FORM on a payload; otherwise DONE with the five values, in every state, and no change. That each value
is a 16-bit field is the model's choice (DESIGN CHOICE, log 18). -/
def Obligations.DeviceIdentity : Prop :=
  ∀ s : State,
    (∀ p, s.hears .devIdent p = true → p ≠ [] → exec .devIdent s = .next (s.refuse .badForm))
    ∧ (s.hears .devIdent [] = true →
        exec .devIdent s = .next (s.reply .done [.u16 2213, .u16 7116, .u16 3, .u16 8192, .u16 12]))

/-- DEV.CLEAR (R192, R27, R53, R88, R114, R134, R161, R178, R193): IDLE with the latches clear, no cycle, no job but an orphan,
no saved contribution, no run, every enabled sensor ACQUIRING, the rest vector committed, the saturation flags and the law
figures clear, the captures empty, no condition pending; the last Q, the residuals and the counters stay, and what the host has
set, but for the selection. -/
def Obligations.DeviceClearLeavesRest : Prop :=
  ∀ s : State, s.hears .devClear [] = true → s.quiet = true → ∃ t : State,
    exec .devClear s = .next (t.reply .done [])
    ∧ t.loop = { s.loop with state := .idle, command := false, diverge := false, runCount := 0, inband := false }
    ∧ t.cyc = { s.cyc with
        cycles := [], lastClosed := none, lastOpened := none, lastSet := none, selection := .auto, degraded := false
        pendingSubs := Vector.replicate 6 0 }
    ∧ t.recon = { s.recon with
        queue := [], bankA := List.replicate 3072 0, bankB := List.replicate 3072 0
        inFlight := s.recon.inFlight.map fun f => { f with orphan := true }
        saved := s.recon.saved.map fun x => { x with valid := false } }
    ∧ (∀ i, t.sensor i = { s.sensor i with
        mode := if (s.sensor i).mode = .disabled then .disabled else .acquiring
        queue := [], acquire := 0, missCount := 0, staleRun := 0, copy := none, commitPending := false
        flags := { shutter := false, holdreq := false, fx := false } })
    ∧ t.cal.running = false ∧ t.cal.records = [] ∧ t.cal.tallies = [] ∧ t.cal.pokeList = s.cal.pokeList
    ∧ t.cal.endReason = (if s.cal.running then some .cleared else s.cal.endReason)
    ∧ (∀ i, i < s.mem.nAct → vget t.law.z i = if (s.act i).mode = .dead then 0
        else 256 * if 0 < (s.act i).lo then (s.act i).lo else if (s.act i).hi < 0 then (s.act i).hi else 0)
    ∧ t.law.inProgress = none ∧ t.law.lastApplied = none ∧ t.law.idlePokes = [] ∧ t.law.calPoke = none
    ∧ (∀ i, t.law.satFlags.getD i false = false) ∧ t.law.satCount = 0 ∧ t.law.adjustments = 0 ∧ t.law.violations = 0
    ∧ t.law.actuators = s.law.actuators ∧ t.law.neighbours = s.law.neighbours ∧ t.law.lastQ = s.law.lastQ
    ∧ t.law.residual = s.law.residual ∧ t.law.lawsApplied = s.law.lawsApplied ∧ t.law.adjustTotal = s.law.adjustTotal
    ∧ t.law.violationTotal = s.law.violationTotal
    ∧ t.law.committed = (List.range s.mem.nAct).map t.codeOf
    ∧ (∀ d, t.driveLink d = linkCommit s.drive.tAck d (linkCodes t.law.committed s.mem.nAct d) (s.driveLink d))
    ∧ t.mon = { s.mon with
        bufA := Vector.replicate 6 none, bufB := Vector.replicate 6 none, peakArmed := false, peakFn := none, peaks := []
        snapState := .empty, onsetSeen := false, snapContent := [], deadlineClose := false }
    ∧ t.link = { s.link with notices := 0 }
    ∧ t.mem.dram = s.mem.dram ∧ t.mem.sets = s.mem.sets ∧ t.mem.nAct = s.mem.nAct

/-! ## Reports of every block -/

/-- SNS.STATUS, SNS.EXCL.LIST and REF.READ answer DONE with what R24, R14 and R13 name and change nothing else; a role of no
page and a range beyond 2,048 entries are BAD_VALUE (the order and the widths are the model's, log 18). That REF.READ takes a
count of 0, which gives no entry, is the model's reading (DEDUCED, log 21).

SET.STATUS and DEG.READ answer DONE with what R61 and R64 name and change nothing else; a range beyond 64 entries is
BAD_VALUE (the order and the widths are the model's, log 18).

ACT.READ and NBR.READ (R110, R112): a range beyond the table is BAD_VALUE, a reply above 8,192 bytes BAD_FORM, NBR.READ is
refused outside IDLE and OPEN; otherwise DONE with what the rules name, and nothing else changes (the order and the widths are
the model's, log 18). Which refusal comes first, NBR.READ's WRONG_STATE before its range and size and ACT.READ's range before its
size, is the model's choice as well (DESIGN CHOICE, log 20). -/
def Obligations.TableReportsGiveTheTables : Prop :=
  (∀ (s : State) (i : Fin 6),
      let x := s.sensor i
      (s.hears .snsStatus (u16s [i.val]) = true → exec .snsStatus s = .next (s.reply .done (List.flatten
        [ [.u16 (modeCode x.mode), .u16 x.config.nSub, .u16 (policyCode x.config.policy), .u32 x.config.kMiss,
            .u32 x.config.aGood, .u32 x.config.nStale, .u32 x.config.hMax, .u16 (fxCode x.config.fx)],
          [.u16 x.acquire, .u16 x.missCount, .u16 x.staleRun, .u16 x.queue.length],
          x.queue.map fun f => .u16 f.fn.toNat,
          [.u16 x.activePage.val, .u16 (boolCode x.commitPending), .u16 (boolCode x.flags.shutter),
            .u16 (boolCode x.flags.holdreq), .u16 (boolCode x.flags.fx), .u16 x.exclusion.length] ])))
      ∧ (s.hears .snsExclList (u16s [i.val]) = true → exec .snsExclList s = .next (s.reply .done (
          .u16 x.exclusion.length :: x.exclusion.map Field.u16)))
      ∧ (∀ role first count : Nat, role < 65536 → first < 65536 → count < 65536 →
          s.hears .refRead (u16s [i.val, role, first, count]) = true →
          let page := if role = 0 then x.activePage else if x.activePage = 0 then 1 else 0
          (2 ≤ role ∨ 2048 < first + count → exec .refRead s = .next (s.refuse .badValue))
          ∧ (role < 2 → first + count ≤ 2048 → exec .refRead s = .next (s.reply .done (
              ((List.range count).map fun j => .s16 (vget x.pages[page] (first + j)))
                ++ [.u16 page.val, .u16 (boolCode x.commitPending)])))))
  ∧ (∀ s : State,
      let index := (allSensors.map fun i => if (s.sensor i).mode = .active then 2 ^ i.val else 0).sum
      let entry := fun j : Nat => ((s.cyc.degTable[j]?).getD none : SetId)
      (∀ n : Fin 4, s.hears .setStatus (u16s [n.val]) = true →
        let r := s.setRec n
        exec .setStatus s = .next (s.reply .done (List.flatten
          [ [.u16 (setStateCode r.state), .u16 r.participation.length],
            (r.participation.map fun e => [Field.u16 e.1.val, .u16 e.2]).flatten,
            [.u32 r.shift, .u32 r.rowsLoaded, .u32 r.rowsRequired],
            (r.participation.map fun e =>
              Field.u32 (r.marks[e.1]).length :: (match (List.range s.mem.nAct).find? fun a => decide (a ∉ r.marks[e.1]) with
                | none => [.u16 0, .u16 0]
                | some a => [.u16 1, .u16 a])).flatten,
            [.u16 (s.cyc.cycles.countP fun k => decide (k.set = some n)),
              .u16 (boolCode (decide (s.cyc.selection = .fixed n))), .u16 (boolCode (decide (entry index = some n))),
              .u32 r.errCount],
            match r.errLoc with | none => [.u16 0, .u16 0, .u16 0] | some e => [.u16 1, .u16 e.1.val, .u16 e.2] ])))
      ∧ (∀ first count : Nat, first < 65536 → 1 ≤ count → count ≤ 64 → s.hears .degRead (u16s [first, count]) = true →
        (64 < first + count → exec .degRead s = .next (s.refuse .badValue))
        ∧ (first + count ≤ 64 → exec .degRead s = .next (s.reply .done
            (((List.range count).map fun j => Field.u16 (match entry (first + j) with | some n => n.val | none => 4))
              ++ [.u16 index, .u16 (boolCode s.cyc.degraded)])))))
  ∧ (∀ (s : State) (first count : Nat), first < 65536 → 1 ≤ count → count < 65536 →
      (s.hears .actRead (u16s [first, count]) = true →
        (s.mem.nAct < first + count → exec .actRead s = .next (s.refuse .badValue))
        ∧ (first + count ≤ s.mem.nAct → 8192 < 22 * count → exec .actRead s = .next (s.refuse .badForm))
        ∧ (first + count ≤ s.mem.nAct → 22 * count ≤ 8192 → exec .actRead s = .next (s.reply .done
            ((List.range count).flatMap fun j =>
              [.s16 (s.act (first + j)).lo, .s16 (s.act (first + j)).hi, .s16 (s.act (first + j)).flat,
                .u16 (s.act (first + j)).gain, .u16 (actModeCode (s.act (first + j)).mode), .s32 (vget s.law.z (first + j)),
                .u16 (vget s.law.committed (first + j)).toNat, .u16 (boolCode (s.law.satFlags.getD (first + j) false)),
                .u16 (boolCode (s.law.idlePokes.any fun e => decide (e.1 = first + j))),
                .s16 (((s.law.idlePokes.find? fun e => decide (e.1 = first + j)).map Prod.snd).getD 0)]))))
      ∧ (s.hears .nbrRead (u16s [first, count]) = true →
        let edits := s.loop.state = .idle ∨ s.loop.state = .opened
        (¬ edits → exec .nbrRead s = .next (s.refuse .wrongState))
        ∧ (edits → s.law.neighbours.length < first + count → exec .nbrRead s = .next (s.refuse .badValue))
        ∧ (edits → first + count ≤ s.law.neighbours.length → 8192 < 2 + 4 * count →
            exec .nbrRead s = .next (s.refuse .badForm))
        ∧ (edits → first + count ≤ s.law.neighbours.length → 2 + 4 * count ≤ 8192 → exec .nbrRead s = .next (s.reply .done
            (.u16 s.law.neighbours.length :: (List.range count).flatMap fun j =>
              [.u16 (s.law.neighbours.getD (first + j) (0, 0)).1, .u16 (s.law.neighbours.getD (first + j) (0, 0)).2])))))

/-- CYC.STATUS answers DONE with what R52 names and changes nothing but the count of free values; the time it shows for a
running timer is a free value, at most the one the timer was started with (logs 5, 18).

LOOP.STATUS answers DONE with what R133 names and changes nothing else (the order and the widths are the model's, log 18, and
so is the place of the two latches after the five sources).

DRV.STATUS answers DONE with what R147 names and changes nothing but the count of free values; the time it shows for a
running timer is a free value, at most the one the timer was started with (logs 5, 18).

CAL.STATUS answers DONE with what R163 names and changes nothing else (the order and the widths are the model's, log 18).

STAT.READ answers DONE with every item of R167 in its order and changes nothing else. -/
def Obligations.StatusReportsGiveTheState : Prop :=
  (∀ s : State, s.hears .cycStatus [] = true → ∃ left : Bank → Nat,
      let record (k : Cycle) : List Field := List.flatten
        [ [.u16 k.fn.toNat, .u16 (bankCode k.bank), .u16 (cycleCode k.state), .u16 (setCode k.set)],
          allSensors.map fun i => .u16 k.binding[i].val,
          [.u16 (sensorMask k.expected), .u16 (sensorMask k.presence)],
          allSensors.map fun i => .u16 (settlementCode k.settlement[i]),
          allSensors.map fun i => .u16 (boolCode k.settlement[i].isExcused),
          [.u16 (boolCode k.calMark)],
          match k.closeReason with | none => [.u16 0, .u16 0] | some r => [.u16 1, .u16 (closeCode r)],
          match k.deadline with | none => [.u16 0, .u32 0] | some d => [.u16 1, .u32 (min d (left k.bank))],
          [.u16 k.outstanding, .u16 (boolCode k.abandoned)] ]
      let marked (f : Option Half) : List Field := match f with | none => [.u16 0, .u16 0] | some f => [.u16 1, .u16 f.toNat]
      exec .cycStatus s = .next (({ s with freeCount := s.freeCount + 2 } : State).reply .done (List.flatten
        [ [.u16 s.cyc.cycles.length],
          (s.cyc.cycles.map record).flatten,
          marked s.cyc.lastClosed,
          marked s.cyc.lastOpened,
          match s.cyc.lastSet with | none => [.u16 0, .u16 0] | some n => [.u16 1, .u16 (setCode n)],
          [.u32 s.cyc.tDl],
          match s.cyc.selection with | .auto => [.u16 0, .u16 0] | .fixed n => [.u16 1, .u16 n.val],
          [.u16 (boolCode s.cyc.degraded), .u16 (boolCode (s.cycleAt .bankA).isNone),
            .u16 (boolCode (s.cycleAt .bankB).isNone)],
          allSensors.map fun i => .u16 s.cyc.pendingSubs[i] ])))
  ∧ (∀ s : State, s.hears .loopStatus [] = true →
      let shared := decide (s.loop.params.exclusivity = .shared)
      let yes (b : Bool) : Field := .u16 (boolCode b)
      let q := s.loop.params
      exec .loopStatus s = .next (s.reply .done (List.flatten
        [ [.u16 (loopCode s.loop.state)],
          [yes s.loop.command, yes true, yes s.loop.holdnLow, yes shared, yes s.loop.inband, yes shared],
          [yes s.cyc.degraded, yes true, yes s.loop.diverge, yes true],
          [yes s.loop.command, yes s.loop.diverge],
          [yes (s.loop.command || s.cyc.degraded || s.loop.diverge || (shared && (s.loop.holdnLow || s.loop.inband))),
            .u16 s.loop.runCount, .u64 s.law.lastQ],
          match s.law.lastApplied with | none => [.u16 0, .u16 0] | some f => [.u16 1, .u16 f.toNat],
          match s.cyc.lastSet with | none => [.u16 0, .u16 0] | some n => [.u16 1, .u16 (setCode n)],
          match s.law.inProgress with
            | none => [.u16 0, .u16 0, .u16 0]
            | some run => [.u16 1, .u16 run.fn.toNat, .u16 (lawModeCode run.mode)],
          [.u32 q.gGlob, .u32 q.leak, .u16 (gainSourceCode q.gainSource), .u32 q.dMax, .u16 (timingCode q.timing),
            .u16 (exclusivityCode q.exclusivity), .u16 (gateCode q.flagGate), .u32 q.rDiv, .u32 q.nDiv] ])))
  ∧ (∀ s : State, s.hears .drvStatus [] = true → ∃ left : Fin 4 → Nat,
      let report (d : Fin 4) : List Field :=
        let l := s.driveLink d
        List.flatten
          [ [.u16 (linkCode l.state), .u16 (768 * d.val), .u16 (min 768 (s.mem.nAct - 768 * d.val)), .u16 l.seq.toNat],
            match l.lastAccepted with | none => [.u16 0, .u16 0] | some a => [.u16 1, .u16 a.toNat],
            [.u16 (boolCode l.waiting), .u16 (boolCode l.upToDate), .u16 l.failCount],
            match l.timer with | none => [.u16 0, .u32 0] | some a => [.u16 1, .u32 (min a (left d))] ]
      exec .drvStatus s = .next (({ s with freeCount := s.freeCount + 4 } : State).reply .done
        ([.u32 s.drive.tAck, .u32 s.drive.fMax] ++ List.flatten [report 0, report 1, report 2, report 3])))
  ∧ (∀ s : State, s.hears .calStatus [] = true →
      let c := s.cal
      let opt (v : Option Int) : List Field := match v with | none => [.u16 0, .s16 0] | some x => [.u16 1, .s16 x]
      exec .calStatus s = .next (s.reply .done (List.flatten
        [ [.u16 (boolCode c.running)],
          match c.endReason with | none => [.u16 0, .u16 0] | some r => [.u16 1, .u16 (endCode r)],
          [.u32 c.nS, .u32 c.nM, .u16 c.sensors.length],
          c.sensors.flatMap fun e => [.u16 e.1.val, .u16 e.2],
          [.u16 c.pokeList.length],
          if c.running then [.u16 c.entry, .u16 (match c.phase with | some p => phaseCode p | none => 0), .u16 c.settle,
            .u16 c.measure, .u16 c.voids] else [],
          [.u16 c.records.length, .u16 (c.records.countP fun r => r.complete)],
          c.records.flatMap fun r => List.flatten
            [ [.u16 (boolCode r.complete), .u16 r.actuator, .u16 r.amplitude], opt r.pushOut, opt r.pullOut,
              [.u16 r.voidsPush, .u16 r.voidsPull, .u16 r.restartsPush, .u16 r.restartsPull] ] ])))
  ∧ (∀ s : State, s.hears .statRead [] = true →
      let perSensor := fun i : Fin 6 =>
        let c := (s.sensor i).counters
        let x := s.savedOf i
        List.flatten
          [ [Field.u32 c.taken, .u32 c.contentErrors, .u32 c.syntaxErrors, .u32 c.ignored, .u32 c.lostFrames,
              .u32 c.noMeasurement],
            [.u32 c.saturatedCorrection, .u32 c.misses, .u32 c.excusedMisses, .u32 c.staleDeclarations, .u32 c.late,
              .u32 c.duplicate],
            [.u32 (s.sensor i).meanSquare, .u16 (boolCode x.valid), .u16 x.setTag.val, .u16 x.fnTag.toNat, .u16 x.useCount] ]
      let perLink := fun d : Fin 4 =>
        let l := s.driveLink d
        [Field.u32 l.frames, .u32 l.failures, .u32 l.late, .u32 l.superseded]
      exec .statRead s = .next (s.reply .done (List.flatten
        [ perSensor 0, perSensor 1, perSensor 2, perSensor 3, perSensor 4, perSensor 5,
          [.u32 s.cyc.opened, .u32 s.cyc.closesComplete, .u32 s.cyc.closesSettled, .u32 s.cyc.closesDeadline,
            .u32 s.cyc.closesOverrun, .u32 s.cyc.skipped],
          [.u32 s.cyc.abandonedCount, .u32 s.mem.correctedErrors, .u32 s.mem.uncorrectableErrors, .u32 s.law.lawsApplied,
            .u32 s.law.adjustTotal, .u32 s.law.violationTotal],
          [.u32 s.law.satCount, .u32 s.law.adjustments, .u32 s.law.violations, .u64 s.law.lastQ],
          perLink 0, perLink 1, perLink 2, perLink 3,
          [.u32 s.link.dropped] ])))
end

