-- ==== Sys2Proof/Laws/Memory.lean ====
section
/-! SUPPORT. The stacked DRAM (03 sections 3.1 and 3.6): a read after a write, and every memory operation keeps the canonical
form. -/

namespace Sys2Proof.Machine

/-! ## Canonical lists -/

theorem tableWf_cons {α : Type} [DecidableEq α] {d : α} {e : Nat × α} {t : List (Nat × α)} :
    tableWf d (e :: t) = true ↔ e.2 ≠ d ∧ (∀ x ∈ t, e.1 < x.1) ∧ tableWf d t = true := by
  simp [tableWf, and_assoc]

theorem tableGet_of_below {α : Type} (d : α) {t : List (Nat × α)} {a : Nat} (h : ∀ x ∈ t, a < x.1) : tableGet d t a = d := by
  induction t with
  | nil => rfl
  | cons e t ih =>
    have h0 := h e (by simp)
    have h1 : a ≠ e.1 := by omega
    simp [tableGet, h1, ih fun x hx => h x (by simp [hx])]

theorem tableSet_keys {α : Type} [DecidableEq α] (d : α) (t : List (Nat × α)) (a : Nat) (x : α) :
    ∀ y ∈ tableSet d t a x, y.1 = a ∨ y ∈ t := by
  induction t with
  | nil => intro y hy; by_cases h : x = d <;> simp_all [tableSet]
  | cons e t ih =>
    intro y hy
    simp only [tableSet] at hy
    split at hy
    · split at hy
      · exact .inr hy
      · rcases List.mem_cons.1 hy with rfl | hy
        · exact .inl rfl
        · exact .inr hy
    · split at hy
      · split at hy
        · exact .inr (by simp [hy])
        · rcases List.mem_cons.1 hy with rfl | hy
          · exact .inl rfl
          · exact .inr (by simp [hy])
      · rcases List.mem_cons.1 hy with rfl | hy
        · exact .inr (by simp)
        · rcases ih y hy with h | h
          · exact .inl h
          · exact .inr (by simp [h])

/-- A write keeps the canonical form. -/
theorem tableSet_wf {α : Type} [DecidableEq α] (d : α) (t : List (Nat × α)) (a : Nat) (x : α) (h : tableWf d t = true) :
    tableWf d (tableSet d t a x) = true := by
  induction t with
  | nil => by_cases hx : x = d <;> simp [tableSet, tableWf, hx]
  | cons e t ih =>
    obtain ⟨h1, h2, h3⟩ := tableWf_cons.1 h
    simp only [tableSet]
    split
    · next hlt =>
      split
      · exact h
      · next hx =>
        refine tableWf_cons.2 ⟨hx, fun y hy => ?_, h⟩
        rcases List.mem_cons.1 hy with rfl | hy
        · exact hlt
        · exact Nat.lt_trans hlt (h2 y hy)
    · split
      · next heq =>
        split
        · exact h3
        · next hx => exact tableWf_cons.2 ⟨hx, fun y hy => heq ▸ h2 y hy, h3⟩
      · next hge hne =>
        refine tableWf_cons.2 ⟨h1, fun y hy => ?_, ih h3⟩
        rcases tableSet_keys d t a x y hy with hk | hk
        · simp only [hk]; omega
        · exact h2 y hk

/-- A read after a write: the value at the key written, what stood there at every other. -/
theorem tableGet_tableSet {α : Type} [DecidableEq α] (d : α) (t : List (Nat × α)) (a b : Nat) (x : α) (h : tableWf d t = true) :
    tableGet d (tableSet d t a x) b = if b = a then x else tableGet d t b := by
  induction t with
  | nil => by_cases hx : x = d <;> by_cases hb : b = a <;> simp [tableSet, tableGet, hx, hb]
  | cons e t ih =>
    obtain ⟨_, h2, h3⟩ := tableWf_cons.1 h
    have hlow : ∀ c, c < e.1 → tableGet d (e :: t) c = d := fun c hc => tableGet_of_below d fun y hy => by
      rcases List.mem_cons.1 hy with rfl | hy
      · exact hc
      · exact Nat.lt_trans hc (h2 y hy)
    simp only [tableSet]
    split
    · next hlt =>
      split
      · next hx =>
        by_cases hb : b = a
        · subst hb
          exact (hlow b hlt).trans (by simp [hx])
        · simp [hb]
      · by_cases hb : b = a <;> simp [tableGet, hb]
    · split
      · next heq =>
        subst heq
        split
        · next hx =>
          by_cases hb : b = e.1
          · subst hb
            simp [tableGet_of_below d h2, hx]
          · simp [tableGet, hb]
        · by_cases hb : b = e.1 <;> simp [tableGet, hb]
      · next hge hne =>
        by_cases hb : b = e.1
        · subst hb
          have hc : e.1 ≠ a := fun hc => hne hc.symm
          simp [tableGet, hc]
        · simp [tableGet, hb, ih h3]

/-! ## Places -/

/-- A place reads what was written to it, and every other place as before. -/
theorem read_writePlace (d : Dram) (place p : Nat) (x : Half) (h : d.wf = true) :
    (d.writePlace place x).read p = if p = place then x else d.read p :=
  tableGet_tableSet 0 d.data place p x (by simp [Dram.wf] at h; exact h.1)

theorem writePlace_errors (d : Dram) (place : Nat) (x : Half) : (d.writePlace place x).errors = d.errors := rfl

theorem writePlace_wf (d : Dram) (place : Nat) (x : Half) (h : d.wf = true) : (d.writePlace place x).wf = true := by
  simp only [Dram.wf, Bool.and_eq_true] at h ⊢
  exact ⟨tableSet_wf 0 d.data place x h.1, h.2⟩

theorem writeRun_errors (d : Dram) (place : Nat) (values : List Int) : (d.writeRun place values).errors = d.errors := by
  induction values generalizing d place with
  | nil => rfl
  | cons x xs ih => simp [Dram.writeRun, ih, writePlace_errors]

theorem writeRun_wf (d : Dram) (place : Nat) (values : List Int) (h : d.wf = true) : (d.writeRun place values).wf = true := by
  induction values generalizing d place with
  | nil => exact h
  | cons x xs ih => exact ih _ _ (writePlace_wf d place _ h)

/-- Consecutive places read what was written to them, and every other place as before. -/
theorem read_writeRun (d : Dram) (place p : Nat) (values : List Int) (h : d.wf = true) :
    (d.writeRun place values).read p
      = if place ≤ p ∧ p < place + values.length then BitVec.ofInt 16 (vget values (p - place)) else d.read p := by
  induction values generalizing d place with
  | nil =>
    have h0 : ¬ (place ≤ p ∧ p < place + ([] : List Int).length) := by simp
    rw [Dram.writeRun, if_neg h0]
  | cons x xs ih =>
    rw [Dram.writeRun, ih _ _ (writePlace_wf d place _ h), read_writePlace d place p _ h]
    by_cases h1 : p = place
    · subst h1
      simp [vget]
    · by_cases h2 : place + 1 ≤ p ∧ p < place + 1 + xs.length
      · have h3 : place ≤ p ∧ p < place + (x :: xs).length := by simp; omega
        have h4 : p - place = (p - (place + 1)) + 1 := by omega
        simp only [h2, h3, and_self, if_true, h4, vget, List.getD_cons_succ]
      · have h3 : ¬ (place ≤ p ∧ p < place + (x :: xs).length) := by simp; omega
        simp only [h2, h3, h1, if_false]

/-! ## Error classes -/

theorem errorsWf_cons {e : Nat × WordError} {t : List (Nat × WordError)} :
    errorsWf (e :: t) = true ↔ (∀ x ∈ t, e.1 < x.1) ∧ errorsWf t = true := by
  simp [errorsWf]

theorem errorSet_keys (t : List (Nat × WordError)) (a : Nat) (x : WordError) : ∀ y ∈ errorSet t a x, y.1 = a ∨ y ∈ t := by
  induction t with
  | nil => simp [errorSet]
  | cons e t ih =>
    intro y hy
    simp only [errorSet] at hy
    split at hy
    · rcases List.mem_cons.1 hy with rfl | hy
      · exact .inl rfl
      · exact .inr hy
    · split at hy
      · rcases List.mem_cons.1 hy with rfl | hy
        · exact .inl rfl
        · exact .inr (by simp [hy])
      · rcases List.mem_cons.1 hy with rfl | hy
        · exact .inr (by simp)
        · rcases ih y hy with h | h
          · exact .inl h
          · exact .inr (by simp [h])

theorem errorSet_wf (t : List (Nat × WordError)) (a : Nat) (x : WordError) (h : errorsWf t = true) :
    errorsWf (errorSet t a x) = true := by
  induction t with
  | nil => rfl
  | cons e t ih =>
    obtain ⟨h1, h2⟩ := errorsWf_cons.1 h
    simp only [errorSet]
    split
    · next hlt =>
      refine errorsWf_cons.2 ⟨fun y hy => ?_, h⟩
      rcases List.mem_cons.1 hy with rfl | hy
      · exact hlt
      · exact Nat.lt_trans hlt (h1 y hy)
    · split
      · next heq => exact errorsWf_cons.2 ⟨fun y hy => heq ▸ h1 y hy, h2⟩
      · next hge hne =>
        refine errorsWf_cons.2 ⟨fun y hy => ?_, ih h2⟩
        rcases errorSet_keys t a x y hy with hk | hk
        · simp only [hk]; omega
        · exact h1 y hk

theorem tableErase_errorsWf (t : List (Nat × WordError)) (keep : Nat → Bool) (h : errorsWf t = true) :
    errorsWf (tableErase t keep) = true := by
  induction t with
  | nil => rfl
  | cons e t ih =>
    obtain ⟨h1, h2⟩ := errorsWf_cons.1 h
    by_cases hk : keep e.1 = true
    · simp only [tableErase, List.filter_cons, hk, if_true]
      exact errorsWf_cons.2 ⟨fun y hy => h1 y (List.mem_filter.1 hy).1, ih h2⟩
    · simp only [tableErase, List.filter_cons, hk]
      exact ih h2

/-! ## The memory operations keep the canonical form -/

theorem writeSlot_wf (d : Dram) (slot : Nat) (values : List Int) (h : d.wf = true) : (d.writeSlot slot values).wf = true := by
  have h' := writeRun_wf d slot (padded values) h
  simp only [Dram.wf, Bool.and_eq_true] at h h' ⊢
  exact ⟨h'.1, tableErase_errorsWf d.errors
    (fun w => decide (w < wordOf slot) || decide (wordOf slot + wordsOf values.length ≤ w)) h.2⟩

theorem upset_data (d : Dram) (slot : Nat) (us : List Upset) : (d.upset slot us).data = d.data := by
  induction us generalizing d with
  | nil => rfl
  | cons u us ih =>
    rw [Dram.upset]
    split <;> rw [ih]

theorem upset_wf (d : Dram) (slot : Nat) (us : List Upset) (h : d.wf = true) : (d.upset slot us).wf = true := by
  induction us generalizing d with
  | nil => exact h
  | cons u us ih =>
    rw [Dram.upset]
    split
    · refine ih _ ?_
      simp only [Dram.wf, Bool.and_eq_true] at h ⊢
      exact ⟨h.1, errorSet_wf _ _ _ h.2⟩
    · exact ih _ h

theorem padded_length (values : List Int) : (padded values).length = 4 * wordsOf values.length := by
  simp [padded, wordsOf]; omega

/-- A slot written reads the values, 0 up to the end of the last word, and every other place as before. -/
theorem read_writeSlot (d : Dram) (slot p : Nat) (values : List Int) (h : d.wf = true) :
    (d.writeSlot slot values).read p
      = if slot ≤ p ∧ p < slot + 4 * wordsOf values.length then BitVec.ofInt 16 (vget (padded values) (p - slot))
        else d.read p := by
  have e : (d.writeSlot slot values).read p = (d.writeRun slot (padded values)).read p := rfl
  rw [e, read_writeRun d slot p _ h, padded_length]

/-- The memory after power-on reset has the canonical form. -/
theorem reset_dram_wf : State.reset.mem.dram.wf = true := rfl

end Sys2Proof.Machine
end

