-- ==== Sys2Proof/Laws/State.lean ====
section
/-! SUPPORT. One lemma for each field of State under each named update that leaves it as it was, and what the updates read
back, so that no proof unfolds a record update. -/

namespace Sys2Proof.Machine

/-! ## updSensor -/

@[simp] theorem State.updSensor_pending (s : State) (i : Fin 6) (f : Sensor → Sensor) : (s.updSensor i f).pending = s.pending := rfl
@[simp] theorem State.updSensor_cyc (s : State) (i : Fin 6) (f : Sensor → Sensor) : (s.updSensor i f).cyc = s.cyc := rfl
@[simp] theorem State.updSensor_mem (s : State) (i : Fin 6) (f : Sensor → Sensor) : (s.updSensor i f).mem = s.mem := rfl
@[simp] theorem State.updSensor_recon (s : State) (i : Fin 6) (f : Sensor → Sensor) : (s.updSensor i f).recon = s.recon := rfl
@[simp] theorem State.updSensor_law (s : State) (i : Fin 6) (f : Sensor → Sensor) : (s.updSensor i f).law = s.law := rfl
@[simp] theorem State.updSensor_loop (s : State) (i : Fin 6) (f : Sensor → Sensor) : (s.updSensor i f).loop = s.loop := rfl
@[simp] theorem State.updSensor_drive (s : State) (i : Fin 6) (f : Sensor → Sensor) : (s.updSensor i f).drive = s.drive := rfl
@[simp] theorem State.updSensor_cal (s : State) (i : Fin 6) (f : Sensor → Sensor) : (s.updSensor i f).cal = s.cal := rfl
@[simp] theorem State.updSensor_mon (s : State) (i : Fin 6) (f : Sensor → Sensor) : (s.updSensor i f).mon = s.mon := rfl
@[simp] theorem State.updSensor_link (s : State) (i : Fin 6) (f : Sensor → Sensor) : (s.updSensor i f).link = s.link := rfl
@[simp] theorem State.updSensor_freeCount (s : State) (i : Fin 6) (f : Sensor → Sensor) : (s.updSensor i f).freeCount = s.freeCount := rfl

/-! ## updCounters -/

@[simp] theorem State.updCounters_pending (s : State) (i : Fin 6) (f : SensorCounters → SensorCounters) : (s.updCounters i f).pending = s.pending := rfl
@[simp] theorem State.updCounters_cyc (s : State) (i : Fin 6) (f : SensorCounters → SensorCounters) : (s.updCounters i f).cyc = s.cyc := rfl
@[simp] theorem State.updCounters_mem (s : State) (i : Fin 6) (f : SensorCounters → SensorCounters) : (s.updCounters i f).mem = s.mem := rfl
@[simp] theorem State.updCounters_recon (s : State) (i : Fin 6) (f : SensorCounters → SensorCounters) : (s.updCounters i f).recon = s.recon := rfl
@[simp] theorem State.updCounters_law (s : State) (i : Fin 6) (f : SensorCounters → SensorCounters) : (s.updCounters i f).law = s.law := rfl
@[simp] theorem State.updCounters_loop (s : State) (i : Fin 6) (f : SensorCounters → SensorCounters) : (s.updCounters i f).loop = s.loop := rfl
@[simp] theorem State.updCounters_drive (s : State) (i : Fin 6) (f : SensorCounters → SensorCounters) : (s.updCounters i f).drive = s.drive := rfl
@[simp] theorem State.updCounters_cal (s : State) (i : Fin 6) (f : SensorCounters → SensorCounters) : (s.updCounters i f).cal = s.cal := rfl
@[simp] theorem State.updCounters_mon (s : State) (i : Fin 6) (f : SensorCounters → SensorCounters) : (s.updCounters i f).mon = s.mon := rfl
@[simp] theorem State.updCounters_link (s : State) (i : Fin 6) (f : SensorCounters → SensorCounters) : (s.updCounters i f).link = s.link := rfl
@[simp] theorem State.updCounters_freeCount (s : State) (i : Fin 6) (f : SensorCounters → SensorCounters) : (s.updCounters i f).freeCount = s.freeCount := rfl

/-! ## updCycle -/

@[simp] theorem State.updCycle_pending (s : State) (b : Bank) (f : Cycle → Cycle) : (s.updCycle b f).pending = s.pending := rfl
@[simp] theorem State.updCycle_intake (s : State) (b : Bank) (f : Cycle → Cycle) : (s.updCycle b f).intake = s.intake := rfl
@[simp] theorem State.updCycle_mem (s : State) (b : Bank) (f : Cycle → Cycle) : (s.updCycle b f).mem = s.mem := rfl
@[simp] theorem State.updCycle_recon (s : State) (b : Bank) (f : Cycle → Cycle) : (s.updCycle b f).recon = s.recon := rfl
@[simp] theorem State.updCycle_law (s : State) (b : Bank) (f : Cycle → Cycle) : (s.updCycle b f).law = s.law := rfl
@[simp] theorem State.updCycle_loop (s : State) (b : Bank) (f : Cycle → Cycle) : (s.updCycle b f).loop = s.loop := rfl
@[simp] theorem State.updCycle_drive (s : State) (b : Bank) (f : Cycle → Cycle) : (s.updCycle b f).drive = s.drive := rfl
@[simp] theorem State.updCycle_cal (s : State) (b : Bank) (f : Cycle → Cycle) : (s.updCycle b f).cal = s.cal := rfl
@[simp] theorem State.updCycle_mon (s : State) (b : Bank) (f : Cycle → Cycle) : (s.updCycle b f).mon = s.mon := rfl
@[simp] theorem State.updCycle_link (s : State) (b : Bank) (f : Cycle → Cycle) : (s.updCycle b f).link = s.link := rfl
@[simp] theorem State.updCycle_freeCount (s : State) (b : Bank) (f : Cycle → Cycle) : (s.updCycle b f).freeCount = s.freeCount := rfl

/-! ## setPendingSub -/

@[simp] theorem State.setPendingSub_pending (s : State) (i : Fin 6) (n : Nat) : (s.setPendingSub i n).pending = s.pending := rfl
@[simp] theorem State.setPendingSub_intake (s : State) (i : Fin 6) (n : Nat) : (s.setPendingSub i n).intake = s.intake := rfl
@[simp] theorem State.setPendingSub_mem (s : State) (i : Fin 6) (n : Nat) : (s.setPendingSub i n).mem = s.mem := rfl
@[simp] theorem State.setPendingSub_recon (s : State) (i : Fin 6) (n : Nat) : (s.setPendingSub i n).recon = s.recon := rfl
@[simp] theorem State.setPendingSub_law (s : State) (i : Fin 6) (n : Nat) : (s.setPendingSub i n).law = s.law := rfl
@[simp] theorem State.setPendingSub_loop (s : State) (i : Fin 6) (n : Nat) : (s.setPendingSub i n).loop = s.loop := rfl
@[simp] theorem State.setPendingSub_drive (s : State) (i : Fin 6) (n : Nat) : (s.setPendingSub i n).drive = s.drive := rfl
@[simp] theorem State.setPendingSub_cal (s : State) (i : Fin 6) (n : Nat) : (s.setPendingSub i n).cal = s.cal := rfl
@[simp] theorem State.setPendingSub_mon (s : State) (i : Fin 6) (n : Nat) : (s.setPendingSub i n).mon = s.mon := rfl
@[simp] theorem State.setPendingSub_link (s : State) (i : Fin 6) (n : Nat) : (s.setPendingSub i n).link = s.link := rfl
@[simp] theorem State.setPendingSub_freeCount (s : State) (i : Fin 6) (n : Nat) : (s.setPendingSub i n).freeCount = s.freeCount := rfl

/-! ## updSet -/

@[simp] theorem State.updSet_pending (s : State) (n : Fin 4) (f : SetRecord → SetRecord) : (s.updSet n f).pending = s.pending := rfl
@[simp] theorem State.updSet_intake (s : State) (n : Fin 4) (f : SetRecord → SetRecord) : (s.updSet n f).intake = s.intake := rfl
@[simp] theorem State.updSet_cyc (s : State) (n : Fin 4) (f : SetRecord → SetRecord) : (s.updSet n f).cyc = s.cyc := rfl
@[simp] theorem State.updSet_recon (s : State) (n : Fin 4) (f : SetRecord → SetRecord) : (s.updSet n f).recon = s.recon := rfl
@[simp] theorem State.updSet_law (s : State) (n : Fin 4) (f : SetRecord → SetRecord) : (s.updSet n f).law = s.law := rfl
@[simp] theorem State.updSet_loop (s : State) (n : Fin 4) (f : SetRecord → SetRecord) : (s.updSet n f).loop = s.loop := rfl
@[simp] theorem State.updSet_drive (s : State) (n : Fin 4) (f : SetRecord → SetRecord) : (s.updSet n f).drive = s.drive := rfl
@[simp] theorem State.updSet_cal (s : State) (n : Fin 4) (f : SetRecord → SetRecord) : (s.updSet n f).cal = s.cal := rfl
@[simp] theorem State.updSet_mon (s : State) (n : Fin 4) (f : SetRecord → SetRecord) : (s.updSet n f).mon = s.mon := rfl
@[simp] theorem State.updSet_link (s : State) (n : Fin 4) (f : SetRecord → SetRecord) : (s.updSet n f).link = s.link := rfl
@[simp] theorem State.updSet_freeCount (s : State) (n : Fin 4) (f : SetRecord → SetRecord) : (s.updSet n f).freeCount = s.freeCount := rfl

/-! ## setDram -/

@[simp] theorem State.setDram_pending (s : State) (d : Dram) : (s.setDram d).pending = s.pending := rfl
@[simp] theorem State.setDram_intake (s : State) (d : Dram) : (s.setDram d).intake = s.intake := rfl
@[simp] theorem State.setDram_cyc (s : State) (d : Dram) : (s.setDram d).cyc = s.cyc := rfl
@[simp] theorem State.setDram_recon (s : State) (d : Dram) : (s.setDram d).recon = s.recon := rfl
@[simp] theorem State.setDram_law (s : State) (d : Dram) : (s.setDram d).law = s.law := rfl
@[simp] theorem State.setDram_loop (s : State) (d : Dram) : (s.setDram d).loop = s.loop := rfl
@[simp] theorem State.setDram_drive (s : State) (d : Dram) : (s.setDram d).drive = s.drive := rfl
@[simp] theorem State.setDram_cal (s : State) (d : Dram) : (s.setDram d).cal = s.cal := rfl
@[simp] theorem State.setDram_mon (s : State) (d : Dram) : (s.setDram d).mon = s.mon := rfl
@[simp] theorem State.setDram_link (s : State) (d : Dram) : (s.setDram d).link = s.link := rfl
@[simp] theorem State.setDram_freeCount (s : State) (d : Dram) : (s.setDram d).freeCount = s.freeCount := rfl

/-! ## setArbiter -/

@[simp] theorem State.setArbiter_pending (s : State) (a : Arbiter) : (s.setArbiter a).pending = s.pending := rfl
@[simp] theorem State.setArbiter_intake (s : State) (a : Arbiter) : (s.setArbiter a).intake = s.intake := rfl
@[simp] theorem State.setArbiter_cyc (s : State) (a : Arbiter) : (s.setArbiter a).cyc = s.cyc := rfl
@[simp] theorem State.setArbiter_recon (s : State) (a : Arbiter) : (s.setArbiter a).recon = s.recon := rfl
@[simp] theorem State.setArbiter_law (s : State) (a : Arbiter) : (s.setArbiter a).law = s.law := rfl
@[simp] theorem State.setArbiter_loop (s : State) (a : Arbiter) : (s.setArbiter a).loop = s.loop := rfl
@[simp] theorem State.setArbiter_drive (s : State) (a : Arbiter) : (s.setArbiter a).drive = s.drive := rfl
@[simp] theorem State.setArbiter_cal (s : State) (a : Arbiter) : (s.setArbiter a).cal = s.cal := rfl
@[simp] theorem State.setArbiter_mon (s : State) (a : Arbiter) : (s.setArbiter a).mon = s.mon := rfl
@[simp] theorem State.setArbiter_link (s : State) (a : Arbiter) : (s.setArbiter a).link = s.link := rfl
@[simp] theorem State.setArbiter_freeCount (s : State) (a : Arbiter) : (s.setArbiter a).freeCount = s.freeCount := rfl

/-! ## setBank -/

@[simp] theorem State.setBank_pending (s : State) (b : Bank) (v : List Int) : (s.setBank b v).pending = s.pending := by cases b <;> rfl
@[simp] theorem State.setBank_intake (s : State) (b : Bank) (v : List Int) : (s.setBank b v).intake = s.intake := by cases b <;> rfl
@[simp] theorem State.setBank_cyc (s : State) (b : Bank) (v : List Int) : (s.setBank b v).cyc = s.cyc := by cases b <;> rfl
@[simp] theorem State.setBank_mem (s : State) (b : Bank) (v : List Int) : (s.setBank b v).mem = s.mem := by cases b <;> rfl
@[simp] theorem State.setBank_law (s : State) (b : Bank) (v : List Int) : (s.setBank b v).law = s.law := by cases b <;> rfl
@[simp] theorem State.setBank_loop (s : State) (b : Bank) (v : List Int) : (s.setBank b v).loop = s.loop := by cases b <;> rfl
@[simp] theorem State.setBank_drive (s : State) (b : Bank) (v : List Int) : (s.setBank b v).drive = s.drive := by cases b <;> rfl
@[simp] theorem State.setBank_cal (s : State) (b : Bank) (v : List Int) : (s.setBank b v).cal = s.cal := by cases b <;> rfl
@[simp] theorem State.setBank_mon (s : State) (b : Bank) (v : List Int) : (s.setBank b v).mon = s.mon := by cases b <;> rfl
@[simp] theorem State.setBank_link (s : State) (b : Bank) (v : List Int) : (s.setBank b v).link = s.link := by cases b <;> rfl
@[simp] theorem State.setBank_freeCount (s : State) (b : Bank) (v : List Int) : (s.setBank b v).freeCount = s.freeCount := by cases b <;> rfl

/-! ## updSaved -/

@[simp] theorem State.updSaved_pending (s : State) (i : Fin 6) (f : Saved → Saved) : (s.updSaved i f).pending = s.pending := rfl
@[simp] theorem State.updSaved_intake (s : State) (i : Fin 6) (f : Saved → Saved) : (s.updSaved i f).intake = s.intake := rfl
@[simp] theorem State.updSaved_cyc (s : State) (i : Fin 6) (f : Saved → Saved) : (s.updSaved i f).cyc = s.cyc := rfl
@[simp] theorem State.updSaved_mem (s : State) (i : Fin 6) (f : Saved → Saved) : (s.updSaved i f).mem = s.mem := rfl
@[simp] theorem State.updSaved_law (s : State) (i : Fin 6) (f : Saved → Saved) : (s.updSaved i f).law = s.law := rfl
@[simp] theorem State.updSaved_loop (s : State) (i : Fin 6) (f : Saved → Saved) : (s.updSaved i f).loop = s.loop := rfl
@[simp] theorem State.updSaved_drive (s : State) (i : Fin 6) (f : Saved → Saved) : (s.updSaved i f).drive = s.drive := rfl
@[simp] theorem State.updSaved_cal (s : State) (i : Fin 6) (f : Saved → Saved) : (s.updSaved i f).cal = s.cal := rfl
@[simp] theorem State.updSaved_mon (s : State) (i : Fin 6) (f : Saved → Saved) : (s.updSaved i f).mon = s.mon := rfl
@[simp] theorem State.updSaved_link (s : State) (i : Fin 6) (f : Saved → Saved) : (s.updSaved i f).link = s.link := rfl
@[simp] theorem State.updSaved_freeCount (s : State) (i : Fin 6) (f : Saved → Saved) : (s.updSaved i f).freeCount = s.freeCount := rfl

/-! ## invalidate -/

@[simp] theorem State.invalidate_pending (s : State) (i : Fin 6) : (s.invalidate i).pending = s.pending := rfl
@[simp] theorem State.invalidate_intake (s : State) (i : Fin 6) : (s.invalidate i).intake = s.intake := rfl
@[simp] theorem State.invalidate_cyc (s : State) (i : Fin 6) : (s.invalidate i).cyc = s.cyc := rfl
@[simp] theorem State.invalidate_mem (s : State) (i : Fin 6) : (s.invalidate i).mem = s.mem := rfl
@[simp] theorem State.invalidate_law (s : State) (i : Fin 6) : (s.invalidate i).law = s.law := rfl
@[simp] theorem State.invalidate_loop (s : State) (i : Fin 6) : (s.invalidate i).loop = s.loop := rfl
@[simp] theorem State.invalidate_drive (s : State) (i : Fin 6) : (s.invalidate i).drive = s.drive := rfl
@[simp] theorem State.invalidate_cal (s : State) (i : Fin 6) : (s.invalidate i).cal = s.cal := rfl
@[simp] theorem State.invalidate_mon (s : State) (i : Fin 6) : (s.invalidate i).mon = s.mon := rfl
@[simp] theorem State.invalidate_link (s : State) (i : Fin 6) : (s.invalidate i).link = s.link := rfl
@[simp] theorem State.invalidate_freeCount (s : State) (i : Fin 6) : (s.invalidate i).freeCount = s.freeCount := rfl

/-! ## invalidateAll -/

@[simp] theorem State.invalidateAll_pending (s : State) : (s.invalidateAll).pending = s.pending := rfl
@[simp] theorem State.invalidateAll_intake (s : State) : (s.invalidateAll).intake = s.intake := rfl
@[simp] theorem State.invalidateAll_cyc (s : State) : (s.invalidateAll).cyc = s.cyc := rfl
@[simp] theorem State.invalidateAll_mem (s : State) : (s.invalidateAll).mem = s.mem := rfl
@[simp] theorem State.invalidateAll_law (s : State) : (s.invalidateAll).law = s.law := rfl
@[simp] theorem State.invalidateAll_loop (s : State) : (s.invalidateAll).loop = s.loop := rfl
@[simp] theorem State.invalidateAll_drive (s : State) : (s.invalidateAll).drive = s.drive := rfl
@[simp] theorem State.invalidateAll_cal (s : State) : (s.invalidateAll).cal = s.cal := rfl
@[simp] theorem State.invalidateAll_mon (s : State) : (s.invalidateAll).mon = s.mon := rfl
@[simp] theorem State.invalidateAll_link (s : State) : (s.invalidateAll).link = s.link := rfl
@[simp] theorem State.invalidateAll_freeCount (s : State) : (s.invalidateAll).freeCount = s.freeCount := rfl

/-! ## updLink -/

@[simp] theorem State.updLink_pending (s : State) (d : Fin 4) (f : DriveLink → DriveLink) : (s.updLink d f).pending = s.pending := rfl
@[simp] theorem State.updLink_intake (s : State) (d : Fin 4) (f : DriveLink → DriveLink) : (s.updLink d f).intake = s.intake := rfl
@[simp] theorem State.updLink_cyc (s : State) (d : Fin 4) (f : DriveLink → DriveLink) : (s.updLink d f).cyc = s.cyc := rfl
@[simp] theorem State.updLink_mem (s : State) (d : Fin 4) (f : DriveLink → DriveLink) : (s.updLink d f).mem = s.mem := rfl
@[simp] theorem State.updLink_recon (s : State) (d : Fin 4) (f : DriveLink → DriveLink) : (s.updLink d f).recon = s.recon := rfl
@[simp] theorem State.updLink_law (s : State) (d : Fin 4) (f : DriveLink → DriveLink) : (s.updLink d f).law = s.law := rfl
@[simp] theorem State.updLink_loop (s : State) (d : Fin 4) (f : DriveLink → DriveLink) : (s.updLink d f).loop = s.loop := rfl
@[simp] theorem State.updLink_cal (s : State) (d : Fin 4) (f : DriveLink → DriveLink) : (s.updLink d f).cal = s.cal := rfl
@[simp] theorem State.updLink_mon (s : State) (d : Fin 4) (f : DriveLink → DriveLink) : (s.updLink d f).mon = s.mon := rfl
@[simp] theorem State.updLink_link (s : State) (d : Fin 4) (f : DriveLink → DriveLink) : (s.updLink d f).link = s.link := rfl
@[simp] theorem State.updLink_freeCount (s : State) (d : Fin 4) (f : DriveLink → DriveLink) : (s.updLink d f).freeCount = s.freeCount := rfl

/-! ## handToLinks -/

@[simp] theorem State.handToLinks_pending (s : State) : (s.handToLinks).pending = s.pending := rfl
@[simp] theorem State.handToLinks_intake (s : State) : (s.handToLinks).intake = s.intake := rfl
@[simp] theorem State.handToLinks_cyc (s : State) : (s.handToLinks).cyc = s.cyc := rfl
@[simp] theorem State.handToLinks_mem (s : State) : (s.handToLinks).mem = s.mem := rfl
@[simp] theorem State.handToLinks_recon (s : State) : (s.handToLinks).recon = s.recon := rfl
@[simp] theorem State.handToLinks_law (s : State) : (s.handToLinks).law = s.law := rfl
@[simp] theorem State.handToLinks_loop (s : State) : (s.handToLinks).loop = s.loop := rfl
@[simp] theorem State.handToLinks_cal (s : State) : (s.handToLinks).cal = s.cal := rfl
@[simp] theorem State.handToLinks_mon (s : State) : (s.handToLinks).mon = s.mon := rfl
@[simp] theorem State.handToLinks_link (s : State) : (s.handToLinks).link = s.link := rfl
@[simp] theorem State.handToLinks_freeCount (s : State) : (s.handToLinks).freeCount = s.freeCount := rfl

/-! ## setBuffer -/

@[simp] theorem State.setBuffer_pending (s : State) (b : Bank) (v : Vector (Option (List Int)) 6) : (s.setBuffer b v).pending = s.pending := by cases b <;> rfl
@[simp] theorem State.setBuffer_intake (s : State) (b : Bank) (v : Vector (Option (List Int)) 6) : (s.setBuffer b v).intake = s.intake := by cases b <;> rfl
@[simp] theorem State.setBuffer_cyc (s : State) (b : Bank) (v : Vector (Option (List Int)) 6) : (s.setBuffer b v).cyc = s.cyc := by cases b <;> rfl
@[simp] theorem State.setBuffer_mem (s : State) (b : Bank) (v : Vector (Option (List Int)) 6) : (s.setBuffer b v).mem = s.mem := by cases b <;> rfl
@[simp] theorem State.setBuffer_recon (s : State) (b : Bank) (v : Vector (Option (List Int)) 6) : (s.setBuffer b v).recon = s.recon := by cases b <;> rfl
@[simp] theorem State.setBuffer_law (s : State) (b : Bank) (v : Vector (Option (List Int)) 6) : (s.setBuffer b v).law = s.law := by cases b <;> rfl
@[simp] theorem State.setBuffer_loop (s : State) (b : Bank) (v : Vector (Option (List Int)) 6) : (s.setBuffer b v).loop = s.loop := by cases b <;> rfl
@[simp] theorem State.setBuffer_drive (s : State) (b : Bank) (v : Vector (Option (List Int)) 6) : (s.setBuffer b v).drive = s.drive := by cases b <;> rfl
@[simp] theorem State.setBuffer_cal (s : State) (b : Bank) (v : Vector (Option (List Int)) 6) : (s.setBuffer b v).cal = s.cal := by cases b <;> rfl
@[simp] theorem State.setBuffer_link (s : State) (b : Bank) (v : Vector (Option (List Int)) 6) : (s.setBuffer b v).link = s.link := by cases b <;> rfl
@[simp] theorem State.setBuffer_freeCount (s : State) (b : Bank) (v : Vector (Option (List Int)) 6) : (s.setBuffer b v).freeCount = s.freeCount := by cases b <;> rfl

/-! ## raise -/

@[simp] theorem State.raise_pending (s : State) (n : Notice) : (s.raise n).pending = s.pending := rfl
@[simp] theorem State.raise_intake (s : State) (n : Notice) : (s.raise n).intake = s.intake := rfl
@[simp] theorem State.raise_cyc (s : State) (n : Notice) : (s.raise n).cyc = s.cyc := rfl
@[simp] theorem State.raise_mem (s : State) (n : Notice) : (s.raise n).mem = s.mem := rfl
@[simp] theorem State.raise_recon (s : State) (n : Notice) : (s.raise n).recon = s.recon := rfl
@[simp] theorem State.raise_law (s : State) (n : Notice) : (s.raise n).law = s.law := rfl
@[simp] theorem State.raise_loop (s : State) (n : Notice) : (s.raise n).loop = s.loop := rfl
@[simp] theorem State.raise_drive (s : State) (n : Notice) : (s.raise n).drive = s.drive := rfl
@[simp] theorem State.raise_cal (s : State) (n : Notice) : (s.raise n).cal = s.cal := rfl
@[simp] theorem State.raise_mon (s : State) (n : Notice) : (s.raise n).mon = s.mon := rfl
@[simp] theorem State.raise_freeCount (s : State) (n : Notice) : (s.raise n).freeCount = s.freeCount := rfl

/-! ## reply -/

@[simp] theorem State.reply_pending (s : State) (st : Status) (data : List Field) : (s.reply st data).pending = s.pending := rfl
@[simp] theorem State.reply_intake (s : State) (st : Status) (data : List Field) : (s.reply st data).intake = s.intake := rfl
@[simp] theorem State.reply_cyc (s : State) (st : Status) (data : List Field) : (s.reply st data).cyc = s.cyc := rfl
@[simp] theorem State.reply_mem (s : State) (st : Status) (data : List Field) : (s.reply st data).mem = s.mem := rfl
@[simp] theorem State.reply_recon (s : State) (st : Status) (data : List Field) : (s.reply st data).recon = s.recon := rfl
@[simp] theorem State.reply_law (s : State) (st : Status) (data : List Field) : (s.reply st data).law = s.law := rfl
@[simp] theorem State.reply_loop (s : State) (st : Status) (data : List Field) : (s.reply st data).loop = s.loop := rfl
@[simp] theorem State.reply_drive (s : State) (st : Status) (data : List Field) : (s.reply st data).drive = s.drive := rfl
@[simp] theorem State.reply_cal (s : State) (st : Status) (data : List Field) : (s.reply st data).cal = s.cal := rfl
@[simp] theorem State.reply_mon (s : State) (st : Status) (data : List Field) : (s.reply st data).mon = s.mon := rfl
@[simp] theorem State.reply_freeCount (s : State) (st : Status) (data : List Field) : (s.reply st data).freeCount = s.freeCount := rfl

/-! ## refuse -/

@[simp] theorem State.refuse_pending (s : State) (st : Status) : (s.refuse st).pending = s.pending := rfl
@[simp] theorem State.refuse_intake (s : State) (st : Status) : (s.refuse st).intake = s.intake := rfl
@[simp] theorem State.refuse_cyc (s : State) (st : Status) : (s.refuse st).cyc = s.cyc := rfl
@[simp] theorem State.refuse_mem (s : State) (st : Status) : (s.refuse st).mem = s.mem := rfl
@[simp] theorem State.refuse_recon (s : State) (st : Status) : (s.refuse st).recon = s.recon := rfl
@[simp] theorem State.refuse_law (s : State) (st : Status) : (s.refuse st).law = s.law := rfl
@[simp] theorem State.refuse_loop (s : State) (st : Status) : (s.refuse st).loop = s.loop := rfl
@[simp] theorem State.refuse_drive (s : State) (st : Status) : (s.refuse st).drive = s.drive := rfl
@[simp] theorem State.refuse_cal (s : State) (st : Status) : (s.refuse st).cal = s.cal := rfl
@[simp] theorem State.refuse_mon (s : State) (st : Status) : (s.refuse st).mon = s.mon := rfl
@[simp] theorem State.refuse_freeCount (s : State) (st : Status) : (s.refuse st).freeCount = s.freeCount := rfl

/-! ## setProgress -/

@[simp] theorem State.setProgress_pending (s : State) (p : Progress) : (s.setProgress p).pending = s.pending := rfl
@[simp] theorem State.setProgress_intake (s : State) (p : Progress) : (s.setProgress p).intake = s.intake := rfl
@[simp] theorem State.setProgress_cyc (s : State) (p : Progress) : (s.setProgress p).cyc = s.cyc := rfl
@[simp] theorem State.setProgress_mem (s : State) (p : Progress) : (s.setProgress p).mem = s.mem := rfl
@[simp] theorem State.setProgress_recon (s : State) (p : Progress) : (s.setProgress p).recon = s.recon := rfl
@[simp] theorem State.setProgress_law (s : State) (p : Progress) : (s.setProgress p).law = s.law := rfl
@[simp] theorem State.setProgress_loop (s : State) (p : Progress) : (s.setProgress p).loop = s.loop := rfl
@[simp] theorem State.setProgress_drive (s : State) (p : Progress) : (s.setProgress p).drive = s.drive := rfl
@[simp] theorem State.setProgress_cal (s : State) (p : Progress) : (s.setProgress p).cal = s.cal := rfl
@[simp] theorem State.setProgress_mon (s : State) (p : Progress) : (s.setProgress p).mon = s.mon := rfl
@[simp] theorem State.setProgress_freeCount (s : State) (p : Progress) : (s.setProgress p).freeCount = s.freeCount := rfl

/-! ## writeActuators -/

@[simp] theorem State.writeActuators_pending (s : State) (first : Nat) (new : List ActRecord) : (s.writeActuators first new).pending = s.pending := rfl
@[simp] theorem State.writeActuators_intake (s : State) (first : Nat) (new : List ActRecord) : (s.writeActuators first new).intake = s.intake := rfl
@[simp] theorem State.writeActuators_cyc (s : State) (first : Nat) (new : List ActRecord) : (s.writeActuators first new).cyc = s.cyc := rfl
@[simp] theorem State.writeActuators_mem (s : State) (first : Nat) (new : List ActRecord) : (s.writeActuators first new).mem = s.mem := rfl
@[simp] theorem State.writeActuators_recon (s : State) (first : Nat) (new : List ActRecord) : (s.writeActuators first new).recon = s.recon := rfl
@[simp] theorem State.writeActuators_loop (s : State) (first : Nat) (new : List ActRecord) : (s.writeActuators first new).loop = s.loop := rfl
@[simp] theorem State.writeActuators_drive (s : State) (first : Nat) (new : List ActRecord) : (s.writeActuators first new).drive = s.drive := rfl
@[simp] theorem State.writeActuators_cal (s : State) (first : Nat) (new : List ActRecord) : (s.writeActuators first new).cal = s.cal := rfl
@[simp] theorem State.writeActuators_mon (s : State) (first : Nat) (new : List ActRecord) : (s.writeActuators first new).mon = s.mon := rfl
@[simp] theorem State.writeActuators_link (s : State) (first : Nat) (new : List ActRecord) : (s.writeActuators first new).link = s.link := rfl
@[simp] theorem State.writeActuators_freeCount (s : State) (first : Nat) (new : List ActRecord) : (s.writeActuators first new).freeCount = s.freeCount := rfl

/-! ## integratorReset -/

@[simp] theorem State.integratorReset_pending (s : State) : (s.integratorReset).pending = s.pending := rfl
@[simp] theorem State.integratorReset_intake (s : State) : (s.integratorReset).intake = s.intake := rfl
@[simp] theorem State.integratorReset_cyc (s : State) : (s.integratorReset).cyc = s.cyc := rfl
@[simp] theorem State.integratorReset_mem (s : State) : (s.integratorReset).mem = s.mem := rfl
@[simp] theorem State.integratorReset_recon (s : State) : (s.integratorReset).recon = s.recon := rfl
@[simp] theorem State.integratorReset_loop (s : State) : (s.integratorReset).loop = s.loop := rfl
@[simp] theorem State.integratorReset_drive (s : State) : (s.integratorReset).drive = s.drive := rfl
@[simp] theorem State.integratorReset_cal (s : State) : (s.integratorReset).cal = s.cal := rfl
@[simp] theorem State.integratorReset_mon (s : State) : (s.integratorReset).mon = s.mon := rfl
@[simp] theorem State.integratorReset_link (s : State) : (s.integratorReset).link = s.link := rfl
@[simp] theorem State.integratorReset_freeCount (s : State) : (s.integratorReset).freeCount = s.freeCount := rfl

/-! ## clearPokes -/

@[simp] theorem State.clearPokes_pending (s : State) : (s.clearPokes).pending = s.pending := rfl
@[simp] theorem State.clearPokes_intake (s : State) : (s.clearPokes).intake = s.intake := rfl
@[simp] theorem State.clearPokes_cyc (s : State) : (s.clearPokes).cyc = s.cyc := rfl
@[simp] theorem State.clearPokes_mem (s : State) : (s.clearPokes).mem = s.mem := rfl
@[simp] theorem State.clearPokes_recon (s : State) : (s.clearPokes).recon = s.recon := rfl
@[simp] theorem State.clearPokes_loop (s : State) : (s.clearPokes).loop = s.loop := rfl
@[simp] theorem State.clearPokes_drive (s : State) : (s.clearPokes).drive = s.drive := rfl
@[simp] theorem State.clearPokes_cal (s : State) : (s.clearPokes).cal = s.cal := rfl
@[simp] theorem State.clearPokes_mon (s : State) : (s.clearPokes).mon = s.mon := rfl
@[simp] theorem State.clearPokes_link (s : State) : (s.clearPokes).link = s.link := rfl
@[simp] theorem State.clearPokes_freeCount (s : State) : (s.clearPokes).freeCount = s.freeCount := rfl

/-! ## beginLaw -/

@[simp] theorem State.beginLaw_pending (s : State) (k : Cycle) : (s.beginLaw k).pending = s.pending := rfl
@[simp] theorem State.beginLaw_intake (s : State) (k : Cycle) : (s.beginLaw k).intake = s.intake := rfl
@[simp] theorem State.beginLaw_cyc (s : State) (k : Cycle) : (s.beginLaw k).cyc = s.cyc := rfl
@[simp] theorem State.beginLaw_mem (s : State) (k : Cycle) : (s.beginLaw k).mem = s.mem := rfl
@[simp] theorem State.beginLaw_recon (s : State) (k : Cycle) : (s.beginLaw k).recon = s.recon := rfl
@[simp] theorem State.beginLaw_loop (s : State) (k : Cycle) : (s.beginLaw k).loop = s.loop := rfl
@[simp] theorem State.beginLaw_drive (s : State) (k : Cycle) : (s.beginLaw k).drive = s.drive := rfl
@[simp] theorem State.beginLaw_cal (s : State) (k : Cycle) : (s.beginLaw k).cal = s.cal := rfl
@[simp] theorem State.beginLaw_mon (s : State) (k : Cycle) : (s.beginLaw k).mon = s.mon := rfl
@[simp] theorem State.beginLaw_link (s : State) (k : Cycle) : (s.beginLaw k).link = s.link := rfl
@[simp] theorem State.beginLaw_freeCount (s : State) (k : Cycle) : (s.beginLaw k).freeCount = s.freeCount := rfl

/-! ## retire -/

@[simp] theorem State.retire_pending (s : State) (b : Bank) : (s.retire b).pending = s.pending := rfl
@[simp] theorem State.retire_intake (s : State) (b : Bank) : (s.retire b).intake = s.intake := rfl
@[simp] theorem State.retire_mem (s : State) (b : Bank) : (s.retire b).mem = s.mem := rfl
@[simp] theorem State.retire_recon (s : State) (b : Bank) : (s.retire b).recon = s.recon := rfl
@[simp] theorem State.retire_law (s : State) (b : Bank) : (s.retire b).law = s.law := rfl
@[simp] theorem State.retire_loop (s : State) (b : Bank) : (s.retire b).loop = s.loop := rfl
@[simp] theorem State.retire_drive (s : State) (b : Bank) : (s.retire b).drive = s.drive := rfl
@[simp] theorem State.retire_cal (s : State) (b : Bank) : (s.retire b).cal = s.cal := rfl
@[simp] theorem State.retire_mon (s : State) (b : Bank) : (s.retire b).mon = s.mon := rfl
@[simp] theorem State.retire_link (s : State) (b : Bank) : (s.retire b).link = s.link := rfl
@[simp] theorem State.retire_freeCount (s : State) (b : Bank) : (s.retire b).freeCount = s.freeCount := rfl

/-! ## carryOutCommits -/

@[simp] theorem State.carryOutCommits_pending (s : State) : (s.carryOutCommits).pending = s.pending := rfl
@[simp] theorem State.carryOutCommits_cyc (s : State) : (s.carryOutCommits).cyc = s.cyc := rfl
@[simp] theorem State.carryOutCommits_mem (s : State) : (s.carryOutCommits).mem = s.mem := rfl
@[simp] theorem State.carryOutCommits_recon (s : State) : (s.carryOutCommits).recon = s.recon := rfl
@[simp] theorem State.carryOutCommits_law (s : State) : (s.carryOutCommits).law = s.law := rfl
@[simp] theorem State.carryOutCommits_loop (s : State) : (s.carryOutCommits).loop = s.loop := rfl
@[simp] theorem State.carryOutCommits_drive (s : State) : (s.carryOutCommits).drive = s.drive := rfl
@[simp] theorem State.carryOutCommits_cal (s : State) : (s.carryOutCommits).cal = s.cal := rfl
@[simp] theorem State.carryOutCommits_mon (s : State) : (s.carryOutCommits).mon = s.mon := rfl
@[simp] theorem State.carryOutCommits_link (s : State) : (s.carryOutCommits).link = s.link := rfl
@[simp] theorem State.carryOutCommits_freeCount (s : State) : (s.carryOutCommits).freeCount = s.freeCount := rfl

/-! ## endTransfer -/

@[simp] theorem State.endTransfer_pending (s : State) : (s.endTransfer).pending = s.pending := rfl
@[simp] theorem State.endTransfer_intake (s : State) : (s.endTransfer).intake = s.intake := rfl
@[simp] theorem State.endTransfer_cyc (s : State) : (s.endTransfer).cyc = s.cyc := rfl
@[simp] theorem State.endTransfer_recon (s : State) : (s.endTransfer).recon = s.recon := rfl
@[simp] theorem State.endTransfer_law (s : State) : (s.endTransfer).law = s.law := rfl
@[simp] theorem State.endTransfer_loop (s : State) : (s.endTransfer).loop = s.loop := rfl
@[simp] theorem State.endTransfer_drive (s : State) : (s.endTransfer).drive = s.drive := rfl
@[simp] theorem State.endTransfer_cal (s : State) : (s.endTransfer).cal = s.cal := rfl
@[simp] theorem State.endTransfer_mon (s : State) : (s.endTransfer).mon = s.mon := rfl
@[simp] theorem State.endTransfer_link (s : State) : (s.endTransfer).link = s.link := rfl
@[simp] theorem State.endTransfer_freeCount (s : State) : (s.endTransfer).freeCount = s.freeCount := rfl

/-! ## What is read back -/

@[simp] theorem State.sensor_updSensor (s : State) (i : Fin 6) (f : Sensor → Sensor) :
    (s.updSensor i f).sensor i = f (s.sensor i) := by simp [State.sensor, State.updSensor]

theorem State.sensor_updSensor_ne (s : State) {i j : Fin 6} (f : Sensor → Sensor) (h : j ≠ i) :
    (s.updSensor i f).sensor j = s.sensor j := by
  have h' : i.val ≠ j.val := fun e => h (Fin.ext e.symm)
  simp [State.sensor, State.updSensor, Vector.getElem_set_ne, h']

@[simp] theorem State.setRec_updSet (s : State) (n : Fin 4) (f : SetRecord → SetRecord) :
    (s.updSet n f).setRec n = f (s.setRec n) := by simp [State.setRec, State.updSet]

theorem State.setRec_updSet_ne (s : State) {n m : Fin 4} (f : SetRecord → SetRecord) (h : m ≠ n) :
    (s.updSet n f).setRec m = s.setRec m := by
  have h' : n.val ≠ m.val := fun e => h (Fin.ext e.symm)
  simp [State.setRec, State.updSet, Vector.getElem_set_ne, h']

@[simp] theorem State.driveLink_updLink (s : State) (d : Fin 4) (f : DriveLink → DriveLink) :
    (s.updLink d f).driveLink d = f (s.driveLink d) := by simp [State.driveLink, State.updLink]

theorem State.driveLink_updLink_ne (s : State) {d e : Fin 4} (f : DriveLink → DriveLink) (h : e ≠ d) :
    (s.updLink d f).driveLink e = s.driveLink e := by
  have h' : d.val ≠ e.val := fun x => h (Fin.ext x.symm)
  simp [State.driveLink, State.updLink, Vector.getElem_set_ne, h']

@[simp] theorem State.savedOf_updSaved (s : State) (i : Fin 6) (f : Saved → Saved) :
    (s.updSaved i f).savedOf i = f (s.savedOf i) := by simp [State.savedOf, State.updSaved]

theorem State.savedOf_updSaved_ne (s : State) {i j : Fin 6} (f : Saved → Saved) (h : j ≠ i) :
    (s.updSaved i f).savedOf j = s.savedOf j := by
  have h' : i.val ≠ j.val := fun e => h (Fin.ext e.symm)
  simp [State.savedOf, State.updSaved, Vector.getElem_set_ne, h']

@[simp] theorem State.bankVector_setBank (s : State) (b : Bank) (v : List Int) : (s.setBank b v).bankVector b = v := by
  cases b <;> rfl

@[simp] theorem State.buffer_setBuffer (s : State) (b : Bank) (v : Vector (Option (List Int)) 6) :
    (s.setBuffer b v).buffer b = v := by cases b <;> rfl

/-- A raised condition is pending. -/
theorem State.isPending_raise (s : State) (n : Notice) : (s.raise n).isPending n = true := by
  cases n <;> simp [State.isPending, State.raise, noticeIndex]

/-- A raise takes no pending condition away. -/
theorem State.isPending_raise_of (s : State) (n m : Notice) (h : s.isPending n = true) : (s.raise m).isPending n = true := by
  simp only [State.isPending, State.raise, BitVec.getLsbD_or] at *
  simp [h]

end Sys2Proof.Machine
end

