-- ==== Sys2Proof/Laws/Words.lean ====
section
/-! SUPPORT. What a payload written field by field reads back as (10 Table 10.2, section 10.9). -/

namespace Sys2Proof.Machine

theorem beBytes_two (n : Nat) : beBytes 2 n = [BitVec.ofNat 8 (n / 256), BitVec.ofNat 8 n] := by
  simp [beBytes, List.range_succ]

theorem beBytes_four (n : Nat) :
    beBytes 4 n = [BitVec.ofNat 8 (n / 16777216), BitVec.ofNat 8 (n / 65536), BitVec.ofNat 8 (n / 256), BitVec.ofNat 8 n] := by
  simp [beBytes, List.range_succ]

@[simp] theorem length_beBytes (n x : Nat) : (beBytes n x).length = n := by simp [beBytes]

@[simp] theorem length_beBytesInt (n : Nat) (x : Int) : (beBytesInt n x).length = n := by simp [beBytesInt]

@[simp] theorem u16s_nil : u16s [] = [] := rfl

@[simp] theorem u16s_cons (n : Nat) (l : List Nat) : u16s (n :: l) = beBytes 2 n ++ u16s l := rfl

@[simp] theorem s16s_nil : s16s [] = [] := rfl

@[simp] theorem s16s_cons (x : Int) (l : List Int) : s16s (x :: l) = beBytesInt 2 x ++ s16s l := rfl

@[simp] theorem u32s_nil : u32s [] = [] := rfl

@[simp] theorem u32s_cons (n : Nat) (l : List Nat) : u32s (n :: l) = beBytes 4 n ++ u32s l := rfl

@[simp] theorem length_u16s (l : List Nat) : (u16s l).length = 2 * l.length := by
  induction l with
  | nil => rfl
  | cons n l ih => simp [ih]; omega

@[simp] theorem length_s16s (l : List Int) : (s16s l).length = 2 * l.length := by
  induction l with
  | nil => rfl
  | cons n l ih => simp [ih]; omega

@[simp] theorem length_u32s (l : List Nat) : (u32s l).length = 4 * l.length := by
  induction l with
  | nil => rfl
  | cons n l ih => simp [ih]; omega

theorem byteAt_append (a b : List Byte) (i : Nat) : byteAt (a ++ b) (a.length + i) = byteAt b i := by
  simp [byteAt, List.getElem?_append]

/-- Reading past a run of bytes reads what follows it. -/
theorem rd16_append (a b : List Byte) (i : Nat) : rd16 (a ++ b) (a.length + i) = rd16 b i := by
  simp only [rd16, Nat.add_assoc, byteAt_append]

theorem rd32_append (a b : List Byte) (i : Nat) : rd32 (a ++ b) (a.length + i) = rd32 b i := by
  simp only [rd32, Nat.add_assoc, rd16_append]

theorem rdS16_append (a b : List Byte) (i : Nat) : rdS16 (a ++ b) (a.length + i) = rdS16 b i := by
  simp only [rdS16, rd16_append]

@[simp] theorem rd16_skip16 (n : Nat) (b : List Byte) (i : Nat) : rd16 (beBytes 2 n ++ b) (i + 2) = rd16 b i := by
  simpa [Nat.add_comm] using rd16_append (beBytes 2 n) b i

@[simp] theorem rd16_skip32 (n : Nat) (b : List Byte) (i : Nat) : rd16 (beBytes 4 n ++ b) (i + 4) = rd16 b i := by
  simpa [Nat.add_comm] using rd16_append (beBytes 4 n) b i

@[simp] theorem rd32_skip16 (n : Nat) (b : List Byte) (i : Nat) : rd32 (beBytes 2 n ++ b) (i + 2) = rd32 b i := by
  simpa [Nat.add_comm] using rd32_append (beBytes 2 n) b i

@[simp] theorem rd32_skip32 (n : Nat) (b : List Byte) (i : Nat) : rd32 (beBytes 4 n ++ b) (i + 4) = rd32 b i := by
  simpa [Nat.add_comm] using rd32_append (beBytes 4 n) b i

@[simp] theorem rd16_beBytes (n : Nat) (b : List Byte) : rd16 (beBytes 2 n ++ b) 0 = n % 65536 := by
  simp [rd16, byteAt, beBytes_two]
  omega

@[simp] theorem rd32_beBytes (n : Nat) (b : List Byte) : rd32 (beBytes 4 n ++ b) 0 = n % 4294967296 := by
  simp [rd32, rd16, byteAt, beBytes_four]
  omega

@[simp] theorem rd16_last (n : Nat) : rd16 (beBytes 2 n) 0 = n % 65536 := by simpa using rd16_beBytes n []

@[simp] theorem rd32_last (n : Nat) : rd32 (beBytes 4 n) 0 = n % 4294967296 := by simpa using rd32_beBytes n []

@[simp] theorem rdS16_skip16 (n : Nat) (b : List Byte) (i : Nat) : rdS16 (beBytes 2 n ++ b) (i + 2) = rdS16 b i := by
  simp [rdS16]

/-- A signed field reads back as itself (10 Table 10.2). -/
theorem rdS16_beBytesInt (x : Int) (b : List Byte) (h : -32768 ≤ x) (h' : x ≤ 32767) :
    rdS16 (beBytesInt 2 x ++ b) 0 = x := by
  have e : rdS16 (beBytesInt 2 x ++ b) 0 = (BitVec.ofNat 16 ((x % 65536).toNat % 65536)).toInt := by
    simp [rdS16, beBytesInt]
  rw [e, BitVec.toInt_eq_toNat_bmod, BitVec.toNat_ofNat]
  simp only [Int.bmod]
  have hp : 0 ≤ x % 65536 := Int.emod_nonneg _ (by decide)
  omega

/-- A run of unsigned fields reads back as itself. -/
theorem rd16s_u16s (l : List Nat) (a b : List Byte) (h : ∀ n ∈ l, n < 65536) :
    rd16s (a ++ (u16s l ++ b)) a.length l.length = l := by
  induction l generalizing a with
  | nil => rfl
  | cons n l ih =>
    have h1 := ih (a ++ beBytes 2 n) (fun m hm => h m (List.mem_cons_of_mem _ hm))
    have h0 : n % 65536 = n := Nat.mod_eq_of_lt (h n (List.mem_cons_self ..))
    have h2 := rd16_append a (beBytes 2 n ++ (u16s l ++ b)) 0
    simp only [rd16s, List.length_cons, List.range_succ_eq_map, List.map_cons, List.map_map] at *
    refine List.cons_eq_cons.2 ⟨?_, ?_⟩
    · simpa [h0] using h2
    · rw [← h1]
      simp only [h1]
      conv_rhs => rw [← h1]
      apply List.map_congr_left
      intro k _
      simp [Function.comp, Nat.mul_add, Nat.add_assoc, Nat.add_comm, Nat.add_left_comm]

/-- A run of signed fields reads back as itself. -/
theorem rdS16s_s16s (l : List Int) (a b : List Byte) (h : ∀ x ∈ l, -32768 ≤ x ∧ x ≤ 32767) :
    rdS16s (a ++ (s16s l ++ b)) a.length l.length = l := by
  induction l generalizing a with
  | nil => rfl
  | cons x l ih =>
    have h1 := ih (a ++ beBytesInt 2 x) (fun m hm => h m (List.mem_cons_of_mem _ hm))
    have h0 := h x (List.mem_cons_self ..)
    have h2 := rdS16_append a (beBytesInt 2 x ++ (s16s l ++ b)) 0
    have h3 := rdS16_beBytesInt x (s16s l ++ b) h0.1 h0.2
    simp only [rdS16s, List.length_cons, List.range_succ_eq_map, List.map_cons, List.map_map] at *
    refine List.cons_eq_cons.2 ⟨?_, ?_⟩
    · simpa [h3] using h2
    · conv_rhs => rw [← h1]
      apply List.map_congr_left
      intro k _
      simp [Function.comp, Nat.mul_add, Nat.add_assoc, Nat.add_comm, Nat.add_left_comm]

end Sys2Proof.Machine
end

