-- ==== Sys2Proof/Laws/Steps.lean ====
section
/-! SUPPORT. What the shared operations of a command can do: a message acted on, a reply formed, a step with no follow-up. -/

namespace Sys2Proof.Machine

/-- What State.hears says of the command in execution. -/
theorem hears_iff (s : State) (m : Message) (p : List Byte) :
    s.hears m p = true ↔ ∃ c, s.link.executing = some c ∧ c.progress = .taken ∧ c.frame.name = messageName m ∧ c.frame.payload = p := by
  cases h : s.link.executing <;> simp [State.hears, h, and_assoc]

/-- A message in execution is acted on with its payload (10 R183). -/
theorem runMessage_of_hears {s : State} {m : Message} {p : List Byte} (h : s.hears m p = true) (act : List Byte → State → State) :
    runMessage m act s = .next (act p s) := by
  obtain ⟨c, h1, h2, h3, h4⟩ := (hears_iff s m p).1 h
  simp [runMessage, h1, h2, h3, h4]

/-- A message that is not in execution changes nothing (log 2). -/
theorem runMessage_of_silent {s : State} {m : Message} (h : ∀ p, s.hears m p = false) (act : List Byte → State → State) :
    runMessage m act s = .next s := by
  cases e : s.link.executing with
  | none => simp [runMessage, e]
  | some c =>
    have h' := h c.frame.payload
    have h'' : ¬ (c.progress = .taken ∧ c.frame.name = messageName m) := by
      intro hc
      simp [State.hears, e, hc.1, hc.2] at h'
    simp [runMessage, e, h'']

/-- Everything runMessage can do. -/
theorem runMessage_cases (m : Message) (act : List Byte → State → State) (s : State) :
    runMessage m act s = .next s ∨ ∃ p, s.hears m p = true ∧ runMessage m act s = .next (act p s) := by
  cases e : s.link.executing with
  | none => exact .inl (by simp [runMessage, e])
  | some c =>
    by_cases hc : c.progress = .taken ∧ c.frame.name = messageName m
    · exact .inr ⟨c.frame.payload, by simp [State.hears, e, hc.1, hc.2], by simp [runMessage, e, hc]⟩
    · exact .inl (by simp [runMessage, e, hc])

/-- A reply that no link clear has taken away joins the transmitter and ends the execution (10 R183, R185). -/
theorem reply_of_executing {l : ControlLink} {c : Execution} (h : l.executing = some c) (hn : c.noReply = false)
    (st : Status) (data : List Field) :
    l.reply st data =
      { l with executing := none,
               transmitter := l.transmitter ++ [{ name := c.frame.name, tag := c.frame.tag, status := st, data := data }] } := by
  simp [ControlLink.reply, h, hn]

/-- A reply changes only the execution, the transmitter and the receive queue. -/
theorem reply_frame (l : ControlLink) (st : Status) (data : List Field) :
    (l.reply st data).receiver = l.receiver ∧ (l.reply st data).notices = l.notices ∧ (l.reply st data).masks = l.masks
      ∧ (l.reply st data).dropped = l.dropped ∧ (l.reply st data).lastSent = l.lastSent := by
  unfold ControlLink.reply ControlLink.beginNext
  split
  · simp
  · split
    · split
      · split <;> simp
      · simp
    · simp

theorem followUp_of_still {s : State} (h1 : s.cyc.reoffer = false) (h2 : s.canPass = false) (n : Nat) :
    State.followUp n .nothing s = s := by
  cases n <;> simp [State.followUp, h1, h2]

/-- A step on a quiet state has no follow-up. -/
theorem settle_of_quiet {s : State} (h : s.quiet = true) : s.settle .nothing = s := by
  simp only [State.quiet, Bool.and_eq_true, Bool.not_eq_true', Bool.or_eq_true] at h
  obtain ⟨⟨⟨h1, h2⟩, h3⟩, h4⟩ := h
  rw [State.settle, followUp_of_still h1 h2]
  have e1 : s.startJob = s := by
    unfold State.startJob
    split
    · rename_i e1 e2
      simp [e1, e2] at h3
    · rfl
  rw [e1]
  unfold State.grant
  split
  · rfl
  · rename_i ec
    simp only [ec, Option.isSome_none, Bool.false_eq_true, false_or] at h4
    split
    · rename_i f ef
      simp only [ef] at h4
      split
      · rfl
      · rename_i sl ek
        simp only [ek, decide_eq_true_eq] at h4
        rw [if_neg (by omega)]
    · rename_i ef
      simp only [ef] at h4
      split
      · rename_i c rest _ ew
        simp [ew] at h4
      · rfl

end Sys2Proof.Machine
end

