-- ==== Sys2Proof/WellFormed.lean ====
section
/-! DEFINITION. What a command must meet to be one the part can be given: an upset lies in a word of the slot that is read,
and a length above the limit is above it. Every other operand value can arrive on a link. -/

namespace Sys2Proof

/-- The word lies in a slot of 2,048 places, four to a word (03 section 3.1). -/
def Upset.wellFormed (u : Upset) : Bool := decide (u.word < Config.slotPlaces / 4)

/-- The command can be given to the part. -/
def Instr.wellFormed : Instr → Bool
  | .jobRowRead upsets => upsets.all Upset.wellFormed
  | .calReadTransfer upsets => upsets.all Upset.wellFormed
  | .commandLengthAboveLimit length => decide (Config.maxPayload < length.toNat)
  | _ => true

end Sys2Proof
end

