-- ==== Sys2Proof/Tests/Slice0.lean ====
section
/-! SUPPORT. Tests: ill-formed commands, the manual's worked figures, and for each statement of
Certificates/Slice0/Obligations.lean states and operands that meet its hypotheses. -/

namespace Sys2Proof.Tests

open Sys2Proof Sys2Proof.Machine

-- One theorem at a time: each worker thread reserves memory of its own.
set_option Elab.async false

/-! ## Well-formed commands -/

theorem test_wellFormed_upset_word :
    Instr.wellFormed (.jobRowRead [{ word := 512, error := .single }]) = false
      ∧ Instr.wellFormed (.jobRowRead [{ word := 511, error := .single }]) = true
      ∧ Instr.wellFormed (.calReadTransfer [{ word := 0, error := .double }, { word := 600, error := .single }]) = false := by
  decide

theorem test_wellFormed_length_limit :
    Instr.wellFormed (.commandLengthAboveLimit 8192) = false ∧ Instr.wellFormed (.commandLengthAboveLimit 8193) = true := by
  decide

theorem test_no_row_gives_bits : decodeTableWord 16 3 = none ∧ State.reset.withFetchWord 16 3 = State.reset :=
  ⟨rfl, rfl⟩

/-! ## The manual's worked figures -/

/-- 10 R195: the CRC-32 of "123456789". -/
theorem test_crc_check_value :
    crc32 [0x31#8, 0x32#8, 0x33#8, 0x34#8, 0x35#8, 0x36#8, 0x37#8, 0x38#8, 0x39#8] = 0xCBF43926#32 := by
  decide +kernel

/-- 01 Table 1.4 on the frame of 04 Table 4.7. -/
theorem test_correction_worked :
    ({ Sensor.reset with pages := Vector.replicate 2 [200, -100, 0, 10] } : Sensor).corrected 0 [1200, -300, -32768, 410]
      = [1000, -200, 0, 400] := by
  decide +kernel

/-- 04 Table 4.10: rounding and saturation at the edges. -/
theorem test_residual_edges :
    residualOf (some 12) 2641200 = 645 ∧ residualOf (some 12) (-2641200) = -645 ∧ residualOf (some 12) 6144 = 2
      ∧ residualOf (some 12) (-6144) = -1 ∧ residualOf (some 12) (-2048) = 0 ∧ residualOf (some 0) 9000000 = 8388607
      ∧ residualOf (some 8) (-3000000000) = -8388607 := by
  decide

/-- 05 Table 5.9: the integrator steps of cycle 1200. -/
theorem test_integrator_worked :
    let a : ActRecord := { lo := -20000, hi := 20000, flat := 0, gain := 0, mode := .normal }
    integratorStep a 16384 32440 51200 645 = (51010, false) ∧ integratorStep a 16384 32440 45455 0 = (45000, false) := by
  decide

/-- 05 Tables 5.11 and 5.12: the walk, its adjustments, its flag and its two remaining violations. -/
theorem test_neighbour_walk_worked :
    let act : Nat → ActRecord := fun i =>
      ([{ lo := -40, hi := 40, flat := 0, gain := 0, mode := .normal }, { lo := -100, hi := 100, flat := 0, gain := 0, mode := .normal },
        { lo := -100, hi := 100, flat := 0, gain := 0, mode := .frozen }, { lo := -12, hi := 8, flat := 0, gain := 0, mode := .normal }]
        : List ActRecord).getD i ActRecord.reset
    neighbourPass act 10 [(0, 1), (1, 2), (2, 3), (0, 3)]
        { scratch := [9000, 2000, 5000, -3000], flags := [false, false, false, false], adjustments := 0 }
      = ({ scratch := [5694, 4220, 5000, 2048], flags := [false, false, false, true], adjustments := 3 }, 2) := by
  decide +kernel

/-- 09 Tables 9.3 and 9.4: the peak list of cycle 2400. -/
theorem test_peak_list_worked :
    (peakList (Vector.ofFn fun i : Fin 6 => if i = 0 then some [1000, -200, 0, 400] else if i = 2 then some [-1000, 400, 37, 0]
        else none)).map (fun r => (r.sensor.val, r.subaperture, r.axisY, r.value))
      = [(0, 0, false, 1000), (2, 0, false, -1000), (0, 1, true, 400), (2, 0, true, 400), (0, 0, true, -200)] := by
  decide +kernel

/-- 08 Table 8.7: (240 + 2) / 4 is 60 and (-46 + 2) / 4 is -11. -/
theorem test_response_rounding_worked :
    ({ State.reset with cal := { State.reset.cal with
        nM := 2, sensors := [(0, 1)], push := Vector.replicate 6 [120, -24], pull := Vector.replicate 6 [-120, 22] } }
      : State).responsesOf 0 = [60, -11] := by
  decide +kernel

/-- 10 Table 10.9: a command frame, written out byte by byte, is received and begins execution. -/
theorem test_command_frame_bytes :
    let body : List Byte := [0, 0, 0x53, 0x54, 0x41, 0x54, 0x2E, 0x52, 0x45, 0x41, 0x44, 0x20, 0x20, 0x20, 0, 0, 0, 9]
    let c := crc32 body
    let bytes := [0xC3, 0x5D] ++ body ++ [c.extractLsb' 24 8, c.extractLsb' 16 8, c.extractLsb' 8 8, c.extractLsb' 0 8]
    ({ State.reset with link := (State.reset.link.feedAll bytes) } : State).hears .statRead [] = true := by
  decide +kernel

/-- 07 Table 7.1 and 10 Table 10.9: a drive frame of one code. -/
theorem test_drive_frame_layout : (driveFrame 1 5 [40000]).take 8 = [1, 5, 3, 0, 0, 1, 0x9C, 0x40] := by
  decide +kernel

/-! ## States and operands that meet the statements' hypotheses -/

/-- The state with message m and payload p in execution. -/
def hear (m : Message) (p : List Byte) (s : State) : State :=
  { s with link := { s.link with
      executing := some { frame := { name := messageName m, tag := 7, payload := p }, noReply := false, progress := .taken } } }

/-- An ACTIVE sensor with one subaperture. -/
def sensorOn : Sensor := { Sensor.reset with mode := .active, config := { Sensor.reset.config with nSub := 1 } }

/-- A COMPLETE set over sensors 0 and 1. -/
def setFull : SetRecord :=
  { state := .complete, participation := [(0, 1), (1, 1)], shift := 0, marks := Vector.replicate 6 [], rowsLoaded := 4,
    rowsRequired := 4, errCount := 0, errLoc := none }

/-- Two actuators, sensors 0 and 1 ACTIVE, set 0 COMPLETE, the loop OPEN, link 0 IDLE. -/
def small : State :=
  { State.reset with
    intake := { sensors := ((Vector.replicate 6 Sensor.reset).set 0 sensorOn).set 1 sensorOn, arrivals := 0 }
    mem := { State.reset.mem with nAct := 2, sets := State.reset.mem.sets.set 0 setFull }
    law := { State.reset.law with committed := [32768, 32768] }
    loop := { State.reset.loop with state := .opened }
    drive := { State.reset.drive with
      links := State.reset.drive.links.set 0 { (State.reset.driveLink 0) with state := .idle, upToDate := true } } }

def inLoop (l : LoopState) (s : State) : State := { s with loop := { s.loop with state := l } }

/-- A cycle that awaits sensors 0 and 1, with one job outstanding. -/
def cycleA : Cycle :=
  { fn := 5, bank := .bankA, state := .accumulating, set := some 0, binding := Vector.replicate 6 0,
    expected := Vector.ofFn fun i => decide (i.val < 2), presence := Vector.ofFn fun i => decide (i.val < 2),
    settlement := Vector.replicate 6 .unsettled, calMark := false, closeReason := none, deadline := some 1000,
    outstanding := 1, abandoned := false }

def withCycles (l : List Cycle) (s : State) : State := { s with cyc := { s.cyc with cycles := l } }

/-! ### The whole part -/

theorem witness_IllFormedRequestsChangeNothing_form :
    (let s := hear .cycParam [0, 0, 1] small
     messageOf .cycParam = some .cycParam ∧ s.hears .cycParam [0, 0, 1] = true ∧ formOk .cycParam [0, 0, 1] = false)
    ∧ (let s := hear .snsExclAdd (u16s [0, 0]) small
       messageOf .snsExclAdd = some .snsExclAdd ∧ s.hears .snsExclAdd (u16s [0, 0]) = true
        ∧ formOk .snsExclAdd (u16s [0, 0]) = false) := by
  decide +kernel

theorem witness_IllFormedRequestsChangeNothing_index :
    ∀ e ∈ [(Message.snsEnable, 6), (.snsDisable, 6), (.snsStatus, 6), (.snsExclList, 6), (.refCommit, 6), (.setErase, 4),
        (.setStatus, 4), (.drvRestart, 4)],
      (hear e.1 (u16s [e.2]) small).hears e.1 (u16s [e.2]) = true
        ∧ (hear e.1 (u16s [65535]) small).hears e.1 (u16s [65535]) = true := by
  decide +kernel

theorem witness_IllFormedRequestsChangeNothing_choice :
    (∀ f ∈ [(6, 0, 0, 0), (0, 1025, 0, 0), (0, 0, 2, 0), (0, 0, 0, 4)],
      let p := u16s [f.1, f.2.1, f.2.2.1] ++ u32s [1, 1, 0, 1] ++ u16s [f.2.2.2]
      (hear .snsConfig p small).hears .snsConfig p = true ∧ (6 ≤ f.1 ∨ 1024 < f.2.1 ∨ 2 ≤ f.2.2.1 ∨ 4 ≤ f.2.2.2))
    ∧ (∀ f ∈ [(2, 0, 0, 0), (0, 2, 0, 0), (0, 0, 2, 0), (0, 0, 0, 2)],
      let p := u32s [0, 0] ++ u16s [f.1] ++ u32s [0] ++ u16s [f.2.1, f.2.2.1, f.2.2.2] ++ u32s [0, 1]
      (hear .loopParam p small).hears .loopParam p = true)
    ∧ (let p := u16s [0, 1] ++ s16s [-1, 1, 0] ++ u16s [5, 3]
       (hear .actWrite p small).hears .actWrite p = true) := by
  decide +kernel

theorem witness_RefusalChangesNothing :
    let s := hear .snsEnable (u16s [0]) small
    ∃ t, exec .snsEnable s = .next t ∧ messageOf .snsEnable = some .snsEnable
      ∧ t.link.transmitter = s.link.transmitter ++ [{ name := messageName .snsEnable, tag := 7, status := .wrongState, data := [] }] :=
  ⟨_, rfl, by decide +kernel, by decide +kernel⟩

/-- A memory that holds a place and an error. -/
def written : State :=
  { small with mem := { small.mem with dram := { data := [(5, 9)], errors := [(1, .single)] } }, pending := [.holdnChange true] }

theorem witness_MemoryStaysCanonical : written.memoryWf ∧ ∃ t, step written = .next t :=
  ⟨by unfold State.memoryWf; decide +kernel, _, rfl⟩

/-- Two cycles, the loop IDLE, both abandoned, link 0 FAILED. -/
def atEnd : State :=
  { (inLoop .idle (withCycles [{ cycleA with abandoned := true, state := .draining },
      { cycleA with abandoned := true, state := .draining, bank := .bankB }] small)) with
    drive := { small.drive with links := small.drive.links.set 0 { (small.driveLink 0) with state := .failed } }
    pending := [.holdnChange true] }

theorem witness_CyclesStayInOrder :
    atEnd.banked ∧ atEnd.restful ∧ atEnd.drained ∧ atEnd.driven ∧ ∃ t, step atEnd = .next t :=
  ⟨by unfold State.banked; decide +kernel, by unfold State.restful; decide +kernel, by unfold State.drained; decide +kernel,
    by unfold State.driven; decide +kernel, _, rfl⟩

theorem witness_CommittedCodesStayInRange :
    { small with pending := [.holdnChange true] }.coded ∧ ∃ t, step { small with pending := [.holdnChange true] } = .next t :=
  ⟨by unfold State.coded; decide +kernel, _, rfl⟩

/-- A full receive queue behind a command, and seven QUEUE_FULL replies. -/
def crowded : State :=
  let f : CommandFrame := { name := messageName .devIdent, tag := 0, payload := [] }
  let s := hear .devIdent [] small
  { s with link := { s.link with
      queue := List.replicate 4 f
      transmitter := List.replicate 7 { name := f.name, tag := 0, status := .queueFull, data := [] } }
           pending := [.devIdent] }

theorem witness_LinkHoldsWhatItMay : crowded.linked ∧ ∃ t, step crowded = .next t :=
  ⟨by unfold State.linked; decide +kernel, _, rfl⟩

theorem witness_WhatStaysUntilChanged :
    (∃ t, exec (.holdnChange true) (small.raise .diverge) = .next t) ∧ (small.raise .diverge).isPending .diverge = true
      ∧ Instr.holdnChange true ≠ .powerOnReset :=
  ⟨⟨_, rfl⟩, by decide +kernel, by decide⟩

theorem witness_NothingWithoutItsCause :
    (∀ p, State.reset.hears .devIdent p = false) ∧ State.reset.link.executing = none ∧ State.reset.recon.inFlight = none
      ∧ State.reset.law.inProgress = none ∧ State.reset.mem.arbiter.current = none ∧ State.reset.cycleAt .bankB = none
      ∧ (State.reset.driveLink 3).state ≠ .busy ∧ State.reset.mon.snapState ≠ .filling ∧ State.reset.link.transmitter = []
      ∧ State.reset.link.receiver ≠ .inBreak ∧ State.reset.pending = [] :=
  ⟨fun _ => rfl, by decide +kernel⟩

/-! ### Slope intake -/

/-- Sensor 0 of the small state changed. -/
def sensor0 (f : Sensor → Sensor) (s : State) : State := s.updSensor 0 f

/-- A frame of sensor 0 that was damaged in its last byte. -/
def damaged (fl : Byte) : List Byte := (sensorFrameBytes 0 fl 5 [1, 2]).dropLast ++ [0]

theorem witness_SensorFrameReadsBack :
    ((small.sensor 0).mode ≠ .disabled ∧ fitsS16 [32767, -32768] = true ∧ (0#8).getLsbD 0 = false
      ∧ [(32767 : Int), -32768].length = 2 * (small.sensor 0).config.nSub ∧ (small.sensor 0).config.nSub ≤ 1024)
    ∧ ((7#8).getLsbD 0 = true ∧ fitsS16 [] = true) := by
  decide +kernel

theorem witness_DroppedFramesAreCounted :
    (small.sensor 5).mode = .disabled
    ∧ ((small.sensor 0).mode ≠ .disabled ∧ byteAt [] 0 = (0 : Fin 6).val ∧ ([] : List Byte).length ≠ 10 + 2 * rd16 [] 4)
    ∧ (let b := damaged 0
       let bad := byteAt b 0 ≠ (0 : Fin 6).val ∨ ((b.getD 1 0).getLsbD 0 = true ∧ rd16 b 4 ≠ 0)
          ∨ ((b.getD 1 0).getLsbD 0 = false ∧ rd16 b 4 ≠ 2 * (small.sensor 0).config.nSub) ∨ b.length ≠ 10 + 2 * rd16 b 4
       ¬ bad ∧ BitVec.ofNat 32 (rd32 b (6 + 2 * rd16 b 4)) ≠ crc32 (b.take (6 + 2 * rd16 b 4))
        ∧ small.loop.params.flagGate = true ∧ small.quiet = true) := by
  decide +kernel

theorem witness_DroppedFramesAreCounted_gate_off :
    ∀ x ∈ [(0, FxFunction.none), (2, .dropSaved), (4, .dropSaved), (6, .hold)],
      let s := sensor0 (fun y => { y with config := { y.config with fx := x.2 } })
        { small with loop := { small.loop with params := { small.loop.params with flagGate := false } } }
      let b := damaged x.1
      (s.sensor 0).mode ≠ .disabled ∧ frameSyntaxError 0 (s.sensor 0).config.nSub b = false ∧ frameContentError b = true
        ∧ s.loop.params.flagGate = false ∧ s.quiet = true ∧ s.loop.state ≠ .closed ∧ s.loop.state ≠ .held
        ∧ (s.sensor 0).config.fx = x.2 := by
  decide +kernel

/-- Sensor 0 with an FX function, its flag record that of the frames that `flagged` sends. -/
def fxSensor (fl : Byte) (fx : FxFunction) (mode : SensorMode) (x : Sensor) : Sensor :=
  { x with
    mode := mode, acquire := 6, config := { x.config with fx := fx }
    flags := { shutter := fl.getLsbD 0, holdreq := fl.getLsbD 1, fx := fl.getLsbD 2 } }

/-- A frame of sensor 0 with its flags, without slopes when it is SHUTTER. -/
def flagged (fl : Byte) : List Byte := sensorFrameBytes 0 fl 5 (if fl.getLsbD 0 then [] else [1, 2])

theorem witness_FrameTakenWithNoCycle :
    ∀ x ∈ [((0#8 : Byte), FxFunction.none), (4#8, .exclude), (4#8, .dropSaved), (4#8, .hold)],
      let b := flagged x.1
      (let s := sensor0 (fxSensor x.1 x.2 .acquiring) small
       s.plainFrame 0 b = true ∧ s.quiet = true ∧ (s.sensor 0).mode = .acquiring
        ∧ (s.sensor 0).acquire + 1 < (s.sensor 0).config.aGood)
      ∧ (let s := inLoop .safe (sensor0 (fxSensor x.1 x.2 .active) small)
         s.plainFrame 0 b = true ∧ s.quiet = true ∧ (s.sensor 0).mode = .active ∧ s.loop.state.closedToCycles = true
          ∧ (s.sensor 0).queue = []) := by
  decide +kernel

theorem witness_FrameTakenWithNoCycle_shutter :
    ∀ x ∈ [((1#8 : Byte), FxFunction.none, SensorMode.acquiring), (5#8, .dropSaved, .lost), (1#8, .exclude, .active)],
      let b := flagged x.1
      let s := inLoop .idle (sensor0 (fxSensor x.1 x.2.1 x.2.2) small)
      frameSyntaxError 0 (s.sensor 0).config.nSub b = false ∧ frameContentError b = false ∧ (b.getD 1 0).getLsbD 0 = true
        ∧ frameFlags b = (s.sensor 0).flags ∧ s.quiet = true ∧ (s.sensor 0).mode = x.2.2
        ∧ s.loop.state.closedToCycles = true ∧ (s.sensor 0).queue = [] := by
  decide +kernel

/-- A frame whose slopes are those of the comparison copy that `stood` holds. -/
def repeated (shutter : Bool) : Frame :=
  { fn := 5, flags := { shutter := shutter, holdreq := false, fx := false }, slopes := [1, 2], stamp := 0 }

def stood (mode : SensorMode) (acquire aGood nStale run : Nat) : Sensor :=
  { sensorOn with
    mode := mode, acquire := acquire, staleRun := run, copy := some [1, 2]
    config := { sensorOn.config with aGood := aGood, nStale := nStale } }

/-- The frame `repeated` is stale for a sensor. -/
def isStale (x : Sensor) (f : Frame) : Bool :=
  let run := if x.copy = some f.slopes then countInc255 x.staleRun else 0
  decide (f.flags.shutter = false ∧ x.config.nStale ≠ 0 ∧ x.config.nStale ≤ run)

theorem witness_AcquisitionAndQueue :
    (repeated true).flags.shutter = true ∧ (repeated false).flags.shutter = false
    ∧ (isStale (stood .acquiring 6 8 0 0) (repeated false) = false
        ∧ (stood .acquiring 6 8 0 0).acquire + 1 < (stood .acquiring 6 8 0 0).config.aGood)
    ∧ (isStale (stood .acquiring 7 8 0 0) (repeated false) = false
        ∧ (stood .acquiring 7 8 0 0).config.aGood ≤ (stood .acquiring 7 8 0 0).acquire + 1)
    ∧ (isStale (stood .lost 0 2 5 3) (repeated false) = false ∧ (stood .lost 0 2 5 3).mode = .lost)
    ∧ (isStale (stood .lost 0 1 0 0) (repeated false) = false ∧ (stood .lost 0 1 0 0).config.aGood = 1)
    ∧ (isStale (stood .active 0 8 0 0) (repeated false) = false ∧ (stood .active 0 8 0 0).mode = .active)
    ∧ (isStale (stood .acquiring 0 8 4 3) (repeated false) = true
        ∧ (stood .acquiring 0 8 4 3).staleRun < (stood .acquiring 0 8 4 3).config.nStale ∧ countInc255 3 = 4)
    ∧ (isStale (stood .lost 0 8 4 4) (repeated false) = true)
    ∧ (isStale (stood .active 0 8 4 4) (repeated false) = true
        ∧ (stood .active 0 8 4 4).config.nStale ≤ (stood .active 0 8 4 4).staleRun)
    ∧ (stood .lost 0 8 4 4).queue = []
    ∧ ({ sensorOn with queue := [repeated false, repeated false] } : Sensor).queue = [repeated false, repeated false] := by
  decide +kernel

theorem witness_AcquisitionAndQueue_lost :
    -- N_stale at its least and its largest, with a cycle that awaits the sensor and with none
    ∀ x ∈ [(4, [cycleA]), (255, [cycleA]), (4, [])],
      let s := withCycles x.2 (sensor0 (fun _ => stood .active 0 8 x.1 (x.1 - 1)) small)
      let b := flagged 0
      (s.sensor 0).mode = .active ∧ frameSyntaxError 0 (s.sensor 0).config.nSub b = false ∧ frameContentError b = false
        ∧ frameFlags b = (s.sensor 0).flags ∧ (s.sensor 0).flags.shutter = false
        ∧ (s.sensor 0).copy = some (rdS16s b 6 (2 * (s.sensor 0).config.nSub))
        ∧ (s.sensor 0).staleRun + 1 = (s.sensor 0).config.nStale ∧ (s.sensor 0).config.policy = .omit ∧ s.quiet = true
        ∧ s.loop.state = .opened ∧ s.cyc.cycles.length ≤ 1
        ∧ (∀ k ∈ s.cyc.cycles, k.awaits 0 = true ∧ k.calMark = false ∧ ∃ j, j ≠ 0 ∧ k.awaits j = true) := by
  decide +kernel

theorem witness_SensorConfiguration :
    (let s := hear .snsConfig (u16s [0, 1024, 0] ++ u32s [0, 65, 3, 0] ++ u16s [3]) small
     s.hears .snsConfig (u16s [(0 : Fin 6).val, 1024, policyCode .saved] ++ u32s [0, 65, 3, 0] ++ u16s [fxCode .dropSaved]) = true
      ∧ (s.sensor 0).mode ≠ .disabled)
    ∧ (let s := hear .snsConfig (u16s [0, 2, 1] ++ u32s [1, 1, 0, 1] ++ u16s [0]) (sensor0 (fun x => { x with mode := .disabled }) small)
       s.hears .snsConfig (u16s [(0 : Fin 6).val, 2, policyCode .omit] ++ u32s [1, 1, 0, 1] ++ u16s [fxCode .none]) = true
        ∧ (s.sensor 0).mode = .disabled ∧ 2 ≠ (s.sensor 0).config.nSub
        ∧ ∃ m : Fin 4, (s.setRec m).state ≠ .empty ∧ ∃ e ∈ (s.setRec m).participation, e.1 = 0)
    ∧ (let s := hear .snsConfig (u16s [5, 2, 1] ++ u32s [1, 1, 0, 1] ++ u16s [0]) (small.updSensor 5 fun x => { x with commitPending := true })
       s.hears .snsConfig (u16s [(5 : Fin 6).val, 2, policyCode .omit] ++ u32s [1, 1, 0, 1] ++ u16s [fxCode .none]) = true
        ∧ (s.sensor 5).mode = .disabled ∧ 2 ≠ (s.sensor 5).config.nSub ∧ (s.sensor 5).commitPending = true
        ∧ ¬ ∃ m : Fin 4, (s.setRec m).state ≠ .empty ∧ ∃ e ∈ (s.setRec m).participation, e.1 = 5)
    ∧ (let s := hear .snsConfig (u16s [5, 1024, 1] ++ u32s [255, 64, 4, 256] ++ u16s [0]) small
       s.hears .snsConfig (u16s [(5 : Fin 6).val, 1024, policyCode .omit] ++ u32s [255, 64, 4, 256] ++ u16s [fxCode .none]) = true
        ∧ (s.sensor 5).mode = .disabled ∧ (s.sensor 5).commitPending = false ∧ s.cyc.cycles = []
        ∧ ¬ ∃ m : Fin 4, (s.setRec m).state ≠ .empty ∧ ∃ e ∈ (s.setRec m).participation, e.1 = 5) := by
  decide +kernel

theorem witness_SensorSwitching :
    (let s := hear .snsEnable (u16s [0]) small
     s.hears .snsEnable (u16s [(0 : Fin 6).val]) = true ∧ (s.sensor 0).mode ≠ .disabled)
    ∧ (let s := hear .snsEnable (u16s [5]) small
       s.hears .snsEnable (u16s [(5 : Fin 6).val]) = true ∧ (s.sensor 5).mode = .disabled ∧ (s.sensor 5).config.nSub = 0)
    ∧ (let s := hear .snsEnable (u16s [0]) (sensor0 (fun x => { x with mode := .disabled }) small)
       s.hears .snsEnable (u16s [(0 : Fin 6).val]) = true ∧ (s.sensor 0).mode = .disabled ∧ (s.sensor 0).config.nSub ≠ 0)
    ∧ (let s := hear .snsDisable (u16s [5]) small
       s.hears .snsDisable (u16s [(5 : Fin 6).val]) = true ∧ (s.sensor 5).mode = .disabled)
    ∧ (let s := hear .snsDisable (u16s [0]) small
       let off := ((s.updSensor 0 fun x => { x with mode := .disabled, queue := [] }).raise .sensorState).updSaved 0
          fun x => { x with valid := false }
       s.hears .snsDisable (u16s [(0 : Fin 6).val]) = true ∧ (s.sensor 0).mode ≠ .disabled ∧ s.quiet = true
        ∧ off.inbandNow = s.loop.inband ∧ ∀ k ∈ s.cyc.cycles, k.awaits 0 = false)
    ∧ (let s := hear .snsDisable (u16s [0]) (withCycles [cycleA] small)
       let off := ((s.updSensor 0 fun x => { x with mode := .disabled, queue := [] }).raise .sensorState).updSaved 0
          fun x => { x with valid := false }
       s.hears .snsDisable (u16s [(0 : Fin 6).val]) = true ∧ (s.sensor 0).mode = .active ∧ s.cyc.cycles = [cycleA]
        ∧ cycleA.awaits 0 = true ∧ cycleA.calMark = false ∧ (∃ j, j ≠ 0 ∧ cycleA.awaits j = true)
        ∧ off.inbandNow = s.loop.inband ∧ s.quiet = true) := by
  decide +kernel

theorem witness_SensorTables_exclusion :
    (let s := hear .snsExclAdd (u16s ([0, 1] ++ [1])) small
     (s.sensor 0).exclusion.Pairwise (· < ·) ∧ s.hears .snsExclAdd (u16s ([(0 : Fin 6).val, [1].length] ++ [1])) = true
      ∧ ∃ k ∈ [1], k < 65536 ∧ (s.sensor 0).config.nSub ≤ k)
    ∧ (let s := hear .snsExclAdd (u16s ([0, 1] ++ [65])) (sensor0 (fun x => { x with
          config := { x.config with nSub := 66 }, exclusion := List.range 64 }) small)
       (s.sensor 0).exclusion.Pairwise (· < ·) ∧ s.hears .snsExclAdd (u16s ([(0 : Fin 6).val, [65].length] ++ [65])) = true
        ∧ (∀ k ∈ [65], k < (s.sensor 0).config.nSub) ∧ (s.sensor 0).config.nSub ≤ 1024
        ∧ 64 < ((s.sensor 0).exclusion ++ [65]).dedup.length)
    ∧ (let s := hear .snsExclAdd (u16s ([0, 1] ++ [65])) (sensor0 (fun x => { x with
          config := { x.config with nSub := 66 }, exclusion := List.range 63 }) small)
       s.hears .snsExclAdd (u16s ([(0 : Fin 6).val, [65].length] ++ [65])) = true
        ∧ ((s.sensor 0).exclusion ++ [65]).dedup.length ≤ 64 ∧ (s.sensor 0).exclusion.Pairwise (· < ·))
    ∧ (let s := hear .snsExclDel (u16s ([0, 1] ++ [0])) (sensor0 (fun x => { x with exclusion := [0] }) small)
       (s.sensor 0).exclusion.Pairwise (· < ·) ∧ s.hears .snsExclDel (u16s ([(0 : Fin 6).val, [0].length] ++ [0])) = true
        ∧ ∀ k ∈ [0], k < (s.sensor 0).config.nSub)
    ∧ (let s := hear .snsExclDel (u16s ([0, 1] ++ [1])) small
       (s.sensor 0).exclusion.Pairwise (· < ·) ∧ s.hears .snsExclDel (u16s ([(0 : Fin 6).val, [1].length] ++ [1])) = true
        ∧ (∃ k ∈ [1], (s.sensor 0).config.nSub ≤ k) ∧ ∀ k ∈ [1], k < 65536) := by
  decide +kernel

theorem witness_SensorTables_reference :
    (let p := u16s [0, 1, 2] ++ s16s [1, -32768]
     let s := hear .refWrite p small
     fitsS16 [1, -32768] = true ∧ s.hears .refWrite (u16s [(0 : Fin 6).val, 1, 2] ++ s16s [1, -32768]) = true
      ∧ 2 * (s.sensor 0).config.nSub < 1 + 2)
    ∧ (let p := u16s [0, 0, 2] ++ s16s [1, -32768]
       let s := hear .refWrite p (sensor0 (fun x => { x with commitPending := true }) small)
       s.hears .refWrite p = true ∧ ¬ ((s.sensor 0).config.nSub = 0 ∨ 2 * (s.sensor 0).config.nSub < 0 + 2)
        ∧ (s.sensor 0).commitPending = true)
    ∧ (let p := u16s [0, 0, 2] ++ s16s [1, -32768]
       let s := hear .refWrite p small
       s.hears .refWrite p = true ∧ ¬ ((s.sensor 0).config.nSub = 0 ∨ 2 * (s.sensor 0).config.nSub < 0 + 2)
        ∧ (s.sensor 0).commitPending = false ∧ s.cyc.cycles = [] ∧ 2 * (s.sensor 0).config.nSub ≤ (s.sensor 0).pages[(1 : Fin 2)].length)
    ∧ (let s := hear .refCommit (u16s [5]) small
       s.hears .refCommit (u16s [(5 : Fin 6).val]) = true ∧ (s.sensor 5).config.nSub = 0)
    ∧ (let s := hear .refCommit (u16s [0]) (inLoop .safe small)
       s.hears .refCommit (u16s [(0 : Fin 6).val]) = true ∧ (s.sensor 0).config.nSub ≠ 0 ∧ s.loop.state = .safe)
    ∧ (let s := hear .refCommit (u16s [0]) small
       s.hears .refCommit (u16s [(0 : Fin 6).val]) = true ∧ (s.sensor 0).config.nSub ≠ 0 ∧ s.loop.state = .opened) := by
  decide +kernel

/-! ### Cycles -/

theorem witness_DeadlineParameter :
    (hear .cycParam [1, 2, 3] small).hears .cycParam [1, 2, 3] = true
      ∧ (∀ n ∈ [49, 50, 5000, 5001, 4294967295], (hear .cycParam (u32s [n]) small).hears .cycParam (u32s [n]) = true) := by
  decide +kernel

theorem witness_CyclesEnd :
    (let s := withCycles [cycleA] small
     s.cyc.cycles = [cycleA] ∧ cycleA.abandoned = false ∧ cycleA.state = .accumulating ∧ cycleA.deadline ≠ none
      ∧ cycleA.calMark = false ∧ 0 < cycleA.outstanding ∧ s.quiet = true ∧ cycleA.awaits 0 = true
      ∧ ∀ i, cycleA.awaits i = true → (s.sensor i).mode = .active ∧ (s.sensor i).missCount + 1 < (s.sensor i).config.kMiss
          ∧ (s.sensor i).missCount < 255 ∧ (s.sensor i).config.policy = .omit)
    ∧ (let k := { cycleA with state := .draining }
       (withCycles [k] small).cyc.cycles = [k] ∧ k.abandoned = false ∧ k.state = .draining ∧ k.calMark = false)
    ∧ (let k := { cycleA with abandoned := true, calMark := true }
       (withCycles [k] small).cyc.cycles = [k] ∧ k.abandoned = true)
    ∧ (let k := { cycleA with state := .law }
       (withCycles [k] small).cyc.cycles = [k] ∧ k.state = .law ∧ (withCycles [k] small).law.deferred = none) := by
  decide +kernel

/-- A sensor whose saved contribution may be used, with a job in flight or none. -/
def substitutable (busy : Bool) : State :=
  let s := withCycles [cycleA] (sensor0 (fun x => { x with config := { x.config with policy := .saved } }) small)
  let f : Flight := { job := { kind := .substitution, bank := .bankA, sensor := 1 }, orphan := false, set := some 0,
                      nSub := 1, nAct := 2, nextRow := 0 }
  { s with recon := { s.recon with
      saved := s.recon.saved.set 0 { (s.savedOf 0) with valid := true, setTag := 0, useCount := 1 }
      inFlight := if busy then some f else none } }

theorem witness_MissHandling :
    (∀ busy, let s := substitutable busy
      (s.sensor 0).config.policy = .saved ∧ (s.savedOf 0).valid = true ∧ cycleA.set = some (s.savedOf 0).setTag
        ∧ (s.savedOf 0).useCount + s.pendingSub 0 < (s.sensor 0).config.hMax ∧ s.cyc.cycles = [cycleA]
        ∧ (s.recon.inFlight ≠ none ↔ busy = true) ∧ s.recon.queue = [])
    ∧ (withCycles [cycleA] small).cyc.cycles = [cycleA] ∧ (small.sensor 0).config.policy ≠ .saved
    ∧ (small.sensor 5).mode ≠ .active ∧ (small.sensor 0).mode = .active
    ∧ min 255 ((small.sensor 0).missCount + 1) < (small.sensor 0).config.kMiss
    ∧ (let s := sensor0 (fun x => { x with missCount := 2 }) small
       (s.sensor 0).config.kMiss ≤ min 255 ((s.sensor 0).missCount + 1) ∧ (s.sensor 0).missCount ≤ 255 ∧ s.cyc.cycles = []) := by
  decide +kernel

theorem witness_OpeningRecord : small.loop.params.timing = .atBoundary ∧ (inLoop .closed small).loop.params.timing = .atBoundary := by
  decide +kernel

/-- The part in OPEN with two cycles of FN 5 and 6. -/
def twoCycles (k k' : Cycle) : State := withCycles [k, { k' with bank := .bankB, fn := 6 }] small

theorem witness_FrameDisposition :
    let b := fun fn : Half => sensorFrameBytes 0 0 fn [1, 2]
    let common := fun (s : State) (fn : Half) => decide ((s.sensor 0).mode = .active ∧ (s.sensor 0).queue = []
      ∧ s.loop.state = .opened ∧ s.plainFrame 0 (b fn) = true ∧ ((b fn).getD 1 0).getLsbD 2 = false ∧ s.quiet = true
      ∧ (s.cyc.cycles.map fun k => k.bank).Nodup)
    -- late: the FN of the last closed cycle, and one 32,768 ahead
    (let s := { small with cyc := { small.cyc with lastClosed := some 4 } }
     common s 4 = true ∧ fnNewer 4 4 = false ∧ common s 32772 = true ∧ fnNewer 32772 4 = false)
    -- a duplicate, a contribution
    ∧ (let k := { cycleA with settlement := cycleA.settlement.set 0 .contributed }
       common (withCycles [k] small) 5 = true ∧ k.isOpen = true ∧ k.fn = 5 ∧ k.expected[(0 : Fin 6)] = true
        ∧ k.settlement[(0 : Fin 6)] ≠ .unsettled)
    ∧ (let k := { cycleA with set := none }
       common (withCycles [k] small) 5 = true ∧ k.isOpen = true ∧ k.awaits 0 = true ∧ (∃ j, j ≠ 0 ∧ k.awaits j = true)
        ∧ k.calMark = false ∧ (withCycles [k] small).participates k.set 0 = false)
    ∧ (let s := substitutable true
       s.recon.inFlight ≠ none ∧ s.participates cycleA.set 0 = true ∧ cycleA.isOpen = true ∧ cycleA.fn = 5 ∧ common s 5 = true)
    -- a new exposure with both banks bound, and with no cycle
    ∧ (let s := twoCycles { cycleA with state := .draining } cycleA
       common s 7 = true ∧ s.isLate 7 = false ∧ ({ cycleA with state := .draining } : Cycle).isOpen = false
        ∧ ∀ c ∈ s.cyc.cycles, c.isOpen = true → c.fn ≠ 7)
    ∧ (common small 5 = true ∧ small.cyc.cycles = [] ∧ small.cyc.lastClosed = none
        ∧ (small.expectedFor small.chooseSet.1)[(0 : Fin 6)] = true
        ∧ (∃ j : Fin 6, j ≠ 0 ∧ (small.expectedFor small.chooseSet.1)[j] = true) ∧ small.cal.running = false)
    -- OVERRUN
    ∧ (let s := twoCycles cycleA cycleA
       common s 7 = true ∧ cycleA.isOpen = true ∧ s.isLate (frameFn (b 7)) = false ∧ 0 < cycleA.outstanding
        ∧ ∀ j, cycleA.awaits j = true → (s.sensor j).mode = .active
          ∧ (s.sensor j).missCount + 1 < (s.sensor j).config.kMiss ∧ (s.sensor j).missCount < 255
          ∧ (s.sensor j).config.policy = .omit) := by
  decide +kernel

theorem witness_FrameDisposition_unexpected_and_skipAhead :
    let common := fun (s : State) (fn : Half) => decide ((s.sensor 0).mode = .active ∧ (s.sensor 0).queue = []
      ∧ s.loop.state = .opened ∧ s.plainFrame 0 (sensorFrameBytes 0 0 fn [1, 2]) = true ∧ s.quiet = true
      ∧ (s.cyc.cycles.map fun k => k.bank).Nodup)
    (let k := { cycleA with expected := cycleA.expected.set 0 false }
     common (withCycles [k] small) 5 = true ∧ k.isOpen = true ∧ k.fn = 5 ∧ k.expected[(0 : Fin 6)] = false)
    ∧ (let s := twoCycles cycleA cycleA
       common s 6 = true ∧ s.cyc.cycles.map (fun k => k.fn) = [5, 6]
        ∧ (∀ k ∈ s.cyc.cycles, k.isOpen = true ∧ k.awaits 0 = true ∧ k.calMark = false ∧ ∃ j, j ≠ 0 ∧ k.awaits j = true)
        ∧ (s.sensor 0).config.policy = .omit ∧ (s.sensor 0).missCount + 1 < (s.sensor 0).config.kMiss) := by
  decide +kernel

/-- A frame of sensor 0 meets the hypotheses that the cases of FrameDisposition share. -/
def offered (s : State) (b : List Byte) : Bool :=
  decide ((s.sensor 0).mode = .active ∧ (s.sensor 0).queue = [] ∧ s.loop.state.closedToCycles = false)
    && s.plainFrame 0 b && (!(b.getD 1 0).getLsbD 2 || decide ((s.sensor 0).config.fx ≠ .exclude)) && s.quiet
    && decide (s.cyc.cycles.map fun c => c.bank).Nodup

/-- A live cycle of FN 6 in LAW, nothing closed yet, and the flags and FX function of sensor 0. -/
def lateState (l : LoopState) (fl : Byte) (fx : FxFunction) : State :=
  withCycles [{ cycleA with state := .law, fn := 6 }]
    (sensor0 (fun y => { fxSensor fl fx .active y with acquire := 0 }) (inLoop l small))

theorem witness_FrameDisposition_late :
    -- older than the live cycle and equal to it, with and without a DROP_SAVED request
    (∀ l ∈ [LoopState.opened, .closed, .held],
      offered (lateState l 0 .none) (sensorFrameBytes 0 0 5 [1, 2]) = true
        ∧ offered (lateState l 0 .none) (sensorFrameBytes 0 0 6 [1, 2]) = true
        ∧ offered (lateState l 4 .dropSaved) (sensorFrameBytes 0 4 5 [1, 2]) = true)
    ∧ frameFn (sensorFrameBytes 0 4 5 [1, 2]) = 5 ∧ fnNewer 5 6 = false ∧ fnNewer 6 6 = false
    ∧ (lateState .opened 0 .none).cyc.lastClosed = none
    ∧ (∀ k ∈ (lateState .opened 0 .none).cyc.cycles, k.abandoned = false ∧ k.fn = 6 ∧ k.isOpen = false) := by
  decide +kernel

theorem witness_FrameDisposition_running :
    -- a contribution, an opening and an OVERRUN in CLOSED and HELD
    ∀ l ∈ [LoopState.closed, .held],
      offered (withCycles [cycleA] (inLoop l small)) (flagged 0) = true
        ∧ offered (inLoop l small) (flagged 0) = true ∧ cycleA.fn = frameFn (flagged 0)
        ∧ (let s := withCycles [cycleA, { cycleA with bank := .bankB, fn := 6 }] (inLoop l small)
           offered s (sensorFrameBytes 0 0 7 [1, 2]) = true ∧ s.isLate 7 = false)
        ∧ frameFlags (flagged 0) = (small.sensor 0).flags := by
  decide +kernel

theorem witness_FrameDisposition_excused :
    -- a SHUTTER frame, one with FX under EXCLUDE, and a SHUTTER frame whose FX drops the saved contribution
    ∀ x ∈ [((1#8 : Byte), FxFunction.none), (4#8, .exclude), (5#8, .dropSaved)],
      let s := sensor0 (fun y => { y with config := { y.config with fx := x.2 } }) (substitutable true)
      let b := flagged x.1
      (s.sensor 0).mode = .active ∧ (s.sensor 0).queue = [] ∧ s.loop.state = .opened
        ∧ frameSyntaxError 0 (s.sensor 0).config.nSub b = false ∧ frameContentError b = false
        ∧ (s.sensor 0).config.nStale = 0
        ∧ ((frameFlags b).shutter = true ∨ ((frameFlags b).fx = true ∧ (s.sensor 0).config.fx = .exclude))
        ∧ s.quiet = true ∧ s.cyc.cycles = [cycleA] ∧ cycleA.isOpen = true ∧ cycleA.fn = frameFn b ∧ cycleA.awaits 0 = true
        ∧ cycleA.calMark = false ∧ (∃ j, j ≠ 0 ∧ cycleA.awaits j = true) ∧ s.recon.inFlight ≠ none
        ∧ (s.sensor 0).config.policy = .saved ∧ (s.savedOf 0).valid = true ∧ cycleA.set = some (s.savedOf 0).setTag
        ∧ (s.savedOf 0).useCount + s.pendingSub 0 < (s.sensor 0).config.hMax := by
  decide +kernel

/-! ### Reconstructor sets -/

/-- A LOADING set over sensors 0 and 1, with no row yet. -/
def setLoading : SetRecord := { setFull with state := .loading, rowsLoaded := 0 }

def withSet (n : Fin 4) (r : SetRecord) (s : State) : State := s.updSet n fun _ => r

def select (x : Selection) (s : State) : State := { s with cyc := { s.cyc with selection := x } }

/-- Set n is in use (03 R57). -/
def usedSet (n : Fin 4) (s : State) : Bool :=
  let index := (allSensors.map fun i => if (s.sensor i).mode = .active then 2 ^ i.val else 0).sum
  decide ((s.setRec n).state = .complete ∧ ((∃ k ∈ s.cyc.cycles, k.set = some n) ∨ s.cyc.selection = .fixed n
    ∨ ((s.loop.state = .closed ∨ s.loop.state = .held) ∧ s.cyc.selection = .auto
      ∧ (s.cyc.degTable[index]?).getD none = some n)))

theorem witness_SetBeginAndErase :
    (∀ x ∈ [(0, 1, 0, 30), (0, 1, 1, 31), (3, 1, 0, 4294967295)],
      let p := u16s [x.1, 2, 0, x.2.1, 1, x.2.1] ++ u32s [x.2.2.2]
      (hear .setBegin p small).hears .setBegin p = true ∧ (small.sensor 0).config.nSub = x.2.1
        ∧ (small.sensor 1).config.nSub = x.2.1)
    ∧ ((small.sensor 0).config.nSub ≠ 2 ∧ (small.sensor 5).config.nSub = 0)
    ∧ State.reset.mem.nAct = 0 ∧ small.mem.nAct ≠ 0
    ∧ usedSet 0 (select (.fixed 0) small) = true ∧ usedSet 0 (withCycles [cycleA] small) = true ∧ usedSet 0 small = false
    ∧ usedSet 0 (inLoop .closed { small with cyc := { small.cyc with degTable := Vector.replicate 64 (some 0) } }) = true
    ∧ (∀ n : Fin 4, (hear .setErase (u16s [n.val]) small).hears .setErase (u16s [n.val]) = true)
    ∧ usedSet 0 (inLoop .held small) = false ∧ (inLoop .held small).cyc.selection = .auto
    ∧ (small.setRec 3).state = .empty ∧ (small.setRec 0).state = .complete ∧ small.loop.state = .opened
    ∧ small.cyc.cycles = [] ∧ small.cyc.selection = .auto
    ∧ ((withSet 1 setLoading small).setRec 1).state = .loading := by
  decide +kernel

theorem witness_SetLoadTaken :
    (let p := u16s [0, 0, 0, 2] ++ s16s [1, 2, 3, -32768]
     let s := hear .setLoad p (withSet 0 setLoading small)
     s.hears .setLoad p = true ∧ (s.setRec 0).state = .loading ∧ (s.setRec 0).nSubOf 0 = some 1
      ∧ [(1 : Int), 2, 3, -32768].length = 2 * (2 * 1) ∧ 0 + 2 ≤ s.mem.nAct
      ∧ s.mem.arbiter = { current := none, waiting := [] } ∧ s.recon.inFlight = none ∧ s.recon.queue = [])
    ∧ (let p := u16s [0, 5, 0, 1] ++ s16s [1, 2]
       (hear .setLoad p small).hears .setLoad p = true ∧ (small.setRec 0).state ≠ .loading
        ∧ ∀ e ∈ setLoading.participation, e.1 ≠ 5)
    ∧ (∀ x ∈ [(0, 0, ([] : List Int)), (0, 1, [1]), (1, 2, [1, 2, 3, 4])],
      let p := u16s [0, 0, x.1, x.2.1] ++ s16s x.2.2
      (hear .setLoad p (withSet 0 setLoading small)).hears .setLoad p = true
        ∧ (x.2.1 = 0 ∨ x.2.2.length ≠ x.2.1 * (2 * 1) ∨ small.mem.nAct < x.1 + x.2.1)) := by
  decide +kernel

/-- SET.LOAD is writing row `row` of sensor 1 of set 0, with `rest` behind it. -/
def loadingRow (row loaded : Nat) (rest : List (List Int)) : State :=
  let s := hear .setLoad [] (withSet 0 { setLoading with rowsLoaded := loaded } small)
  (s.setProgress (.loading 0 1 row ([7, -9] :: rest))).setArbiter { current := some .loadRow, waiting := [] }

theorem witness_SetRowWrite :
    ∀ x ∈ [(0, 0, ([[1, 2]] : List (List Int))), (1, 2, []), (1, 3, [])],
      let s := loadingRow x.1 x.2.1 x.2.2
      s.mem.dram.wf = true ∧ s.mem.arbiter = { current := some .loadRow, waiting := [] }
      ∧ (s.link.executing.map fun c => c.progress) = some (.loading 0 1 x.1 ([7, -9] :: x.2.2))
      ∧ fitsS16 [7, -9] = true ∧ s.recon.inFlight = none ∧ s.recon.queue = [] := by
  decide +kernel

theorem witness_SelectionAndTable :
    (∀ x ∈ [(0, 65535), (1, 3), (1, 4), (2, 0), (1, 0)],
      (hear .setSelect (u16s [x.1, x.2]) small).hears .setSelect (u16s [x.1, x.2]) = true)
    ∧ (small.setRec 3).state ≠ .complete ∧ (small.setRec 0).state = .complete
    ∧ ∀ x ∈ [(63, [4]), (64, [0]), (0, [5, 0]), (62, [0, 3])],
      (hear .degWrite (u16s (x.1 :: x.2.length :: x.2)) small).hears .degWrite (u16s (x.1 :: x.2.length :: x.2)) = true := by
  decide +kernel

theorem witness_GeometryClearsWhatDependsOnIt :
    (∀ n ∈ [0, 768, 769, 3072, 3073], (hear .devGeom (u16s [n]) State.reset).hears .devGeom (u16s [n]) = true)
    ∧ State.reset.loop.state = .idle ∧ State.reset.cyc.cycles = [] ∧ State.reset.cal.running = false
    ∧ (∀ m : Fin 4, (State.reset.setRec m).state = .empty)
    ∧ small.loop.state ≠ .idle ∧ (∃ m : Fin 4, (small.setRec m).state ≠ .empty)
    ∧ (withCycles [{ cycleA with abandoned := true, set := none }] State.reset).cyc.cycles ≠ [] := by
  decide +kernel

/-! ### Reconstruction -/

/-- The DRAM with coefficients and errors in the first row of sensor 0 in set 0. -/
def rowDram (e : List (Nat × WordError)) : Dram := { data := [(0, 3), (1, 65535)], errors := e }

def flight (kind : JobKind) (orphan : Bool) (row : Nat) : Flight :=
  { job := { kind := kind, bank := .bankA, sensor := 0 }, orphan := orphan, set := some 0, nSub := 1, nAct := 2,
    nextRow := row }

/-- A job of sensor 0 in flight for the cycle k. -/
def jobState (f : Flight) (k : Cycle) (l : List Cycle) : State :=
  let s := withCycles l { small with recon := { small.recon with
    inFlight := some f, buffer := [5, -6] ++ List.replicate 3070 0, bankA := [1, 2] ++ List.replicate 3070 0
    saved := small.recon.saved.set 0 { (small.savedOf 0) with valid := true, setTag := 0, vector := [8, 9] } } }
  { s with cyc := { s.cyc with pendingSubs := (Vector.replicate 6 0).set 0 k.outstanding } }

theorem witness_JobRows :
    (∀ row ∈ [0, 1],
      let s := ((jobState (flight (.contribution [10, -20]) false row) cycleA [cycleA]).setDram (rowDram [(0, .single)])).setArbiter
        { current := some .jobRow, waiting := [] }
      let dram := s.mem.dram.upset (coefficientSlot 0 0 row) []
      s.mem.arbiter.current = some .jobRow ∧ s.recon.inFlight = some (flight (.contribution [10, -20]) false row)
        ∧ [(10 : Int), -20].length = 2 * 1
        ∧ some WordError.double ∉ (List.range 1).map fun w => dram.wordError (coefficientSlot 0 0 row / 4 + w))
    ∧ (∀ orphan,
      let k := { cycleA with outstanding := 1 }
      let f := flight (.contribution [10, -20]) orphan 0
      let s := ((jobState f k (if orphan then [] else [k])).setDram (rowDram [(0, .double)])).setArbiter
        { current := some .jobRow, waiting := [] }
      s.mem.arbiter = { current := some .jobRow, waiting := [] } ∧ s.recon.inFlight = some f
        ∧ (s.mem.dram.upset (coefficientSlot 0 0 0) []).wordError 0 = some .double
        ∧ s.recon.queue = [] ∧ s.cyc.reoffer = false ∧ (∀ i, (s.sensor i).queue = []) ∧ s.law.inProgress = none
        ∧ (orphan = true → s.cyc.cycles = []) ∧ (orphan = false → s.cyc.cycles = [k])
        ∧ k.bank = f.job.bank ∧ k.abandoned = false ∧ k.state = .accumulating ∧ k.outstanding = 1 ∧ k.calMark = false) := by
  decide +kernel

theorem witness_JobCompletes :
    -- a live cycle ACCUMULATING with one job or DRAINING with two, and an abandoned one
    (∀ x ∈ [(CycleState.accumulating, 1, false), (.draining, 2, false), (.draining, 2, true)], ∀ orphan,
      let k := { cycleA with state := x.1, outstanding := x.2.1, abandoned := x.2.2 }
      let f := flight (.contribution [10, -20]) orphan 2
      let s := jobState f k [k]
      s.recon.inFlight = some f ∧ f.nAct ≤ f.nextRow ∧ s.mem.arbiter = { current := none, waiting := [] }
        ∧ s.cyc.reoffer = false ∧ s.cyc.cycles = [k] ∧ k.bank = f.job.bank ∧ k.set = some 0 ∧ s.drained
        ∧ (k.state = .accumulating ∨ 1 < k.outstanding))
    ∧ (∀ x ∈ [((0 : Fin 4), CycleState.accumulating, 1, false), (1, .draining, 2, false), (0, .draining, 2, true)],
      let k := { cycleA with set := some x.1, state := x.2.1, outstanding := x.2.2.1, abandoned := x.2.2.2 }
      let f := flight .substitution false 0
      let s := jobState f k [k]
      s.recon.inFlight = some f ∧ s.mem.arbiter = { current := none, waiting := [] } ∧ s.cyc.reoffer = false
        ∧ s.cyc.cycles = [k] ∧ s.drained ∧ (k.state = .accumulating ∨ 1 < k.outstanding) ∧ s.recon.queue = []
        ∧ (s.savedOf 0).valid = true ∧ (k.set = some (s.savedOf 0).setTag ↔ x.1 = 0)) := by
  unfold State.drained; decide +kernel

/-! ### Control law and mirror limits -/

/-- Actuators whose limits are those the rows give. -/
def actsOf (l : List (Int × Int × ActMode)) : Nat → ActRecord := fun i =>
  (l.map fun x => ({ lo := x.1, hi := x.2.1, flat := 0, gain := 0, mode := x.2.2 } : ActRecord)).getD i
    { lo := 0, hi := 0, flat := 0, gain := 0, mode := .dead }

theorem witness_ActuatorSteps :
    (∀ m ∈ [ActMode.normal, .frozen, .dead],
      let a : ActRecord := { lo := -5, hi := -5, flat := 0, gain := 0, mode := m }
      a.lo ≤ a.hi)
    -- either order of a pair at the limit and one beyond it, each member NORMAL or not, wide limits and narrow ones
    ∧ (∀ x ∈ [(900, 100), (100, 900), (100, 610), (610, 100), (100, 611)], ∀ m ∈ [ActMode.normal, .frozen, .dead],
        ∀ m' ∈ [ActMode.normal, .frozen], ∀ w ∈ [(0 : Int), 40],
      let act := fun i => if i = 0 ∨ i = 1 then actsOf [(-w, w, m), (-w, w, m')] i else ActRecord.reset
      let u : Int := x.1
      let v : Int := x.2
      let p : PassState := { scratch := [u, v], flags := [false, true], adjustments := 0 }
      (vget p.scratch 0 = u ∧ vget p.scratch 1 = v)
        ∧ ((u - v).natAbs ≤ (510 : Int) ∨ ((510 : Int) < (u - v).natAbs ∧ u ≠ v))
        ∧ (act 0).lo ≤ (act 0).hi ∧ (act 1).lo ≤ (act 1).hi ∧ (act 2).lo ≤ (act 2).hi
        ∧ 0 < p.flags.length ∧ 1 < p.flags.length ∧ (act 0).mode = m ∧ (act 1).mode = m'
        -- no member is brought back into the wide limits, every one into the narrow ones
        ∧ (w = 40 → 256 * (-w) ≤ u - 290 ∧ u + 290 ≤ 256 * w ∧ 256 * (-w) ≤ v - 290 ∧ v + 290 ≤ 256 * w)
        ∧ (w = 0 → ∀ y ∈ [u - (((u - v).natAbs : Int) - 509) / 2, u + (((u - v).natAbs : Int) - 510) / 2],
            max (256 * (-w)) (min (256 * w) y) ≠ y)) := by
  decide +kernel

theorem witness_NeighbourPassKeepsLimits :
    ∀ i, (actsOf [(-40, 40, .normal), (5, 5, .frozen)] i).lo ≤ (actsOf [(-40, 40, .normal), (5, 5, .frozen)] i).hi := by
  intro i
  match i with
  | 0 | 1 => decide
  | _ + 2 => simp [actsOf]

theorem witness_LawBegins_lastJob :
    ∀ abandoned, ∀ kind ∈ [JobKind.substitution, .contribution [10, -20]],
      let k := { cycleA with state := .draining, abandoned := abandoned }
      let f := flight kind false 2
      let s := jobState f k [k]
      s.recon.inFlight = some f ∧ f.ready = true ∧ k.bank = f.job.bank ∧ s.mem.arbiter = { current := none, waiting := [] } ∧ s.cyc.reoffer = false
        ∧ s.cyc.cycles = [k] ∧ k.outstanding = 1 ∧ s.recon.queue = [] ∧ s.law.inProgress = none
        ∧ ∀ i, (s.sensor i).queue = [] := by
  decide +kernel

def lawRun (mode : LawMode) (superseded : Bool) : LawRun :=
  { fn := 5, bank := .bankA, set := some 0, mode := mode, superseded := superseded, gain := 16384, leak := 32768,
    gainSource := .global, dMax := 0, residual := [4, 5], q := 20, satFlags := [true, false], adjustments := 0,
    violations := 0 }

/-- A law in progress for the cycle in bank A. -/
def inLaw (mode : LawMode) (superseded : Bool) : State :=
  let s := withCycles [{ cycleA with state := .law, outstanding := 0 }] (inLoop (if mode = .opened then .opened else .closed) small)
  { s with law := { s.law with inProgress := some (lawRun mode superseded), scratch := [100, 200] } }

theorem witness_LawCompletes :
    ∀ x ∈ [(LawMode.normal, false), (.normal, true), (.held, false), (.opened, false)],
      let s := inLaw x.1 x.2
      s.law.inProgress = some (lawRun x.1 x.2) ∧ (lawRun x.1 x.2).satFlags.length = s.mem.nAct
        ∧ s.cyc.cycles = [{ cycleA with state := .law, outstanding := 0 }] ∧ cycleA.bank = (lawRun x.1 x.2).bank
        ∧ s.law.deferred = none ∧ s.cal.running = false ∧ s.mon.snapState ≠ .armed ∧ s.loop.params.rDiv = 0
        ∧ s.cyc.reoffer = false ∧ (∀ i, (s.sensor i).queue = []) ∧ s.recon.inFlight = none ∧ s.recon.queue = []
        ∧ s.mem.arbiter.waiting = [] := by
  decide +kernel

def actPayload (first : Nat) (new : List ActRecord) : List Byte :=
  u16s [first, new.length] ++ new.flatMap fun a => s16s [a.lo, a.hi, a.flat] ++ u16s [a.gain, actModeCode a.mode]

/-- A record at the ends of its fields. -/
def extreme (mode : ActMode) : ActRecord := { lo := -32768, hi := 32767, flat := -1, gain := 65535, mode := mode }

theorem witness_ActuatorWrite :
    (∀ x ∈ [(0, [extreme .normal, extreme .dead]), (1, [extreme .frozen]), (2, [extreme .normal]),
        (0, [{ extreme .normal with lo := 5, hi := 4 }])],
      (hear .actWrite (actPayload x.1 x.2) small).hears .actWrite (actPayload x.1 x.2) = true
        ∧ (∀ a ∈ x.2, fitsS16 [a.lo, a.hi, a.flat] = true ∧ a.gain < 65536))
    ∧ small.law.inProgress = none ∧ small.mem.nAct ≤ small.law.actuators.length ∧ small.mem.nAct ≤ small.law.z.length
    ∧ small.cal.measuring = false
    ∧ (let s := hear .actWrite (actPayload 1 [extreme .dead]) (inLaw .held false)
       s.hears .actWrite (actPayload 1 [extreme .dead]) = true ∧ s.law.inProgress = some (lawRun .held false)
        ∧ s.cal.running = false ∧ (s.link.executing.map fun c => c.noReply) = some false ∧ 1 + 1 ≤ s.mem.nAct
        ∧ s.mon.snapState ≠ .armed ∧ s.cyc.cycles.length = 1 ∧ s.recon.queue = [] ∧ s.mem.arbiter.waiting = []
        ∧ 1 + 1 ≤ s.law.actuators.length
        ∧ (({ s with law := { s.law with deferred := some (1, [extreme .dead]) } } : State).setProgress .deferred).link.progress
          = some .deferred) := by
  decide +kernel

theorem witness_NeighbourListEdits :
    (∀ g ∈ [[(1, 0)], [(0, 0)], [(0, 2)], [(0, 1), (1, 0)]],
      let p := u16s (g.length :: g.flatMap fun q : Nat × Nat => [q.1, q.2])
      (hear .nbrAdd p small).hears .nbrAdd p = true)
    ∧ (hear .nbrClear [] small).hears .nbrClear [] = true ∧ small.law.neighbours.Nodup ∧ small.mem.nAct = 2
    ∧ small.loop.state = .opened ∧ (inLoop .safe small).loop.state = .safe := by
  decide +kernel

/-- A full neighbour list among 3,072 actuators. -/
def fullPairs : List (Nat × Nat) := (List.range 4).flatMap fun d => (List.range 1536).map fun i => (i, i + d + 1)

theorem witness_NeighbourListEdits_full :
    (∀ q ∈ fullPairs, q.1 < q.2 ∧ q.2 < 3072) ∧ fullPairs.length = 6144 ∧ fullPairs.Nodup ∧ (0, 3071) ∉ fullPairs := by
  refine ⟨?_, by simp [fullPairs], ?_, by simp [fullPairs]⟩
  · intro q h
    simp only [fullPairs, List.mem_flatMap, List.mem_range, List.mem_map] at h
    obtain ⟨d, _, i, _, rfl⟩ := h
    simp; omega
  · refine List.nodup_flatMap.mpr ⟨fun d _ => (List.nodup_range).map fun a b h => (Prod.mk.inj h).1, ?_⟩
    refine List.nodup_range.imp fun hne => ?_
    intro q h h'
    simp only [List.mem_map] at h h'
    obtain ⟨_, _, rfl⟩ := h
    obtain ⟨_, _, h⟩ := h'
    have h1 := (Prod.mk.inj h).1
    have h2 := (Prod.mk.inj h).2
    omega

def driveState (l : LinkState) (waiting : Bool) (f : Nat) (s : State) : State :=
  s.updLink 0 fun x => { x with state := l, waiting := waiting, seq := 9, failCount := f, timer := if l = .busy then some 100 else none }

theorem witness_CommitFormsCodesAndReachesLinks :
    ((driveState .idle false 0 small).driveLink 0).state = .idle ∧ ((driveState .failed false 0 small).driveLink 0).state = .failed
    ∧ (∀ w, ((driveState .busy w 0 small).driveLink 0).state = .busy ∧ ((driveState .busy w 0 small).driveLink 0).waiting = w)
    ∧ (small.driveLink 3).state = .unused := by
  decide +kernel

/-! ### Loop states and holds -/

theorem witness_RestRequests : small.cal.measuring = false ∧ (inLaw .normal false).cal.measuring = false := by decide +kernel

theorem witness_LoopOpenAndClose :
    (∀ l ∈ [LoopState.idle, .opened, .closed, .held, .safe],
      let s := hear .loopOpen [] (inLoop l small)
      s.hears .loopOpen [] = true ∧ s.loop.state = l ∧ s.mem.nAct ≠ 0 ∧ s.cal.running = false
        ∧ ¬ ∃ d : Fin 4, 768 * d.val < s.mem.nAct ∧ (s.driveLink d).state = .failed)
    ∧ (hear .loopOpen [] State.reset).mem.nAct = 0
    ∧ (0 : Nat) < (driveState .failed false 0 small).mem.nAct
    ∧ ((driveState .failed false 0 small).driveLink 0).state = .failed
    ∧ (∀ l ∈ [LoopState.opened, .safe], (hear .loopClose [] (inLoop l small)).hears .loopClose [] = true)
    ∧ (let s := hear .loopClose [] (select (.fixed 0) small)
       s.loop.state = .opened ∧ s.cal.running = false ∧ (s.setRec 0).state = .complete ∧ s.cyc.selection = .fixed 0)
    ∧ (let s := hear .loopClose [] (select (.fixed 1) small)
       s.loop.state = .opened ∧ s.cal.running = false ∧ (s.setRec 1).state ≠ .complete ∧ s.cyc.selection = .fixed 1)
    ∧ ({ small with cal := { small.cal with running := true } } : State).cal.running = true := by
  decide +kernel

def holdParams (t : HoldTiming) (e : Exclusivity) (s : State) : State :=
  { s with loop := { s.loop with params := { s.loop.params with timing := t, exclusivity := e } } }

theorem witness_HoldOnsetsAndReleases_outside :
    small.quiet = true ∧ small.loop.state = .opened ∧ (hear .loopHold [] small).hears .loopHold [] = true
      ∧ (hear .loopRelease [] small).hears .loopRelease [] = true ∧ (hear .loopRelease [] small).quiet = true := by
  decide +kernel

theorem witness_HoldOnsetsAndReleases_onset :
    (∀ x ∈ [(HoldTiming.atBoundary, Exclusivity.shared), (.atBoundary, .commandOnly), (.immediate, .commandOnly)],
      let s := hear .loopHold [] (holdParams x.1 x.2 (inLoop .closed small))
      s.quiet = true ∧ s.loop.state = .closed ∧ s.effectiveHold = false ∧ s.mon.snapState ≠ .armed
        ∧ s.loop.params.timing = x.1 ∧ s.loop.params.exclusivity = x.2 ∧ s.hears .loopHold [] = true)
    ∧ (let s := holdParams .immediate .shared (inLaw .normal false)
       s.quiet = true ∧ s.loop.state = .closed ∧ s.effectiveHold = false ∧ s.mon.snapState ≠ .armed
        ∧ s.law.inProgress = some (lawRun .normal false) ∧ s.cyc.cycles = [{ cycleA with state := .law, outstanding := 0 }]
        ∧ s.law.deferred = none ∧ s.recon.queue = [] ∧ ∀ i, (s.sensor i).queue = []) := by
  decide +kernel

theorem witness_HoldOnsetsAndReleases_held :
    ∀ x ∈ [(false, true, Exclusivity.shared), (true, false, .shared), (false, false, .commandOnly), (true, true, .commandOnly)],
      ∀ m ∈ [Message.loopHold, .loopRelease],
      let s0 := holdParams .atBoundary x.2.2 (inLoop .held small)
      let s := hear m [] { s0 with
        cyc := { s0.cyc with degraded := true }, loop := { s0.loop with command := x.1, holdnLow := x.2.1 } }
      s.quiet = true ∧ s.loop.state = .held ∧ s.loop.params.exclusivity = x.2.2 ∧ s.hears m [] = true
        ∧ s.loop.command = x.1 ∧ s.loop.diverge = false ∧ s.loop.holdnLow = x.2.1 := by
  decide +kernel

theorem witness_HoldOnsetsAndReleases_release :
    ∀ x ∈ [(true, false, false), (true, true, false), (false, true, false), (false, false, true), (true, true, true)],
      let s0 := holdParams .atBoundary .shared (inLoop .held small)
      let s := hear .loopRelease [] { s0 with loop := { s0.loop with holdnLow := x.1, command := x.2.1, diverge := x.2.2 } }
      s.quiet = true ∧ s.loop.state = .held ∧ s.loop.params.exclusivity = .shared ∧ s.hears .loopRelease [] = true
        ∧ s.loop.inband = false ∧ s.cyc.degraded = false := by
  decide +kernel

/-- Everything that an entry to rest ends: a law, a cycle, a run, a pending reference commit. -/
def busyState (l : LoopState) : State :=
  let s := inLoop l (inLaw .normal false)
  { (sensor0 (fun x => { x with commitPending := true }) s) with cal := { s.cal with running := l = .opened } }

theorem witness_EntryToRest :
    ∀ l ∈ [LoopState.idle, .opened, .closed, .held, .safe],
      let s := busyState l
      (s.cyc.cycles.map fun k => k.bank).Nodup ∧ (∀ i, (s.sensor i).queue = []) ∧ s.law.deferred = none
        ∧ s.loop.state = l ∧ (hear .loopStop [] s).hears .loopStop [] = true ∧ (hear .loopSafe [] s).hears .loopSafe [] = true
        ∧ (hear .loopReset [] (inLoop l small)).hears .loopReset [] = true ∧ (inLoop l small).cyc.cycles = []
        ∧ (inLoop l small).cal.running = false := by
  decide +kernel

theorem witness_LoopParameters :
    (∀ x ∈ [(65535, 32768, 65535, 32767, 1), (65536, 32769, 65536, 32768, 0), (0, 0, 0, 0, 255), (0, 0, 0, 0, 256)],
      let p := u32s [x.1, x.2.1] ++ u16s [gainSourceCode .individual] ++ u32s [x.2.2.1]
        ++ u16s [timingCode .atBoundary, exclusivityCode .shared, gateCode true] ++ u32s [x.2.2.2.1, x.2.2.2.2]
      (hear .loopParam p small).hears .loopParam p = true ∧ (hear .loopParam p small).quiet = true
        ∧ small.loop.state = .opened)
    ∧ (let s0 := holdParams .atBoundary .commandOnly (inLoop .closed small)
       let s := { s0 with loop := { s0.loop with holdnLow := true } }
       s.loop.state = .closed ∧ s.effectiveHold = false ∧ s.loop.holdnLow = true ∧ s.mon.snapState ≠ .armed
        ∧ s.quiet = true) := by
  decide +kernel

theorem witness_LoopParameters_held :
    -- HOLDN or INBAND, alone or with the COMMAND latch, under either setting
    ∀ x ∈ [(true, false, false), (false, true, false), (true, true, true), (false, false, true)],
      ∀ e ∈ [(Exclusivity.shared, Exclusivity.commandOnly), (.commandOnly, .shared)],
      let p := u32s [0, 0] ++ u16s [gainSourceCode .global] ++ u32s [0]
        ++ u16s [timingCode .atBoundary, exclusivityCode e.2, gateCode true] ++ u32s [0, 5]
      let s0 := holdParams .atBoundary e.1 (inLoop .held small)
      let s := hear .loopParam p { s0 with loop := { s0.loop with holdnLow := x.1, inband := x.2.1, command := x.2.2 } }
      s.quiet = true ∧ s.hears .loopParam p = true ∧ s.loop.state = .held ∧ e.2 ≠ s.loop.params.exclusivity
        ∧ s.loop.holdnLow = x.1 ∧ s.loop.inband = x.2.1 ∧ s.loop.command = x.2.2 ∧ s.cyc.degraded = false
        ∧ s.loop.diverge = false := by
  decide +kernel

theorem witness_LoopParameters_divergence :
    ∀ x ∈ [(0, 1, 0, 0), (1, 1, 0, 65536), (1, 2, 0, 65537), (1, 2, 1, 65537)],
      let s0 := inLoop .closed small
      let s := { s0 with loop := { s0.loop with
        runCount := x.2.2.1, params := { s0.loop.params with rDiv := x.1, nDiv := x.2.1 } } }
      let top := (256 * s.loop.params.rDiv) * (256 * s.loop.params.rDiv)
      s.loop.params.rDiv = 0 ∨ x.2.2.2 ≤ top
        ∨ (top < x.2.2.2 ∧ (s.loop.runCount + 1 < s.loop.params.nDiv ∨ s.loop.params.nDiv ≤ s.loop.runCount + 1)
          ∧ s.loop.state = .closed ∧ s.effectiveHold = false) := by
  decide +kernel

/-! ### Drive links -/

theorem witness_Acknowledgements :
    (∀ b ∈ [([] : List Byte), (ackBytes 0 9 0).dropLast, ackBytes 1 9 0, (ackBytes 0 9 0).dropLast ++ [0]],
      b.length ≠ 7 ∨ byteAt b 0 ≠ (0 : Fin 4).val ∨ BitVec.ofNat 32 (rd32 b 3) ≠ crc32 (b.take 3))
    ∧ (∀ x ∈ [(false, 0), (true, 0), (false, 1), (false, 2)],
      let s := driveState .busy x.1 x.2 small
      (s.driveLink 0).state = .busy ∧ (s.driveLink 0).waiting = x.1 ∧ (s.driveLink 0).seq = 9 ∧ (s.driveLink 0).timer ≠ none
        ∧ ((s.driveLink 0).failCount + 1 < s.drive.fMax ∨ s.drive.fMax ≤ (s.driveLink 0).failCount + 1))
    ∧ small.drive.fMax = 3 ∧ (small.driveLink 3).state ≠ .busy
    ∧ (∀ l ∈ [LoopState.idle, .opened, .closed, .held, .safe],
      ((inLoop l (driveState .busy false 2 small)).driveLink 0).state = .busy
        ∧ ((inLoop l (driveState .busy false 2 small)).cyc.cycles.map fun k => k.bank).Nodup) := by
  decide +kernel

def pokePayload (given : List (Nat × Int)) : List Byte :=
  u16s [given.length] ++ given.flatMap fun e => u16s [e.1] ++ s16s [e.2]

theorem witness_Acknowledgements_reject :
    (∀ v ∈ [(1#8 : Byte), 255#8], v ≠ 0)
    ∧ (∀ l ∈ [LoopState.idle, .opened, .closed, .held, .safe], ∀ f ∈ [1, 2],
      let s := inLoop l (driveState .busy true f small)
      (s.driveLink 0).state = .busy ∧ (s.driveLink 0).seq = 9 ∧ s.drive.fMax = 3
        ∧ ((s.driveLink 0).failCount + 1 < s.drive.fMax ↔ f = 1)) := by
  decide +kernel

theorem witness_DriveMessages :
    (∀ x ∈ [(20, 1), (19, 0), (2000, 15), (2001, 16)], (hear .drvParam (u32s [x.1, x.2]) small).hears .drvParam (u32s [x.1, x.2]) = true)
    ∧ (∀ g ∈ [[((0 : Nat), (32767 : Int))], [(0, 5), (0, -6)], [(1, -32768)], [(2, 0)]],
      let s := hear .drvPoke (pokePayload g) (inLoop .idle small)
      s.hears .drvPoke (pokePayload g) = true ∧ s.loop.state = .idle ∧ s.cal.measuring = false ∧ s.mem.nAct = 2)
    ∧ small.loop.state ≠ .idle
    ∧ (∀ d : Fin 4, (hear .drvRestart (u16s [d.val]) small).hears .drvRestart (u16s [d.val]) = true)
    ∧ ((driveState .failed false 0 small).driveLink 0).state = .failed ∧ (small.driveLink 0).state ≠ .failed := by
  decide +kernel

/-! ### Poke calibration -/

theorem witness_CalibrationRun :
    (∀ g ∈ [([] : List (Nat × Nat)), [(0, 0)], [(1, 32768)], [(1, 32767)], [(2, 1)]],
      let p := u16s (g.length :: g.flatMap fun e => [e.1, e.2])
      (hear .calLoad p small).hears .calLoad p = true ∧ small.cal.running = false ∧ small.mem.nAct = 2)
    ∧ (∀ x ∈ [(15, 1), (16, 0), (0, 64), (0, 65)],
      let s := hear .calStart (u32s [x.1, x.2]) { small with cal := { small.cal with pokeList := [(1, 300)] } }
      s.hears .calStart (u32s [x.1, x.2]) = true ∧ s.loop.state = .opened ∧ s.cal.running = false
        ∧ s.cal.pokeList = [(1, 300)] ∧ (s.sensor 0).mode = .active)
    ∧ small.cal.pokeList = [] ∧ (inLoop .idle small).loop.state ≠ .opened
    ∧ ({ small with cal := { small.cal with running := true } } : State).cal.running = true
    ∧ (hear .calStop [] small).hears .calStop [] = true := by
  decide +kernel

def aRecord : ResponseRecord := freshRecord (1, 300)

/-- A run over sensor 0 in the given phase, with the given voids, settled cycles and measured cycles. -/
def inRun (phase : Phase) (voids settle measure : Nat) : State :=
  { small with cal := { small.cal with
    running := true, nS := 1, nM := 2, sensors := [(0, 1)], pokeList := [(1, 300)], records := [aRecord], phase := some phase
    serial := 7, voids := voids, settle := settle, measure := measure, push := (Vector.replicate 6 []).set 0 [1, 2] } }

def tallyOf (serial : Nat) (e : TallyEntry) : Tally :=
  { bank := .bankA, serial := serial, entries := (Vector.replicate 6 .nothing).set 0 e }

theorem witness_CalibrationTallies :
    -- another serial, a void, the ninth void, a settling cycle, a measured one, and the last of the phase
    (∀ x ∈ [((6 : Nat), TallyEntry.nothing, (0 : Nat), (0 : Nat), (0 : Nat)), (7, .miss, 7, 0, 0), (7, .nothing, 8, 0, 0),
        (7, .slopes [3, 4], 0, 0, 0), (7, .slopes [3, 4], 0, 1, 0), (7, .slopes [3, 4], 0, 1, 1)], ∀ pull : Bool,
      let s0 := inRun (if pull then .pull else .push) x.2.2.1 x.2.2.2.1 x.2.2.2.2
      let s := { s0 with cal := { s0.cal with tallies := [tallyOf x.1 x.2.1] } }
      s.cal.running = true ∧ s.cal.phase = some (if pull then .pull else .push)
        ∧ s.cal.records[s.cal.entry]? = some aRecord
        ∧ (x.2.1 = .slopes [3, 4] ∨ ∀ l ∈ [[], [(3 : Int), 4]], (tallyOf x.1 x.2.1).entries[(0 : Fin 6)] ≠ .slopes l)
        ∧ s.cal.serial = 7 ∧ s.cal.voids = x.2.2.1 ∧ s.cal.settle = x.2.2.2.1 ∧ s.cal.nS = 1 ∧ s.cal.nM = 2
        ∧ (x.2.2.2.2 = 0 → s.cal.measure + 1 < s.cal.nM) ∧ (x.2.2.2.2 = 1 → s.cal.nM ≤ s.cal.measure + 1))
    ∧ (∀ ph ∈ [Phase.push, .pull, .storing], (inRun ph 0 0 0).cal.records[(inRun ph 0 0 0).cal.entry]? = some aRecord
        ∧ (inRun ph 0 0 0).cal.running = true ∧ (inRun ph 0 0 0).cal.phase = some ph)
    ∧ (inRun .storing 0 0 0).cal.sensors.find? (fun e => decide (e.1 = 0)) = some (0, 1) ∧ 1 ≤ (inRun .storing 0 0 0).cal.nM := by
  decide +kernel

/-- A run with one marked cycle and its tally. -/
def marked (phase : Phase) (voids serial : Nat) (k : Cycle) : State :=
  let s := withCycles [k] (inRun phase voids 1 1)
  { s with cal := { s.cal with tallies := [tallyOf serial .nothing] } }

theorem witness_CalibrationTallies_abandoned :
    ∀ st ∈ [CycleState.accumulating, .draining, .law], ∀ phase ∈ [Phase.push, .pull, .storing], ∀ x ∈ [(0, 6), (7, 7), (8, 7)],
      let k := { cycleA with calMark := true, state := st }
      let s := marked phase x.1 x.2 k
      s.cyc.cycles = [k] ∧ k.calMark = true ∧ k.abandoned = false ∧ s.cal.tallies = [tallyOf x.2 .nothing]
        ∧ (tallyOf x.2 .nothing).bank = k.bank ∧ s.cal.running = true ∧ s.cal.phase = some phase ∧ s.cal.serial = 7
        ∧ s.cal.voids = x.1 ∧ s.cal.records[s.cal.entry]? = some aRecord ∧ s.law.deferred = none := by
  decide +kernel

theorem witness_CalibrationTallies_lastFrame :
    let k := { cycleA with calMark := true, settlement := cycleA.settlement.set 1 .contributed }
    let s0 := marked .push 0 7 k
    let s := { s0 with recon := (substitutable true).recon }
    let b := flagged 0
    let slopes := (s.sensor 0).corrected k.binding[(0 : Fin 6)] (rdS16s b 6 (2 * (s.sensor 0).config.nSub))
    (s.sensor 0).mode = .active ∧ (s.sensor 0).queue = [] ∧ s.loop.state = .opened ∧ s.plainFrame 0 b = true
      ∧ (b.getD 1 0).getLsbD 2 = false ∧ s.quiet = true ∧ s.cyc.cycles = [k] ∧ k.isOpen = true ∧ k.fn = frameFn b
      ∧ k.awaits 0 = true ∧ (∀ j, j ≠ 0 → k.awaits j = false) ∧ 0 < k.outstanding ∧ s.recon.inFlight ≠ none
      ∧ k.calMark = true ∧ s.cal.tallies = [tallyOf 7 .nothing] ∧ (tallyOf 7 .nothing).bank = k.bank
      ∧ (0, 1) ∈ s.cal.sensors ∧ s.cal.slopesOf 0 = slopes.length ∧ s.cal.phase = some .push := by
  decide +kernel

theorem witness_CalibrationTallies_deadline :
    ∀ pull : Bool,
      let k := { cycleA with calMark := true }
      let s := marked (if pull then .pull else .push) 7 7 k
      s.cyc.cycles = [k] ∧ k.abandoned = false ∧ k.state = .accumulating ∧ k.deadline ≠ none ∧ k.calMark = true
        ∧ 0 < k.outstanding ∧ s.quiet = true
        ∧ (∀ i, k.awaits i = true → (s.sensor i).mode = .active ∧ (s.sensor i).missCount + 1 < (s.sensor i).config.kMiss
          ∧ (s.sensor i).missCount < 255 ∧ (s.sensor i).config.policy = .omit)
        ∧ s.cal.tallies = [tallyOf 7 .nothing] ∧ (tallyOf 7 .nothing).bank = k.bank ∧ (tallyOf 7 .nothing).serial = s.cal.serial
        ∧ s.cal.running = true ∧ s.cal.phase = some (if pull then .pull else .push)
        ∧ s.cal.records[s.cal.entry]? = some aRecord ∧ s.cal.voids + 1 < 9 ∧ (∃ e ∈ s.cal.sensors, k.awaits e.1 = true) := by
  decide +kernel

/-- A response row of sensor 0 is being written; `more` sensors and `records` follow. -/
def storingRow (live : Bool) (storing : List (Fin 6)) (records : List ResponseRecord) : State :=
  let s := inRun .storing 0 0 0
  ({ s with cal := { s.cal with storing := storing, records := records } } : State).setArbiter
    { current := some (.calWrite 0 0 [5, -7] live), waiting := [] }

theorem witness_ResponseWrite :
    ∀ x ∈ [(false, [(0 : Fin 6), 1], [aRecord]), (true, [0, 1], [aRecord]), (true, [0], [aRecord]), (true, [0], [aRecord, aRecord])],
      let s := storingRow x.1 x.2.1 x.2.2
      s.mem.dram.wf = true ∧ s.mem.arbiter = { current := some (.calWrite 0 0 [5, -7] x.1), waiting := [] }
        ∧ fitsS16 [5, -7] = true ∧ s.recon.inFlight = none ∧ s.recon.queue = [] ∧ s.cal.storing = x.2.1
        ∧ s.cal.records[s.cal.entry]? = some aRecord ∧ s.cal.records = x.2.2 := by
  decide +kernel

/-- A finished run of one entry over sensor 0. -/
def afterRun (complete : Bool) : State :=
  let s := inRun .storing 0 0 0
  { s with cal := { s.cal with running := false, phase := none, records := [{ aRecord with complete := complete }] } }

theorem witness_ResponseReadout :
    (∀ x ∈ [(0, 0, 0, 2), (0, 0, 1, 2), (1, 0, 0, 1), (0, 1, 0, 1)],
      let p := u16s [x.1, x.2.1, x.2.2.1, x.2.2.2]
      (hear .calRead p (afterRun true)).hears .calRead p = true)
    ∧ (∀ complete, let s := afterRun complete
      s.cal.records[(0 : Nat)]? = some { aRecord with complete := complete } ∧ s.cal.records.length ≤ 1
        ∧ s.cal.sensors.find? (fun x => decide (x.1 = 0)) = some (0, 1)
        ∧ s.mem.arbiter = { current := none, waiting := [] } ∧ s.recon.inFlight = none ∧ s.recon.queue = [])
    ∧ (∀ e ∈ [WordError.single, .double],
      let s := (((hear .calRead [] (afterRun true)).setProgress (.reading 0 0 0 2)).setDram
        { data := [], errors := [(responseSlot 0 0 / 4, e)] }).setArbiter { current := some .calRead, waiting := [] }
      s.link.progress = some (.reading 0 0 0 2) ∧ s.mem.arbiter = { current := some .calRead, waiting := [] }
        ∧ s.cal.records.length = 1 ∧ s.recon.inFlight = none ∧ s.recon.queue = []
        ∧ ((s.mem.dram.upset (responseSlot 0 0) []).wordError (responseSlot 0 0 / 4) = some e)) := by
  decide +kernel

/-! ### Monitoring and capture -/

theorem witness_CountersCleared :
    (hear .statClear [0] small).hears .statClear [0] = true ∧ (hear .statClear [] small).hears .statClear [] = true := by
  decide +kernel

/-- The peak capture is armed; the buffer of bank A holds slopes of sensor 0 when `filled`. -/
def peaksArmed (filled : Bool) : State :=
  { small with mon := { small.mon with
    peakArmed := true, bufA := (Vector.replicate 6 none).set 0 (if filled then some [3, -4] else none) } }

theorem witness_PeakCaptureTakesLargestSlopes :
    (hear .peakArm [0] small).hears .peakArm [0] = true ∧ (hear .peakArm [] small).hears .peakArm [] = true
    ∧ (hear .peakRead [] small).hears .peakRead [] = true
    ∧ (peaksArmed true).mon.peakArmed = true ∧ small.mon.peakArmed = false
    ∧ (∃ i : Fin 6, ((peaksArmed true).buffer .bankA)[i] ≠ none) ∧ (∀ i : Fin 6, ((peaksArmed false).buffer .bankA)[i] = none) := by
  decide +kernel

theorem witness_PeakCaptureTakesLargestSlopes_stays :
    ∃ t, exec (.holdnChange true) (peaksArmed true) = .next t ∧ (peaksArmed true).mon.peakArmed = true := ⟨_, rfl, rfl⟩

theorem witness_PeakCaptureTakesLargestSlopes_lastJob :
    ∀ abandoned, ∀ kind ∈ [JobKind.substitution, .contribution [10, -20]],
      let k := { cycleA with state := .draining, abandoned := abandoned }
      let f := flight kind false 2
      let s := { jobState f k [k] with mon := (peaksArmed true).mon }
      s.recon.inFlight = some f ∧ f.ready = true ∧ f.orphan = false ∧ s.mem.arbiter = { current := none, waiting := [] }
        ∧ s.cyc.reoffer = false ∧ s.cyc.cycles = [k] ∧ k.bank = f.job.bank ∧ k.state = .draining ∧ k.outstanding = 1
        ∧ s.recon.queue = [] ∧ s.law.inProgress = none ∧ (∀ i, (s.sensor i).queue = []) ∧ s.mon.peakArmed = true
        ∧ (s.buffer k.bank)[(0 : Fin 6)] ≠ none := by
  decide +kernel

def snapped (st : SnapState) (trigger : SnapTrigger) (seen : Bool) (s : State) : State :=
  { s with mon := { s.mon with
    snapState := st, snapTrigger := trigger, snapThreshold := 1, snapSelection := 7, onsetSeen := seen, snapContent := [1, 2] } }

theorem witness_SnapshotFiresAndFills_messages :
    (∀ x ∈ [(0, 1, 1), (1, 3072, 7), (2, 3073, 7), (0, 0, 4), (3, 1, 1), (0, 1, 0), (0, 1, 8)],
      let p := u16s [x.1] ++ u32s [x.2.1] ++ u16s [x.2.2]
      (hear .snapArm p small).hears .snapArm p = true)
    ∧ small.mon.snapState ≠ .filling ∧ (snapped .filling .next false small).mon.snapState = .filling
    ∧ (hear .snapStatus [] small).hears .snapStatus [] = true
    ∧ (∀ x ∈ [(0, 2), (1, 2), (2, 1), (1, 1)],
      let s := hear .snapRead (u16s [x.1, x.2]) (snapped .full .next false small)
      s.hears .snapRead (u16s [x.1, x.2]) = true ∧ s.mon.snapState = .full ∧ s.mon.snapContent.length = 2) := by
  decide +kernel

theorem witness_SnapshotFiresAndFills_onset :
    ∀ x ∈ [(SnapState.armed, SnapTrigger.onHold), (.armed, .next), (.full, .onHold)],
      ∀ timing ∈ [HoldTiming.atBoundary, .immediate],
      let s := hear .loopHold [] (snapped x.1 x.2 false (holdParams timing .shared (inLoop .closed small)))
      s.quiet = true ∧ s.loop.state = .closed ∧ s.effectiveHold = false ∧ s.law.inProgress = none
        ∧ s.loop.params.exclusivity = .shared ∧ s.hears .loopHold [] = true ∧ s.mon.snapState = x.1
        ∧ s.mon.snapTrigger = x.2 := by
  decide +kernel

theorem witness_SnapshotFiresAndFills_content :
    (∀ n ∈ [0, 1],
      let s0 := snapped .armed .onSaturation false (inLaw .normal false)
      let s := { s0 with law := { s0.law with satCount := n } }
      s.mon.snapState = .armed ∧ s.mon.snapTrigger = .onSaturation ∧ (s.mon.snapThreshold ≤ s.law.satCount ↔ n = 1))
    ∧ ∀ x ∈ [(SnapTrigger.next, false), (.onHold, true)],
      let s := snapped .armed x.1 x.2 (inLaw .held false)
      s.mon.snapState = .armed ∧ (s.mon.snapTrigger = .next ∨ (s.mon.snapTrigger = .onHold ∧ s.mon.onsetSeen = true))
        ∧ s.law.inProgress = some (lawRun .held false) ∧ s.cyc.cycles = [{ cycleA with state := .law, outstanding := 0 }]
        ∧ s.law.deferred = none ∧ s.cyc.reoffer = false ∧ (∀ i, (s.sensor i).queue = []) ∧ s.recon.inFlight = none
        ∧ s.recon.queue = [] ∧ s.mem.arbiter.waiting = [] := by
  decide +kernel

theorem witness_MonitorLines :
    (∀ x ∈ [(0, 0, 0), (1, 11, 1), (2, 0, 0), (0, 12, 0), (0, 0, 2)],
      let p := u16s [x.1, x.2.1, x.2.2]
      (hear .monSelect p small).hears .monSelect p = true) := by
  decide +kernel

theorem witness_MonitorLines_clear : ∃ t, exec .devClear small = .next t := ⟨_, rfl⟩

/-! ### Control link, messages and notices -/

def linkState (queue : Nat) (executing : Bool) (replies : List Status) : State :=
  let f : CommandFrame := { name := messageName .devIdent, tag := 1, payload := [] }
  let s := if executing then hear .devIdent [] small else small
  { s with link := { s.link with
    queue := List.replicate queue f
    transmitter := replies.map fun st => { name := f.name, tag := 1, status := st, data := [] } } }

theorem witness_CommandFrameIsReceived :
    (messageName .statRead).length = 12 ∧ (List.replicate 8192 (0#8)).length ≤ 8192
    ∧ (linkState 0 false [.queueFull]).link.receiver = .hunting false
    ∧ (linkState 0 false [.queueFull]).link.queue = [] ∧ (linkState 0 false [.queueFull]).link.executing = none
    ∧ (¬ ∃ r ∈ (linkState 0 false [.queueFull]).link.transmitter, r.status ≠ .queueFull)
    ∧ (linkState 3 true []).link.queue.length < 4 ∧ (linkState 3 true []).link.executing ≠ none
    ∧ (∃ r ∈ (linkState 0 false [.done]).link.transmitter, r.status ≠ .queueFull)
    ∧ (∀ n ∈ [6, 7], 4 ≤ (linkState 4 true (List.replicate n .queueFull)).link.queue.length
        ∧ (linkState 4 true (List.replicate n .queueFull)).link.transmitter.countP (fun r => decide (r.status = .queueFull)) = n) := by
  decide +kernel

def muted (c : Execution) : Execution := { c with noReply := true }

def unnamed (c : Execution) : Execution := { c with frame := { c.frame with name := List.replicate 12 0 } }

theorem witness_ControlLinkEvents :
    (let body := beBytes 2 0 ++ messageName .statRead ++ beBytes 4 (7#32).toNat ++ ([] : List Byte)
     small.link.receiver = .hunting false ∧ (messageName .statRead).length = 12 ∧ (0#32) ≠ crc32 body)
    ∧ (8192 < (8193#16).toNat ∧ (8192#16).toNat ≤ 8192)
    ∧ (let s := hear .peakArm [] (linkState 1 false [])
       let t : State := { s with link := { s.link with executing := s.link.executing.map muted } }
       t.hears .peakArm [] = true ∧ (t.link.executing.map fun c => c.noReply) = some true ∧ t.link.transmitter = []
        ∧ t.link.queue.length = 1)
    ∧ ((linkState 1 false [.done]).link.executing = none ∧ (linkState 1 false [.done]).link.queue.length = 1
        ∧ (linkState 1 false [.done]).link.transmitter.length = 1)
    ∧ (linkState 1 true [.queueFull, .done]).link.transmitter.length = 2
    ∧ (let s := hear .devIdent [] small
       let t : State := { s with link := { s.link with executing := s.link.executing.map unnamed } }
       t.link.progress = some .taken ∧ nameKnown (List.replicate 12 0) = false) := by
  decide +kernel

theorem witness_NotifyLine :
    (∀ v ∈ [0, 4095, 4096, 65535], (hear .ntcMask (u16s [v]) small).hears .ntcMask (u16s [v]) = true)
    ∧ (hear .ntcMask [0] small).hears .ntcMask [0] = true ∧ (hear .ntcPoll [0] small).hears .ntcPoll [0] = true
    ∧ (hear .ntcPoll [] small).hears .ntcPoll [] = true := by
  decide +kernel

theorem witness_DeviceIdentity :
    (hear .devIdent [0] small).hears .devIdent [0] = true ∧ (hear .devIdent [] small).hears .devIdent [] = true := by
  decide +kernel

theorem witness_DeviceClearLeavesRest :
    (hear .devClear [] (busyState .closed)).hears .devClear [] = true ∧ (hear .devClear [] (busyState .closed)).quiet = true := by
  decide +kernel

/-! ### Reports -/

theorem witness_TableReportsGiveTheTables :
    (∀ i : Fin 6, (hear .snsStatus (u16s [i.val]) small).hears .snsStatus (u16s [i.val]) = true
        ∧ (hear .snsExclList (u16s [i.val]) small).hears .snsExclList (u16s [i.val]) = true)
    ∧ (∀ x ∈ [(0, 2047, 1), (1, 0, 2048), (2, 0, 0), (1, 1, 2048)],
      let p := u16s [0, x.1, x.2.1, x.2.2]
      (hear .refRead p small).hears .refRead p = true)
    ∧ (∀ n : Fin 4, (hear .setStatus (u16s [n.val]) small).hears .setStatus (u16s [n.val]) = true)
    ∧ (∀ x ∈ [(0, 64), (63, 1), (63, 2)], (hear .degRead (u16s [x.1, x.2]) small).hears .degRead (u16s [x.1, x.2]) = true)
    ∧ (∀ x ∈ [(0, 2), (1, 2)], (hear .actRead (u16s [x.1, x.2]) small).hears .actRead (u16s [x.1, x.2]) = true
        ∧ (hear .nbrRead (u16s [x.1, x.2]) small).hears .nbrRead (u16s [x.1, x.2]) = true)
    ∧ (∀ n ∈ [372, 373], let s := hear .actRead (u16s [0, n]) { small with mem := { small.mem with nAct := 373 } }
      s.hears .actRead (u16s [0, n]) = true ∧ 0 + n ≤ s.mem.nAct ∧ (22 * n ≤ 8192 ↔ n = 372))
    ∧ small.mem.nAct = 2 ∧ small.loop.state = .opened ∧ (inLoop .closed small).loop.state = .closed := by
  decide +kernel

theorem witness_TableReportsGiveTheTables_pairs :
    ∀ n ∈ [2047, 2048], (hear .nbrRead (u16s [0, n]) small).hears .nbrRead (u16s [0, n]) = true
      ∧ 0 + n ≤ 6144 ∧ (2 + 4 * n ≤ 8192 ↔ n = 2047) := by
  decide +kernel

theorem witness_StatusReportsGiveTheState :
    ∀ m ∈ [Message.cycStatus, .loopStatus, .drvStatus, .calStatus, .statRead],
      (hear m [] (withCycles [cycleA] small)).hears m [] = true := by
  decide +kernel

end Sys2Proof.Tests
end

/-! The correction of a frame's slopes (01 R9, R10): what each case of Table 1.4 gives, read off `slopeCase` once, then the
corrected list, the counts and the mean square of a frame over the slope indices that fall under each case. -/

namespace Sys2Proof.Machine

/-! ## One slope (01 Table 1.4) -/

section OneSlope

variable (exclusion : List Nat) (page : List Int) (j : Nat) (raw : Int)

/-- A slope that the first two cases leave is its difference to the reference, clamped to −32767..32767: the last two cases of
the table are one clamp. -/
theorem slopeCase_value :
    (slopeCase exclusion page j raw).value =
      if j / 2 ∈ exclusion then 0 else if raw = -32768 then 0 else min 32767 (max (-32767) (raw - vget page j)) := by
  unfold slopeCase
  split_ifs with excluded unmeasured below above
  · rfl
  · rfl
  · have clamp_below : min 32767 (max (-32767) (raw - vget page j)) = -32767 := by omega
    exact clamp_below.symm
  · have clamp_above : min 32767 (max (-32767) (raw - vget page j)) = 32767 := by omega
    exact clamp_above.symm
  · have clamp_inside : min 32767 (max (-32767) (raw - vget page j)) = raw - vget page j := by omega
    exact clamp_inside.symm

theorem slopeCase_value_bounds :
    -32767 ≤ (slopeCase exclusion page j raw).value ∧ (slopeCase exclusion page j raw).value ≤ 32767 := by
  rw [slopeCase_value]
  split_ifs <;> omega

theorem slopeCase_measured :
    (slopeCase exclusion page j raw).measured = (decide (¬ j / 2 ∈ exclusion) && decide (raw ≠ -32768)) := by
  unfold slopeCase
  split_ifs <;> simp [SlopeCase.measured, *]

theorem slopeCase_eq_noMeasurement :
    decide (slopeCase exclusion page j raw = .noMeasurement) = (decide (¬ j / 2 ∈ exclusion) && decide (raw = -32768)) := by
  unfold slopeCase
  split_ifs <;> simp [*]

/-- Only a slope that is not zeroed can saturate, and it does where the difference leaves −32767..32767. -/
theorem slopeCase_isSaturated :
    (slopeCase exclusion page j raw).isSaturated =
      ((decide (raw - vget page j < -32767) || decide (32767 < raw - vget page j))
        && (slopeCase exclusion page j raw).measured) := by
  unfold slopeCase
  split_ifs <;> simp [SlopeCase.isSaturated, SlopeCase.measured, *]

end OneSlope

/-! ## The slopes of a frame -/

/-- The cases with a property, by the slope indices that have it. -/
theorem Sensor.filter_slopeCases (x : Sensor) (p : Fin 2) (raw : List Int) (P : SlopeCase → Bool) :
    (x.slopeCases p raw).filter P =
      ((List.range raw.length).filter fun j => P (slopeCase x.exclusion (x.page p) j (vget raw j))).map
        fun j => slopeCase x.exclusion (x.page p) j (vget raw j) := by
  rw [Sensor.slopeCases, List.filter_map]
  rfl

theorem Sensor.corrected_eq_map (x : Sensor) (p : Fin 2) (raw : List Int) :
    x.corrected p raw =
      (List.range raw.length).map fun j => (slopeCase x.exclusion (x.page p) j (vget raw j)).value := by
  rw [Sensor.corrected, Sensor.slopeCases, List.map_map]
  rfl

/-- A bound that holds of 0 and of every entry holds of whatever is read, inside the list or beyond its end. -/
theorem vget_of_forall_mem {P : Int → Prop} {v : List Int} (zero : P 0) (h : ∀ x ∈ v, P x) (i : Nat) : P (vget v i) := by
  rw [vget, List.getD_eq_getElem?_getD]
  cases hi : v[i]? with
  | none => exact zero
  | some x => exact h x (List.mem_of_getElem? hi)

theorem Sensor.vget_corrected_bounds (x : Sensor) (p : Fin 2) (raw : List Int) (j : Nat) :
    -32767 ≤ vget (x.corrected p raw) j ∧ vget (x.corrected p raw) j ≤ 32767 := by
  refine vget_of_forall_mem (P := fun e => -32767 ≤ e ∧ e ≤ 32767) (by decide) (fun e he => ?_) j
  rw [Sensor.corrected_eq_map] at he
  obtain ⟨k, -, rfl⟩ := List.mem_map.mp he
  exact slopeCase_value_bounds ..

/-- The mean square of a frame, by the indices of the slopes that were not zeroed. -/
theorem Sensor.meanSquareOf_slopeCases (x : Sensor) (p : Fin 2) (raw : List Int) :
    meanSquareOf (x.slopeCases p raw) =
      let used := (List.range raw.length).filter fun j => (slopeCase x.exclusion (x.page p) j (vget raw j)).measured
      (used.map fun j => (slopeCase x.exclusion (x.page p) j (vget raw j)).value.natAbs ^ 2).sum / used.length := by
  simp only [meanSquareOf, Sensor.filter_slopeCases, List.map_map, List.length_map]
  rfl

/-! ## What a correction does to its sensor -/

theorem State.sensor_correct (s : State) (i : Fin 6) (p : Fin 2) (raw : List Int) :
    (s.correct i p raw).sensor i =
      let x := s.sensor i
      let cases := x.slopeCases p raw
      { x with
        meanSquare := meanSquareOf cases
        counters := { x.counters with
          noMeasurement := counterAdd x.counters.noMeasurement (cases.filter fun c => decide (c = .noMeasurement)).length
          saturatedCorrection :=
            counterAdd x.counters.saturatedCorrection (cases.filter SlopeCase.isSaturated).length } } := by
  rw [State.correct, State.sensor_updSensor]

theorem State.sensor_correct_ne (s : State) {i j : Fin 6} (p : Fin 2) (raw : List Int) (h : j ≠ i) :
    (s.correct i p raw).sensor j = s.sensor j :=
  State.sensor_updSensor_ne s _ h

/-- Settles O16: each conjunct is a lemma above, with the case of a slope read by `slopeCase_value`, `slopeCase_measured`,
`slopeCase_eq_noMeasurement` and `slopeCase_isSaturated`. -/
theorem slopeCorrection : Obligations.SlopeCorrection := by
  intro s i p raw x y excluded e used
  have value_eq : ∀ j, (slopeCase x.exclusion (x.page p) j (vget raw j)).value = e j := fun j => slopeCase_value ..
  have used_eq :
      ((List.range raw.length).filter fun j => (slopeCase x.exclusion (x.page p) j (vget raw j)).measured) = used :=
    List.filter_congr fun j _ => slopeCase_measured ..
  have meanSquare_eq : y.meanSquare = (used.map fun j => (e j).natAbs * (e j).natAbs).sum / used.length := by
    simp only [y, State.sensor_correct]
    rw [Sensor.meanSquareOf_slopeCases, used_eq]
    simp only [x, value_eq, Nat.pow_two]
  refine ⟨?corrected, x.vget_corrected_bounds p raw, meanSquare_eq, ?allZeroed, ?noMeasurement, ?saturated,
    fun j hj => s.sensor_correct_ne p raw hj⟩
  case corrected =>
    simp only [Sensor.corrected_eq_map, value_eq]
  case allZeroed =>
    intro none_used
    simp [meanSquare_eq, none_used]
  case noMeasurement =>
    simp only [y, State.sensor_correct, Sensor.filter_slopeCases, List.length_map, slopeCase_eq_noMeasurement]
    rfl
  case saturated =>
    simp only [y, State.sensor_correct, Sensor.filter_slopeCases, List.length_map, ← used_eq, List.filter_filter,
      slopeCase_isSaturated]
    rfl

end Sys2Proof.Machine

/-! The deadline (02 R51): what CYC.PARAM does with a payload of four bytes and with any other, over whatever its field reads. -/

namespace Sys2Proof.Machine

theorem clampNat_eq_min_max {lo hi : Nat} (ordered : lo ≤ hi) (x : Nat) : clampNat lo hi x = min hi (max lo x) := by
  unfold clampNat
  split_ifs with below above
  · rw [max_eq_left below.le, min_eq_right ordered]
  · rw [max_eq_right (not_lt.mp below), min_eq_left above.le]
  · rw [max_eq_right (not_lt.mp below), min_eq_right (not_lt.mp above)]

@[simp] theorem rd32_u32s_singleton (n : Nat) : rd32 (u32s [n]) 0 = n % 4294967296 := by
  rw [u32s_cons, rd32_beBytes]

section CycParam

variable {s : State} {p : List Byte} (heard : s.hears .cycParam p = true)
include heard

theorem exec_cycParam_of_length_ne (ill_formed : p.length ≠ 4) : exec .cycParam s = .next (s.refuse .badForm) :=
  calc exec .cycParam s
    _ = execCycParam s := rfl
    _ = .next (s.refuse .badForm) := by rw [execCycParam, runMessage_of_hears heard, if_pos ill_formed]

theorem exec_cycParam_of_length_eq (well_formed : p.length = 4) :
    exec .cycParam s =
      let taken := min 5000 (max 50 (rd32 p 0))
      .next (({ s with cyc := { s.cyc with tDl := taken } } : State).reply
        (if taken = rd32 p 0 then .done else .clamped) (if taken = rd32 p 0 then [] else [.u32 taken])) := by
  change execCycParam s = _
  rw [execCycParam, runMessage_of_hears heard, if_neg (not_not.mpr well_formed), clampNat_eq_min_max (by decide)]
  by_cases in_range : min 5000 (max 50 (rd32 p 0)) = rd32 p 0
  · simp [in_range, doneOr]
  · simp [in_range, doneOr]

end CycParam

/-- Settles O20: the lengths other than 4, then the one of 4, whose field reads as the number sent; an opening cycle's timer is
started with the deadline by the record's definition. -/
theorem deadlineParameter : Obligations.DeadlineParameter := by
  intro s
  refine ⟨fun p heard ill_formed => exec_cycParam_of_length_ne heard ill_formed, fun n fits heard => ?stored,
    fun bank fn set => rfl⟩
  case stored =>
    have field_reads : rd32 (u32s [n]) 0 = n := by rw [rd32_u32s_singleton, Nat.mod_eq_of_lt fits]
    simpa only [field_reads] using exec_cycParam_of_length_eq heard (length_u32s [n])

end Sys2Proof.Machine

/-! The clearing of the counters (09 R168): what is read of a sensor and of a drive link after it, and what STAT.CLEAR does with
an empty payload and with any other. -/

namespace Sys2Proof.Machine

/-! ## The cleared state, read through the vectors of sensors and links -/

@[simp] theorem State.sensor_clearCounters (s : State) (i : Fin 6) :
    s.clearCounters.sensor i = { s.sensor i with counters := SensorCounters.zero } := by
  simp [State.sensor, State.clearCounters]

@[simp] theorem State.driveLink_clearCounters (s : State) (d : Fin 4) :
    s.clearCounters.driveLink d = { s.driveLink d with frames := 0, failures := 0, late := 0, superseded := 0 } := by
  simp [State.driveLink, State.clearCounters]

/-! ## The message -/

section StatClear

variable {s : State} {p : List Byte} (heard : s.hears .statClear p = true)
include heard

theorem exec_statClear_of_ne_nil (ill_formed : p ≠ []) : exec .statClear s = .next (s.refuse .badForm) :=
  calc exec .statClear s
    _ = execStatClear s := rfl
    _ = .next (s.refuse .badForm) := by
      rw [execStatClear, runMessage_of_hears heard, if_pos (mt List.eq_nil_of_length_eq_zero ill_formed)]

theorem exec_statClear_of_eq_nil (well_formed : p = []) : exec .statClear s = .next (s.clearCounters.reply .done []) :=
  calc exec .statClear s
    _ = execStatClear s := rfl
    _ = .next (s.clearCounters.reply .done []) := by
      rw [execStatClear, runMessage_of_hears heard, if_neg (not_not.mpr (List.length_eq_zero_iff.mpr well_formed))]

end StatClear

/-- Settles O50: the state before the reply is `State.clearCounters`. Its sensors and links are read entry by entry; every other
block is in view in the record update. -/
theorem countersCleared : Obligations.CountersCleared := by
  intro s
  refine ⟨fun p heard ill_formed => exec_statClear_of_ne_nil heard ill_formed, fun heard => ?cleared⟩
  case cleared =>
    exact ⟨s.clearCounters, exec_statClear_of_eq_nil heard rfl, s.sensor_clearCounters, rfl, rfl, rfl, rfl,
      s.driveLink_clearCounters, rfl, rfl, rfl, rfl, rfl, rfl, rfl⟩

end Sys2Proof.Machine

/-! The notify line (10 R187 to R190): the twelve conditions are the places of the notice words, so a word is 0 when no condition
has its place set; then what a raise adds, the level of NTFN, and what NTC.MASK and NTC.POLL do with each payload. -/

namespace Sys2Proof.Machine

/-! ## The places of the conditions -/

theorem noticeIndex_lt (n : Notice) : noticeIndex n < 12 := by
  cases n <;> decide

theorem ofNat_noticeIndex (n : Notice) : Notice.ofNat (noticeIndex n) = n := by
  cases n <;> rfl

/-- Every place of a notice word belongs to a condition. -/
theorem noticeIndex_ofNat : ∀ i : Fin 12, noticeIndex (Notice.ofNat i) = i := by
  decide

theorem noticeIndex_inj {n m : Notice} : noticeIndex n = noticeIndex m ↔ n = m :=
  (Function.LeftInverse.injective ofNat_noticeIndex).eq_iff

theorem noticeBits_ne_zero_iff (w : NoticeBits) : w ≠ 0 ↔ ∃ n : Notice, w.getLsbD (noticeIndex n) = true := by
  constructor
  · intro nonzero
    by_contra none_set
    refine nonzero (BitVec.eq_of_getLsbD_eq fun i hi => ?_)
    have place_clear := not_exists.mp none_set (Notice.ofNat i)
    rw [noticeIndex_ofNat ⟨i, hi⟩] at place_clear
    simpa using place_clear
  · rintro ⟨n, place_set⟩ rfl
    simp at place_set

/-! ## Raises and the level of the line -/

theorem State.isPending_raise_eq (s : State) (n m : Notice) :
    (s.raise n).isPending m = (decide (m = n) || s.isPending m) := by
  by_cases same : m = n
  · subst same
    simp [State.isPending_raise]
  · have other_place : noticeIndex m - noticeIndex n ≠ 0 ∨ noticeIndex m < noticeIndex n := by
      have := mt noticeIndex_inj.mp same
      omega
    simp only [State.isPending, State.raise, BitVec.getLsbD_or, BitVec.getLsbD_shiftLeft, BitVec.getLsbD_one, same]
    rcases other_place with h | h <;> simp [h]

theorem State.ntfnLow_iff (s : State) :
    s.ntfnLow = true ↔ ∃ n : Notice, s.isPending n = true ∧ s.link.masks.getLsbD (noticeIndex n) = false := by
  simp only [State.ntfnLow, decide_eq_true_eq, noticeBits_ne_zero_iff, State.isPending, BitVec.getLsbD_and, BitVec.getLsbD_not,
    noticeIndex_lt, decide_true, Bool.true_and, Bool.and_eq_true, Bool.not_eq_true']

/-! ## The messages -/

/-- The twelve masks replaced as a whole by the low places of a field. -/
def State.withMasks (s : State) (v : Nat) : State := { s with link := { s.link with masks := BitVec.ofNat 12 v } }

/-- NTFN after the replacement, by the places of the field itself. -/
theorem State.ntfnLow_withMasks (s : State) (v : Nat) :
    (s.withMasks v).ntfnLow = true ↔ ∃ n : Notice, s.isPending n = true ∧ v.testBit (noticeIndex n) = false := by
  simp only [State.ntfnLow_iff, State.isPending, State.withMasks, BitVec.getLsbD_ofNat, noticeIndex_lt, decide_true, Bool.true_and]

section NtcMask

variable {s : State} {p : List Byte} (heard : s.hears .ntcMask p = true)
include heard

theorem exec_ntcMask_of_length_ne (ill_formed : p.length ≠ 2) : exec .ntcMask s = .next (s.refuse .badForm) :=
  calc exec .ntcMask s
    _ = execNtcMask s := rfl
    _ = .next (s.refuse .badForm) := by rw [execNtcMask, runMessage_of_hears heard, if_pos ill_formed]

theorem exec_ntcMask_of_length_eq (well_formed : p.length = 2) :
    exec .ntcMask s =
      if 4096 ≤ rd16 p 0 then .next (s.refuse .badValue)
      else .next ((s.withMasks (rd16 p 0)).reply .done
        [noticeField (BitVec.ofNat 12 (rd16 p 0)), noticeField s.link.notices]) := by
  change execNtcMask s = _
  rw [execNtcMask, runMessage_of_hears heard, if_neg (not_not.mpr well_formed)]
  split_ifs <;> rfl

end NtcMask

section NtcPoll

variable {s : State} {p : List Byte} (heard : s.hears .ntcPoll p = true)
include heard

theorem exec_ntcPoll_of_ne_nil (ill_formed : p ≠ []) : exec .ntcPoll s = .next (s.refuse .badForm) :=
  calc exec .ntcPoll s
    _ = execNtcPoll s := rfl
    _ = .next (s.refuse .badForm) := by
      rw [execNtcPoll, runMessage_of_hears heard, if_pos (mt List.eq_nil_of_length_eq_zero ill_formed)]

theorem exec_ntcPoll_of_eq_nil (well_formed : p = []) :
    exec .ntcPoll s = .next (({ s with link := { s.link with notices := 0 } } : State).reply .done
      [noticeField s.link.notices, noticeField s.link.masks]) := by
  change execNtcPoll s = _
  rw [execNtcPoll, runMessage_of_hears heard, if_neg (not_not.mpr (List.length_eq_zero_iff.mpr well_formed))]

end NtcPoll

/-- A field of at most twelve places is reported back as it was sent. -/
theorem noticeField_ofNat {v : Nat} (fits : v < 4096) : noticeField (BitVec.ofNat 12 v) = .u16 v := by
  rw [noticeField, BitVec.toNat_ofNat, Nat.mod_eq_of_lt fits]

/-- Settles O56: NTFN and the raises by the places of the conditions; NTC.MASK by its length, then on either side of 4,096;
NTC.POLL by its length. -/
theorem notifyLine : Obligations.NotifyLine := by
  intro s
  refine ⟨s.ntfnLow_iff, s.isPending_raise_eq, fun p heard ill_formed => exec_ntcMask_of_length_ne heard ill_formed,
    fun v fits heard => ?mask, fun p heard ill_formed => exec_ntcPoll_of_ne_nil heard ill_formed,
    fun heard => exec_ntcPoll_of_eq_nil heard rfl⟩
  case mask =>
    have field_reads : rd16 (u16s [v]) 0 = v := by rw [u16s_cons, rd16_beBytes, Nat.mod_eq_of_lt fits]
    have outcome := exec_ntcMask_of_length_eq heard (length_u16s [v])
    rw [field_reads] at outcome
    constructor
    · intro above
      rw [outcome, if_pos above]
    · intro below
      rw [if_neg (not_le.mpr below), noticeField_ofNat below] at outcome
      exact ⟨s.withMasks v, outcome, rfl, s.ntfnLow_withMasks v⟩

end Sys2Proof.Machine

/-! What a step keeps. A step is made of many small operations, and nearly every promise of the manual says that some aspect of
the part stays as it is, or stays sound, through all of them. `Aspect` lists these aspects, `State.Keeps free s t` says that all of
them but the free ones are kept from `s` to `t`; each operation is shown once to keep them. -/

namespace Sys2Proof.Machine

-- One theorem at a time: each worker thread reserves memory of its own.
set_option Elab.async false

/-- One thing that the operations inside a step keep. -/
inductive Aspect where
  | pending | freeCount | holdn | params | resting | config | exclusion | pages | tDl | degTable | selection | nAct | data
  | memory | neighbours | ack | pokeList | lines | masks | notices | replies | linked | coded | failed | bound | drained
  | restful | peaks
  deriving DecidableEq

/-- The peak capture is armed or has been made (09 R170, R171). -/
def State.peaksWanted (s : State) : Prop := s.mon.peakArmed = true ∨ s.mon.peakFn ≠ none

/-- The aspect is kept from `s` to `t`: a setting stays as it is, an invariant stays true. -/
def Aspect.keptFrom (s t : State) : Aspect → Prop
  | .pending => t.pending = s.pending
  | .freeCount => t.freeCount = s.freeCount
  | .holdn => t.loop.holdnLow = s.loop.holdnLow
  | .params => t.loop.params = s.loop.params
  | .resting => t.loop.state.closedToCycles = s.loop.state.closedToCycles
  | .config => ∀ i, (t.sensor i).config = (s.sensor i).config
  | .exclusion => ∀ i, (t.sensor i).exclusion = (s.sensor i).exclusion
  | .pages => ∀ i, (t.sensor i).pages = (s.sensor i).pages
  | .tDl => t.cyc.tDl = s.cyc.tDl
  | .degTable => t.cyc.degTable = s.cyc.degTable
  | .selection => t.cyc.selection = s.cyc.selection
  | .nAct => t.mem.nAct = s.mem.nAct
  | .data => t.mem.dram.data = s.mem.dram.data
  | .memory => s.memoryWf → t.memoryWf
  | .neighbours => t.law.neighbours = s.law.neighbours
  | .ack => t.drive.tAck = s.drive.tAck ∧ t.drive.fMax = s.drive.fMax
  | .pokeList => t.cal.pokeList = s.cal.pokeList
  | .lines => t.mon.line0 = s.mon.line0 ∧ t.mon.line1 = s.mon.line1
  | .masks => t.link.masks = s.link.masks
  | .notices => ∀ n, s.isPending n = true → t.isPending n = true
  | .replies => ∃ rs, t.link.transmitter = s.link.transmitter ++ rs ∧ ∀ r ∈ rs, r.status = .done ∨ r.status = .clamped
  | .linked => s.linked → t.linked
  | .coded => s.coded → t.coded
  | .failed => t.linkFailed = true → s.linkFailed = true
  | .bound => ∀ k ∈ t.cyc.cycles, ∃ k' ∈ s.cyc.cycles, k'.bank = k.bank
  | .drained => s.banked → s.drained → t.drained
  | .restful => s.banked → s.restful → t.restful
  | .peaks => s.peaksWanted → t.peaksWanted

/-- The cycles stay in different banks, and every aspect that is not free is kept. -/
structure State.Keeps (free : Aspect → Prop) (s t : State) : Prop where
  banked : s.banked → t.banked
  aspect : ∀ x, ¬ free x → x.keptFrom s t

section Calculus

variable {free : Aspect → Prop} {s t u : State}

theorem State.Keeps.refl (s : State) : s.Keeps free s where
  banked := id
  aspect x _ := by
    cases x
    case replies => exact ⟨[], by simp, by simp⟩
    case bound => exact fun k hk => ⟨k, hk, rfl⟩
    all_goals simp [Aspect.keptFrom]

theorem State.Keeps.trans (h : s.Keeps free t) (g : t.Keeps free u) : s.Keeps free u where
  banked := g.banked ∘ h.banked
  aspect x hx := by
    have first := h.aspect x hx
    have second := g.aspect x hx
    cases x
    case config | exclusion | pages => exact fun i => (second i).trans (first i)
    case ack | lines => exact ⟨second.1.trans first.1, second.2.trans first.2⟩
    case memory | linked | coded | peaks => exact second ∘ first
    case failed => exact first ∘ second
    case notices => exact fun n => second n ∘ first n
    case drained | restful => exact fun banked => second (h.banked banked) ∘ first banked
    case bound =>
      intro k hk
      obtain ⟨k', hk', same⟩ := second k hk
      obtain ⟨k'', hk'', same'⟩ := first k' hk'
      exact ⟨k'', hk'', same'.trans same⟩
    case replies =>
      obtain ⟨rs, eq, fine⟩ := first
      obtain ⟨rs', eq', fine'⟩ := second
      refine ⟨rs ++ rs', by rw [eq', eq, List.append_assoc], fun r hr => ?_⟩
      exact (List.mem_append.mp hr).elim (fine r) (fine' r)
    all_goals exact second.trans first

theorem State.Keeps.mono {free' : Aspect → Prop} (h : s.Keeps free t) (le : ∀ x, free x → free' x) : s.Keeps free' t :=
  ⟨h.banked, fun x hx => h.aspect x (mt (le x) hx)⟩

/-- An aspect that the parts of an operation do not keep, but the whole does. -/
theorem State.Keeps.fill (a : Aspect) (h : s.Keeps (fun x => free x ∨ x = a) t) (whole : a.keptFrom s t) : s.Keeps free t where
  banked := h.banked
  aspect x hx := by
    by_cases same : x = a
    · exact same ▸ whole
    · exact h.aspect x (by simp [hx, same])

/-- The soundness of the control link depends on the link alone. -/
theorem State.linked_congr (same : t.link = s.link) : t.linked ↔ s.linked := by simp [State.linked, same]

/-- A change that touches none of the fields that an aspect speaks of keeps it. -/
theorem State.Keeps.of_same
    (pending : t.pending = s.pending := by rfl) (freeCount : ¬ free .freeCount → t.freeCount = s.freeCount := by exact fun _ => rfl)
    (holdn : ¬ free .holdn → t.loop.holdnLow = s.loop.holdnLow := by exact fun _ => rfl)
    (params : ¬ free .params → t.loop.params = s.loop.params := by exact fun _ => rfl)
    (loop : t.loop.state = s.loop.state := by rfl)
    (config : ¬ free .config → ∀ i, (t.sensor i).config = (s.sensor i).config := by exact fun _ _ => rfl)
    (exclusion : ¬ free .exclusion → ∀ i, (t.sensor i).exclusion = (s.sensor i).exclusion := by exact fun _ _ => rfl)
    (pages : ¬ free .pages → ∀ i, (t.sensor i).pages = (s.sensor i).pages := by exact fun _ _ => rfl)
    (tDl : ¬ free .tDl → t.cyc.tDl = s.cyc.tDl := by exact fun _ => rfl)
    (degTable : ¬ free .degTable → t.cyc.degTable = s.cyc.degTable := by exact fun _ => rfl)
    (selection : ¬ free .selection → t.cyc.selection = s.cyc.selection := by exact fun _ => rfl)
    (cycles : t.cyc.cycles = s.cyc.cycles := by rfl)
    (nAct : ¬ free .nAct → t.mem.nAct = s.mem.nAct := by exact fun _ => rfl)
    (data : ¬ free .data → t.mem.dram.data = s.mem.dram.data := by exact fun _ => rfl)
    (memory : s.memoryWf → t.memoryWf := by exact id)
    (neighbours : ¬ free .neighbours → t.law.neighbours = s.law.neighbours := by exact fun _ => rfl)
    (coded : ¬ free .coded → t.law.committed = s.law.committed ∧ t.mem.nAct = s.mem.nAct := by exact fun _ => ⟨rfl, rfl⟩)
    (failed : ¬ free .failed → t.drive.links = s.drive.links ∧ t.mem.nAct = s.mem.nAct := by exact fun _ => ⟨rfl, rfl⟩)
    (ack : ¬ free .ack → t.drive.tAck = s.drive.tAck ∧ t.drive.fMax = s.drive.fMax := by exact fun _ => ⟨rfl, rfl⟩)
    (pokeList : ¬ free .pokeList → t.cal.pokeList = s.cal.pokeList := by exact fun _ => rfl)
    (lines : ¬ free .lines → t.mon.line0 = s.mon.line0 ∧ t.mon.line1 = s.mon.line1 := by exact fun _ => ⟨rfl, rfl⟩)
    (peaks : ¬ free .peaks → s.peaksWanted → t.peaksWanted := by exact fun _ => id)
    (link : t.link = s.link := by rfl) : s.Keeps free t where
  banked := by simp [State.banked, cycles]
  aspect x hx := by
    cases x
    case replies => exact ⟨[], by simp [link], by simp⟩
    case bound => exact fun k hk => ⟨k, cycles ▸ hk, rfl⟩
    case linked => exact (State.linked_congr link).mpr
    case failed =>
      obtain ⟨links, serves⟩ := failed hx
      have same : t.linkFailed = s.linkFailed := by unfold State.linkFailed State.driveLink; rw [links, serves]
      exact fun h => same ▸ h
    case coded =>
      obtain ⟨codes, count⟩ := coded hx
      simp [Aspect.keptFrom, State.coded, codes, count]
    case config => exact config hx
    case exclusion => exact exclusion hx
    case pages => exact pages hx
    all_goals simp_all [Aspect.keptFrom, State.isPending, State.drained, State.restful]

theorem State.Keeps.foldl {α : Type} {f : State → α → State} (each : ∀ u a, State.Keeps free u (f u a)) (l : List α) (s : State) :
    s.Keeps free (l.foldl f s) := by
  induction l generalizing s with
  | nil => exact .refl s
  | cons a l ih => exact (each s a).trans (ih (f s a))

/-- A branch on a condition keeps what both of its sides keep. -/
theorem State.Keeps.ite {c : Prop} [Decidable c] (yes : c → s.Keeps free t) (no : ¬ c → s.Keeps free u) :
    s.Keeps free (if c then t else u) := by
  split
  · exact yes ‹_›
  · exact no ‹_›

end Calculus

/-! ## The named updates -/

section Updates

variable {free : Aspect → Prop} (s : State)

theorem State.keeps_updSensor (i : Fin 6) {f : Sensor → Sensor}
    (config : ¬ free .config → ∀ x, (f x).config = x.config := by exact fun _ _ => rfl)
    (exclusion : ¬ free .exclusion → ∀ x, (f x).exclusion = x.exclusion := by exact fun _ _ => rfl)
    (pages : ¬ free .pages → ∀ x, (f x).pages = x.pages := by exact fun _ _ => rfl) : s.Keeps free (s.updSensor i f) := by
  have at_sensor {α : Type} (g : Sensor → α) (same : ∀ x, g (f x) = g x) (j : Fin 6) :
      g ((s.updSensor i f).sensor j) = g (s.sensor j) := by
    by_cases h : j = i
    · subst h
      rw [State.sensor_updSensor, same]
    · rw [State.sensor_updSensor_ne s f h]
  exact .of_same (config := fun h => at_sensor _ (config h)) (exclusion := fun h => at_sensor _ (exclusion h))
    (pages := fun h => at_sensor _ (pages h))

theorem State.keeps_updCounters (i : Fin 6) (f : SensorCounters → SensorCounters) : s.Keeps free (s.updCounters i f) :=
  s.keeps_updSensor i

/-- An update of a cycle that does not free it, in the terms of the invariants on cycles. -/
theorem State.keeps_updCycle (b : Bank) {f : Cycle → Cycle} (bank : ∀ k, (f k).bank = k.bank := by exact fun _ => rfl)
    (abandoned : ∀ k, k.abandoned = true → (f k).abandoned = true := by exact fun _ h => h)
    (drained : free .drained ∨ ∀ k, (k.abandoned = true → k.state = .draining) → (f k).abandoned = true → (f k).state = .draining) :
    s.Keeps free (s.updCycle b f) where
  banked := by
    have same : ∀ k, (if k.bank = b then f k else k).bank = k.bank := fun k => by split <;> simp [bank]
    simp [State.banked, State.updCycle, Function.comp_def, same]
  aspect x hx := by
    cases x
    case replies => exact ⟨[], by simp, by simp⟩
    case bound =>
      intro k hk
      obtain ⟨k', hk', rfl⟩ := List.mem_map.mp hk
      exact ⟨k', hk', by split <;> simp [bank]⟩
    case drained =>
      intro _ before k hk
      obtain ⟨k', hk', rfl⟩ := List.mem_map.mp hk
      split
      · exact drained.resolve_left hx k' (before k' hk')
      · exact before k' hk'
    case restful =>
      intro _ before rest k hk
      obtain ⟨k', hk', rfl⟩ := List.mem_map.mp hk
      split
      · exact abandoned k' (before rest k' hk')
      · exact before rest k' hk'
    case config | exclusion | pages => exact fun _ => rfl
    case ack | lines => exact ⟨rfl, rfl⟩
    case memory | linked | coded | failed | peaks => exact id
    case notices => exact fun _ => id
    all_goals rfl

theorem State.keeps_setBank (b : Bank) (v : List Int) : s.Keeps free (s.setBank b v) := by
  cases b <;> exact .of_same

theorem State.keeps_setBuffer (b : Bank) (v : Vector (Option (List Int)) 6) : s.Keeps free (s.setBuffer b v) := by
  cases b <;> exact .of_same

theorem State.keeps_setArbiter (a : Arbiter) : s.Keeps free (s.setArbiter a) := .of_same

theorem State.keeps_updSet (n : Fin 4) (f : SetRecord → SetRecord) : s.Keeps free (s.updSet n f) := .of_same

theorem State.keeps_updSaved (i : Fin 6) (f : Saved → Saved) : s.Keeps free (s.updSaved i f) := .of_same

theorem State.keeps_raise (n : Notice) : s.Keeps free (s.raise n) where
  banked := id
  aspect x _ := by
    cases x
    case replies => exact ⟨[], by simp [State.raise], by simp⟩
    case bound => exact fun k hk => ⟨k, hk, rfl⟩
    case notices => exact fun m => s.isPending_raise_of m n
    case config | exclusion | pages => exact fun _ => rfl
    case ack | lines => exact ⟨rfl, rfl⟩
    case memory | linked | coded | failed | peaks => exact id
    case drained | restful => exact fun _ => id
    all_goals rfl

/-- The loop state changes; the aspects that speak of the state are kept when both states open cycles or neither does. -/
theorem State.keeps_setLoop (l : LoopState) (resting : free .resting ∨ l.closedToCycles = s.loop.state.closedToCycles)
    (restful : free .restful ∨ l.closedToCycles = false ∨ l.closedToCycles = s.loop.state.closedToCycles) :
    s.Keeps free (s.setLoop l) := by
  have moved : s.Keeps free { s with loop := { s.loop with state := l } } := by
    refine ⟨id, fun x hx => ?_⟩
    cases x
    case replies => exact ⟨[], by simp, by simp⟩
    case bound => exact fun k hk => ⟨k, hk, rfl⟩
    case resting => exact resting.resolve_left hx
    case restful =>
      intro _ before rest
      rcases restful.resolve_left hx with opens | same
      · exact absurd (opens.symm.trans rest) (by decide)
      · exact before (same.symm.trans rest)
    case config | exclusion | pages => exact fun _ => rfl
    case ack | lines => exact ⟨rfl, rfl⟩
    case memory | linked | coded | failed | peaks => exact id
    case notices | drained => exact fun _ => id
    all_goals rfl
  unfold State.setLoop
  split
  · exact .refl s
  · exact moved.trans (State.keeps_raise _ _)

end Updates

/-! ## Replies -/

/-- A frame begins only when no command's reply is left, so the link's bounds stay. -/
theorem ControlLink.holdsReply_eq_false_iff (l : ControlLink) :
    l.holdsReply = false ↔ (l.transmitter.filter fun r => decide (r.status ≠ .queueFull)) = [] := by
  simp [ControlLink.holdsReply]

/-- The bounds of the control link (10 R182, R183, R185), on the link itself. -/
def ControlLink.sound (l : ControlLink) : Prop :=
  l.queue.length ≤ 4
    ∧ (l.transmitter.filter fun r => decide (r.status ≠ .queueFull)).length ≤ 1
    ∧ (l.transmitter.filter fun r => decide (r.status = .queueFull)).length ≤ 7
    ∧ (l.holdsReply = true → l.executing = none)

/-- What the head of the queue beginning execution leaves as it was. -/
theorem ControlLink.beginNext_frame (l : ControlLink) :
    l.beginNext.transmitter = l.transmitter ∧ l.beginNext.notices = l.notices ∧ l.beginNext.masks = l.masks := by
  unfold ControlLink.beginNext
  split
  · split <;> exact ⟨rfl, rfl, rfl⟩
  · exact ⟨rfl, rfl, rfl⟩

theorem ControlLink.sound_beginNext {l : ControlLink} (h : l.sound) : l.beginNext.sound := by
  unfold ControlLink.beginNext
  split
  · rename_i f rest idle queue_eq
    split
    · exact h
    · rename_i no_reply
      obtain ⟨queue, replies, fulls, -⟩ := h
      refine ⟨?_, replies, fulls, fun holds => absurd holds no_reply⟩
      rw [queue_eq] at queue
      exact (Nat.le_succ _).trans queue
  · exact h

theorem ControlLink.sound_reply {l : ControlLink} (h : l.sound) {st : Status} (answers : st ≠ .queueFull) (data : List Field) :
    (l.reply st data).sound := by
  unfold ControlLink.reply
  obtain ⟨queue, replies, fulls, alone⟩ := h
  split
  · exact ⟨queue, replies, fulls, alone⟩
  · rename_i c executing
    have none_held : l.holdsReply = false := by
      by_contra holds
      simp [alone (by simpa using holds)] at executing
    split
    · exact ControlLink.sound_beginNext ⟨queue, replies, fulls, fun _ => rfl⟩
    · rw [ControlLink.holdsReply_eq_false_iff] at none_held
      refine ⟨queue, ?_, ?_, fun _ => rfl⟩
      · rw [List.filter_append, none_held]
        simp [answers]
      · simpa [List.filter_append, answers] using fulls

theorem ControlLink.transmitter_reply (l : ControlLink) (st : Status) (data : List Field) :
    ∃ rs, (l.reply st data).transmitter = l.transmitter ++ rs ∧ ∀ r ∈ rs, r.status = st := by
  unfold ControlLink.reply
  split
  · exact ⟨[], by simp, by simp⟩
  · rename_i c executing
    split
    · exact ⟨[], by rw [(ControlLink.beginNext_frame _).1]; simp, by simp⟩
    · exact ⟨[_], rfl, by simp⟩

/-- A reply touches the link alone. -/
theorem State.keeps_reply {free : Aspect → Prop} (s : State) {st : Status} (answers : st ≠ .queueFull)
    (carried_out : free .replies ∨ st = .done ∨ st = .clamped) (data : List Field) : s.Keeps free (s.reply st data) where
  banked := id
  aspect x hx := by
    obtain ⟨-, notices, masks, -, -⟩ := reply_frame s.link st data
    cases x
    case replies =>
      obtain ⟨rs, eq, status⟩ := s.link.transmitter_reply st data
      exact ⟨rs, eq, fun r hr => by rw [status r hr]; exact carried_out.resolve_left hx⟩
    case linked => exact fun h => ControlLink.sound_reply h answers data
    case masks => exact masks
    case notices =>
      intro n
      simp only [State.isPending, State.reply, notices]
      exact id
    case bound => exact fun k hk => ⟨k, hk, rfl⟩
    case config | exclusion | pages => exact fun _ => rfl
    case ack | lines => exact ⟨rfl, rfl⟩
    case memory | coded | failed | peaks => exact id
    case drained | restful => exact fun _ => id
    all_goals rfl

end Sys2Proof.Machine

/-! The operations inside a step, each shown to keep every aspect: commits and the calibration run, captures, abandonment, holds,
closing and settlement of cycles, the taking of frames, openings, passages to law and the follow-ups. -/

namespace Sys2Proof.Machine

-- One theorem at a time: each worker thread reserves memory of its own.
set_option Elab.async false

section Operations

variable {free : Aspect → Prop} (s : State)

/-! ## Jobs and the arbiter -/

theorem State.keeps_setPendingSub (i : Fin 6) (n : Nat) : s.Keeps free (s.setPendingSub i n) := .of_same

theorem State.keeps_startJob : s.Keeps free s.startJob := by
  unfold State.startJob
  split
  · exact .of_same
  · exact .refl s

theorem State.keeps_enqueueJob (j : Job) : s.Keeps free (s.enqueueJob j) :=
  have queued : s.Keeps free { s with recon := { s.recon with queue := s.recon.queue ++ [j] } } := .of_same
  (queued.trans (State.keeps_updCycle _ _ (f := fun k => { k with outstanding := k.outstanding + 1 }) (drained := .inr fun _ h => h))).trans (State.keeps_startJob _)

theorem State.keeps_removeJobs (bank : Bank) : s.Keeps free (s.removeJobs bank) :=
  (State.Keeps.of_same (s := s)).trans (State.keeps_updCycle _ _ (drained := .inr fun _ h => h))

theorem State.keeps_request (c : Client) : s.Keeps free (s.request c) :=
  .ite (fun _ => .refl s) (fun _ => s.keeps_setArbiter _)

theorem State.keeps_grant : s.Keeps free s.grant := by
  unfold State.grant
  split
  · exact .refl s
  · split
    · split
      · exact .refl s
      · exact .ite (fun _ => s.keeps_setArbiter _) (fun _ => .refl s)
    · split
      · exact s.keeps_setArbiter _
      · exact .refl s

/-! ## Commits (05 R99, R100; 07 R137) -/

theorem clampInt_bounds {lo hi : Int} (ordered : lo ≤ hi) (x : Int) : lo ≤ clampInt lo hi x ∧ clampInt lo hi x ≤ hi := by
  unfold clampInt
  split_ifs <;> omega

/-- A commit forms a vector of codes whatever was committed before. -/
theorem State.coded_commitVector : s.commitVector.coded := by
  refine ⟨by simp [State.commitVector, State.formVector], fun c hc => ?_⟩
  obtain ⟨i, -, rfl⟩ := List.mem_map.mp (show c ∈ s.formVector from hc)
  exact clampInt_bounds (by decide) _

theorem linkCommit_failed_iff (tAck : Nat) (d : Fin 4) (codes : List Int) (l : DriveLink) :
    (linkCommit tAck d codes l).state = .failed ↔ l.state = .failed := by
  unfold linkCommit
  split <;> simp_all [sendFrame]
  split <;> simp_all

theorem State.linkFailed_handToLinks : s.handToLinks.linkFailed = s.linkFailed := by
  have same (d : Fin 4) : (s.handToLinks.driveLink d).state = .failed ↔ (s.driveLink d).state = .failed := by
    simp [State.driveLink, State.handToLinks, linkCommit_failed_iff]
  exact congrArg allLinks.any (funext fun d => by rw [decide_eq_decide.mpr (same d)]; rfl)

/-- The output vector is committed and handed to the links: the law's other state and every other block stay. -/
theorem State.keeps_commitVector : s.Keeps free s.commitVector where
  banked := id
  aspect x _ := by
    cases x
    case coded => exact fun _ => s.coded_commitVector
    case failed =>
      intro h
      rw [State.commitVector, State.linkFailed_handToLinks] at h
      exact h
    case replies => exact ⟨[], by simp [State.commitVector], by simp⟩
    case bound => exact fun k hk => ⟨k, hk, rfl⟩
    case config | exclusion | pages => exact fun _ => rfl
    case ack | lines => exact ⟨rfl, rfl⟩
    case memory | linked | peaks => exact id
    case notices | drained | restful => exact fun _ => id
    all_goals rfl

theorem Calibration.pokeList_clearSums (c : Calibration) (p : Phase) : (c.clearSums p).pokeList = c.pokeList := by
  cases p <;> rfl

theorem State.keeps_foreignCommit : s.Keeps free s.foreignCommit := by
  unfold State.foreignCommit
  split
  · split
    · exact .of_same (pokeList := fun _ => Calibration.pokeList_clearSums _ _)
    · exact .refl s
  · exact .refl s

theorem State.keeps_commit : s.Keeps free s.commit := s.keeps_commitVector.trans (State.keeps_foreignCommit _)

theorem State.keeps_integratorReset : s.Keeps free s.integratorReset := .of_same

theorem State.keeps_clearPokes : s.Keeps free s.clearPokes := .of_same

theorem State.keeps_restCommit : s.Keeps free s.restCommit :=
  (s.keeps_integratorReset.trans (State.keeps_clearPokes _)).trans (State.keeps_commit _)

theorem State.keeps_phaseCommit (p : Phase) : s.Keeps free (s.phaseCommit p) := by
  unfold State.phaseCommit
  split
  · exact .refl s
  · rename_i r _
    have poked (v : Int) : s.Keeps free { s with law := { s.law with calPoke := some (r.actuator, v) } } := .of_same
    exact ((poked _).trans (State.keeps_commitVector _)).trans (.of_same (pokeList := fun _ => Calibration.pokeList_clearSums _ _))

/-! ## The calibration run (08) -/

theorem State.keeps_stopRun (reason : EndReason) : s.Keeps free (s.stopRun reason) := .of_same

theorem State.keeps_endRun (reason : EndReason) : s.Keeps free (s.endRun reason) :=
  have unpoked (t : State) : t.Keeps free { t with law := { t.law with calPoke := none } } := .of_same
  (((s.keeps_stopRun reason).trans (unpoked _)).trans (State.keeps_commitVector _)).trans (State.keeps_raise _ _)

theorem State.keeps_abortRun : s.Keeps free s.abortRun :=
  .ite (fun _ => (s.keeps_stopRun _).trans (State.keeps_raise _ _)) (fun _ => .refl s)

theorem State.keeps_openTally (bank : Bank) : s.Keeps free (s.openTally bank) :=
  .ite (fun _ => .of_same) (fun _ => .refl s)

theorem State.keeps_tallySettlement (bank : Bank) (i : Fin 6) (slopes : Option (List Int)) :
    s.Keeps free (s.tallySettlement bank i slopes) := .of_same

theorem State.keeps_dropTally (bank : Bank) : s.Keeps free (s.dropTally bank) := .of_same

theorem State.keeps_endPhase : s.Keeps free s.endPhase := by
  unfold State.endPhase
  split
  · exact s.keeps_phaseCommit _
  · exact (State.Keeps.of_same (s := s)).trans (State.keeps_request _ _)
  · exact .refl s

theorem State.keeps_countVoidCycle : s.Keeps free s.countVoidCycle :=
  .ite (fun _ => (State.Keeps.of_same (s := s)).trans (State.keeps_endRun _ _)) (fun _ => .of_same)

theorem Calibration.pokeList_addTally (c : Calibration) (t : Tally) : (c.addTally t).pokeList = c.pokeList := by
  unfold Calibration.addTally
  split <;> rfl

theorem State.keeps_countCycle (t : Tally) : s.Keeps free (s.countCycle t) := by
  have measured : s.Keeps free { s with cal := { s.cal with measure := s.cal.measure + 1 }.addTally t } :=
    .of_same (pokeList := fun _ => Calibration.pokeList_addTally _ _)
  exact .ite (fun _ => .of_same) (fun _ => .ite (fun _ => measured.trans (State.keeps_endPhase _)) (fun _ => measured))

theorem State.keeps_judgeTally (bank : Bank) (abandoned : Bool) : s.Keeps free (s.judgeTally bank abandoned) := by
  unfold State.judgeTally
  split
  · exact .refl s
  · rename_i t _
    have dropped : s.Keeps free (s.dropTally bank) := s.keeps_dropTally bank
    exact .ite
      (fun _ => .ite (fun _ => dropped.trans (State.keeps_countVoidCycle _)) (fun _ => dropped.trans (State.keeps_countCycle _ t)))
      (fun _ => dropped)

/-! ## Captures (09) -/

theorem State.keeps_capturePeaks (k : Cycle) : s.Keeps free (s.capturePeaks k) :=
  .ite (fun _ => (State.Keeps.of_same (s := s) (peaks := fun _ _ => .inr (Option.some_ne_none _))).trans (State.keeps_raise _ _))
    (fun _ => .refl s)

theorem State.keeps_testSnapshot (run : LawRun) (applied : Bool) : s.Keeps free (s.testSnapshot run applied) :=
  .ite (fun _ => .of_same) (fun _ => .refl s)

theorem State.keeps_markOnset : s.Keeps free s.markOnset := .ite (fun _ => .of_same) (fun _ => .refl s)

/-! ## Edits of the actuator table (05 R106 to R109) -/

theorem State.keeps_writeActuators (first : Nat) (new : List ActRecord) : s.Keeps free (s.writeActuators first new) := .of_same

theorem State.keeps_applyEdit (first : Nat) (new : List ActRecord) : s.Keeps free (s.applyEdit first new) :=
  .ite (fun _ => (s.keeps_writeActuators first new).trans (State.keeps_commit _)) (fun _ => s.keeps_writeActuators first new)

theorem State.keeps_applyDeferred : s.Keeps free s.applyDeferred := by
  unfold State.applyDeferred
  split
  · exact .refl s
  · rename_i first new _
    have taken : s.Keeps free { s with law := { s.law with deferred := none } } := .of_same
    have applied := taken.trans (State.keeps_applyEdit _ first new)
    exact .ite (fun _ => applied.trans (State.keeps_reply _ (by decide) (.inr (.inl rfl)) _)) (fun _ => applied)

/-! ## Cycles in their banks -/

/-- Two existing cycles of one bank are the same (02 R28). -/
theorem State.banked.eq_of_bank {s : State} (banked : s.banked) {k k' : Cycle} (hk : k ∈ s.cyc.cycles) (hk' : k' ∈ s.cyc.cycles)
    (same : k.bank = k'.bank) : k = k' :=
  List.inj_on_of_nodup_map banked hk hk' same

theorem State.cycleAt_some {s : State} {b : Bank} {k : Cycle} (h : s.cycleAt b = some k) : k ∈ s.cyc.cycles ∧ k.bank = b :=
  ⟨List.mem_of_find?_eq_some h, by simpa using List.find?_some h⟩

theorem State.cycleAt_none {s : State} {b : Bank} : s.cycleAt b = none ↔ ∀ k ∈ s.cyc.cycles, k.bank ≠ b := by
  simp [State.cycleAt]

theorem State.keeps_retire (bank : Bank) : s.Keeps free (s.retire bank) where
  banked h := h.sublist (List.filter_sublist.map _)
  aspect x _ := by
    have subset : ∀ k ∈ (s.retire bank).cyc.cycles, k ∈ s.cyc.cycles := fun k hk => List.mem_of_mem_filter hk
    cases x
    case bound => exact fun k hk => ⟨k, subset k hk, rfl⟩
    case drained => exact fun _ before k hk => before k (subset k hk)
    case restful => exact fun _ before rest k hk => before rest k (subset k hk)
    case replies => exact ⟨[], by simp, by simp⟩
    case config | exclusion | pages => exact fun _ => rfl
    case ack | lines => exact ⟨rfl, rfl⟩
    case memory | linked | coded | failed | peaks => exact id
    case notices => exact fun _ => id
    all_goals rfl

theorem State.keeps_discardLaw (bank : Bank) : s.Keeps free (s.discardLaw bank) :=
  ((State.Keeps.of_same (s := s)).trans (State.keeps_applyDeferred _)).trans (State.keeps_retire _ bank)

/-! ## The cycle controller's state under commits and runs, for the description of an abandonment -/

@[simp] theorem State.cyc_commitVector : s.commitVector.cyc = s.cyc := rfl

@[simp] theorem State.cyc_foreignCommit : s.foreignCommit.cyc = s.cyc := by
  unfold State.foreignCommit
  split
  · split <;> rfl
  · rfl

@[simp] theorem State.cyc_phaseCommit (p : Phase) : (s.phaseCommit p).cyc = s.cyc := by
  unfold State.phaseCommit
  split <;> rfl

@[simp] theorem State.cyc_request (c : Client) : (s.request c).cyc = s.cyc := by
  unfold State.request
  split <;> rfl

@[simp] theorem State.cyc_endPhase : s.endPhase.cyc = s.cyc := by
  unfold State.endPhase
  split <;> simp

@[simp] theorem State.cyc_countVoidCycle : s.countVoidCycle.cyc = s.cyc := by
  unfold State.countVoidCycle
  dsimp only
  split <;> rfl

@[simp] theorem State.cyc_countCycle (t : Tally) : (s.countCycle t).cyc = s.cyc := by
  unfold State.countCycle
  dsimp only
  split
  · rfl
  · split <;> simp

@[simp] theorem State.cyc_judgeTally (bank : Bank) (abandoned : Bool) : (s.judgeTally bank abandoned).cyc = s.cyc := by
  unfold State.judgeTally
  split
  · rfl
  · dsimp only
    split
    · split <;> simp
    · rfl

@[simp] theorem State.cyc_commit : s.commit.cyc = s.cyc := by simp [State.commit]

@[simp] theorem State.cyc_applyEdit (first : Nat) (new : List ActRecord) : (s.applyEdit first new).cyc = s.cyc := by
  unfold State.applyEdit
  split <;> simp

@[simp] theorem State.cyc_applyDeferred : s.applyDeferred.cyc = s.cyc := by
  unfold State.applyDeferred
  split
  · rfl
  · dsimp only
    split <;> simp

/-! ## Abandonment (02 R49) -/

/-- A cycle that stands after an abandonment stood before it in another bank, or is the abandoned one. -/
theorem State.mem_abandon {s : State} (banked : s.banked) {b : Bank} {entry : Bool} {k : Cycle}
    (hk : k ∈ (s.abandon b entry).cyc.cycles) :
    (k.bank ≠ b ∧ k ∈ s.cyc.cycles)
      ∨ (k.bank = b ∧ k.abandoned = true ∧ (s.drained → k.state = .draining) ∧ ∃ k' ∈ s.cyc.cycles, k'.bank = b) := by
  unfold State.abandon at hk
  split at hk
  · rename_i none_there
    exact .inl ⟨State.cycleAt_none.mp none_there k hk, hk⟩
  · rename_i k' found
    obtain ⟨mem, bank⟩ := State.cycleAt_some found
    have only : ∀ c ∈ s.cyc.cycles, c.bank = b → c = k' := fun c hc h => banked.eq_of_bank hc mem (h.trans bank.symm)
    split at hk
    · rename_i already
      by_cases here : k.bank = b
      · obtain rfl := only k hk here
        exact .inr ⟨here, already, fun drained => drained k hk already, k, hk, here⟩
      · exact .inl ⟨here, hk⟩
    · dsimp only at hk
      split at hk
      · have described : ∃ c ∈ s.cyc.cycles, (c.bank ≠ b ∧ k = c) ∨ (c.bank = b ∧ k.bank = b ∧ k.abandoned = true ∧ k.state = .draining) := by
          split_ifs at hk <;>
          · simp only [State.cyc_judgeTally, State.dropTally, State.updCycle, State.removeJobs, List.map_map, List.mem_map,
              Function.comp_apply] at hk
            obtain ⟨c, hc, rfl⟩ := hk
            refine ⟨c, hc, ?_⟩
            by_cases here : c.bank = b <;> simp [here]
        obtain ⟨c, hc, ⟨elsewhere, rfl⟩ | ⟨here, bank_eq, abandoned, draining⟩⟩ := described
        · exact .inl ⟨elsewhere, hc⟩
        · exact .inr ⟨bank_eq, abandoned, fun _ => draining, c, hc, here⟩
      · rename_i draining
        simp only [State.updCycle, State.removeJobs, List.map_map, List.mem_map, Function.comp_apply] at hk
        obtain ⟨c, hc, rfl⟩ := hk
        by_cases here : c.bank = b
        · obtain rfl := only c hc here
          simp [here, draining]
          exact ⟨c, hc, here⟩
        · simp [here, hc]
      · simp only [State.discardLaw, State.retire, State.cyc_applyDeferred, List.mem_filter, decide_eq_true_eq] at hk
        obtain ⟨hk, elsewhere⟩ := hk
        simp only [State.updCycle, State.removeJobs, List.map_map, List.mem_map, Function.comp_apply] at hk
        obtain ⟨c, hc, rfl⟩ := hk
        by_cases here : c.bank = b
        · simp [here] at elsewhere
        · simp [here, hc]

theorem State.keeps_abandon (b : Bank) (entry : Bool) : s.Keeps free (s.abandon b entry) := by
  refine .fill .drained ?_ fun banked before k hk abandoned => ?_
  · unfold State.abandon
    split
    · exact .refl s
    · rename_i k _
      refine .ite (fun _ => .refl s) fun _ => ?_
      have counted : s.Keeps (fun x => free x ∨ x = .drained)
          { s with cyc := { s.cyc with abandonedCount := counterInc s.cyc.abandonedCount } } := .of_same
      have marked := (counted.trans (State.keeps_updCycle _ b (f := fun k => { k with abandoned := true })
        (abandoned := fun _ _ => rfl) (drained := .inl (.inr rfl)))).trans (State.keeps_removeJobs _ b)
      dsimp only
      split
      · have drains (t : State) : t.Keeps (fun x => free x ∨ x = .drained)
            (({ t with cyc := { t.cyc with lastClosed := some k.fn } } : State).updCycle b
              fun k => { k with state := .draining, deadline := none }) :=
          (State.Keeps.of_same (s := t)).trans (State.keeps_updCycle _ _ (drained := .inl (.inr rfl)))
        have closed := marked.trans (drains _)
        exact .ite (fun _ => closed.trans (State.keeps_dropTally _ b))
          (fun _ => .ite (fun _ => closed.trans (State.keeps_judgeTally _ b true)) (fun _ => closed))
      · exact marked
      · exact marked.trans (State.keeps_discardLaw _ b)
  · rcases State.mem_abandon banked hk with ⟨-, stood⟩ | ⟨-, -, draining, -⟩
    · exact before k stood abandoned
    · exact draining before

theorem State.keeps_abandonLaw : s.Keeps free s.abandonLaw := by
  unfold State.abandonLaw
  split
  · exact .refl s
  · exact s.keeps_abandon _ _

/-! ## Holds (06 R125 to R129) -/

theorem State.keeps_onset (closed : s.loop.state = .closed) : s.Keeps free s.onset := by
  have same : LoopState.held.closedToCycles = s.loop.state.closedToCycles := by rw [closed]; rfl
  have moved := ((s.keeps_setLoop (free := free) .held (.inr same) (.inr (.inl rfl))).trans (State.keeps_raise _ .holdChange)).trans
    (State.keeps_markOnset _)
  unfold State.onset
  dsimp only
  split
  · exact moved.trans (State.keeps_abandonLaw _)
  · exact moved

theorem State.keeps_release (held : s.loop.state = .held) : s.Keeps free s.release := by
  have same : LoopState.closed.closedToCycles = s.loop.state.closedToCycles := by rw [held]; rfl
  exact ((s.keeps_setLoop .closed (.inr same) (.inr (.inl rfl))).trans (State.keeps_raise _ .holdChange)).trans .of_same

theorem State.keeps_holdsChanged (before : HoldSet) : s.Keeps free (s.holdsChanged before) := by
  unfold State.holdsChanged
  split
  · rename_i closed
    exact .ite (fun _ => s.keeps_onset closed) (fun _ => .refl s)
  · rename_i held
    exact .ite (fun _ => s.keeps_release held) (fun _ => .ite (fun _ => .refl s) (fun _ => s.keeps_raise _))
  · exact .refl s

theorem State.keeps_reportInband : s.Keeps free s.reportInband :=
  .ite (fun _ => .refl s) (fun _ => (State.Keeps.of_same (s := s)).trans (State.keeps_holdsChanged _ _))

theorem State.keeps_takeQ (q : Nat) : s.Keeps free (s.takeQ q) := by
  unfold State.takeQ
  dsimp only
  have latched : s.Keeps free { s with loop := { s.loop with runCount := 0, diverge := true } } := .of_same
  exact .ite (fun _ => .of_same) fun _ => .ite
    (fun _ => .ite (fun _ => (latched.trans (State.keeps_raise _ _)).trans (State.keeps_holdsChanged _ _)) (fun _ => .of_same))
    (fun _ => .of_same)

/-! ## Closing and settlement (02 R40 to R44) -/

theorem countClose_frame (c : CycleController) (r : CloseReason) :
    (countClose c r).cycles = c.cycles ∧ (countClose c r).tDl = c.tDl ∧ (countClose c r).degTable = c.degTable
      ∧ (countClose c r).selection = c.selection := by
  cases r <;> exact ⟨rfl, rfl, rfl, rfl⟩

theorem State.keeps_close (bank : Bank) (reason : CloseReason) : s.Keeps free (s.close bank reason) := by
  unfold State.close
  split
  · exact .refl s
  · rename_i k _
    obtain ⟨cycles, tDl, degTable, selection⟩ := countClose_frame { s.cyc with lastClosed := some k.fn } reason
    have counted : s.Keeps free { s with
        cyc := countClose { s.cyc with lastClosed := some k.fn } reason
        mon := { s.mon with deadlineClose := decide (reason = .deadline) } } :=
      .of_same (tDl := fun _ => tDl) (degTable := fun _ => degTable) (selection := fun _ => selection) (cycles := cycles)
    have closed := counted.trans (State.keeps_updCycle _ bank
      (f := fun k => { k with state := .draining, deadline := none, closeReason := some reason }) (drained := .inr fun _ _ _ => rfl))
    exact .ite (fun _ => closed.trans (State.keeps_judgeTally _ _ _)) (fun _ => closed)

theorem State.keeps_checkComplete (bank : Bank) : s.Keeps free (s.checkComplete bank) := by
  unfold State.checkComplete
  split
  · exact .refl s
  · exact .ite (fun _ => s.keeps_close _ _) (fun _ => .refl s)

theorem State.keeps_setSettlement (bank : Bank) (i : Fin 6) (st : Settlement) : s.Keeps free (s.setSettlement bank i st) :=
  s.keeps_updCycle bank (drained := .inr fun _ h => h)

theorem State.keeps_recordMiss (bank : Bank) (i : Fin 6) (excused noSub : Bool) : s.Keeps free (s.recordMiss bank i excused noSub) := by
  unfold State.recordMiss
  split
  · exact .refl s
  · exact .ite (fun _ => ((s.keeps_setSettlement _ _ _).trans (State.keeps_setPendingSub _ _ _)).trans (State.keeps_enqueueJob _ _))
      (fun _ => s.keeps_setSettlement _ _ _)

theorem State.keeps_handSettlement (bank : Bank) (i : Fin 6) (slopes : Option (List Int)) :
    s.Keeps free (s.handSettlement bank i slopes) := by
  unfold State.handSettlement
  split
  · exact .refl s
  · exact .ite (fun _ => s.keeps_tallySettlement _ _ _) (fun _ => .refl s)

theorem State.keeps_missInactive (i : Fin 6) (noSub : Bool) (bank : Bank) : s.Keeps free (s.missInactive i noSub bank) := by
  unfold State.missInactive
  split
  · exact .refl s
  · exact .ite
      (fun _ => (((s.keeps_recordMiss _ _ _ _).trans (State.keeps_updCounters _ _ _)).trans (State.keeps_handSettlement _ _ _ _)).trans
        (State.keeps_checkComplete _ _))
      (fun _ => .refl s)

theorem State.keeps_settleLeft (i : Fin 6) (noSub : Bool) : s.Keeps free (s.settleLeft i noSub) :=
  .foldl (fun t bank => t.keeps_missInactive i noSub bank) _ s

theorem State.keeps_setMode (i : Fin 6) (m : SensorMode) : s.Keeps free (s.setMode i m) :=
  .ite (fun _ => .refl s) (fun _ => (s.keeps_updSensor i).trans (State.keeps_raise _ _))

theorem State.keeps_loseQueue (i : Fin 6) : s.Keeps free (s.loseQueue i) := s.keeps_updSensor i

theorem State.keeps_becomeLost (i : Fin 6) : s.Keeps free (s.becomeLost i) := by
  unfold State.becomeLost
  dsimp only
  have left : s.Keeps free (if s.isActive i then (s.setMode i .lost).settleLeft i false else s.setMode i .lost) :=
    .ite (fun _ => (s.keeps_setMode i .lost).trans (State.keeps_settleLeft _ _ _)) (fun _ => s.keeps_setMode i .lost)
  exact (left.trans (State.keeps_loseQueue _ i)).trans (State.keeps_reportInband _)

theorem State.keeps_reportMiss (i : Fin 6) : s.Keeps free (s.reportMiss i) :=
  .ite (fun _ => ((s.keeps_updSensor i).trans (State.keeps_updSensor _ i)).trans (State.keeps_becomeLost _ i))
    (fun _ => s.keeps_updSensor i)

theorem State.keeps_reportSettledMiss (i : Fin 6) (excused : Bool) : s.Keeps free (s.reportSettledMiss i excused) :=
  .ite (fun _ => .ite (fun _ => s.keeps_updCounters i _) (fun _ => s.keeps_reportMiss i)) (fun _ => s.keeps_updCounters i _)

theorem State.keeps_markMissed (bank : Bank) (i : Fin 6) (excused check : Bool) : s.Keeps free (s.markMissed bank i excused check) := by
  unfold State.markMissed
  split
  · exact .refl s
  · have settled := ((s.keeps_recordMiss (free := free) bank i excused false).trans (State.keeps_reportSettledMiss _ i excused)).trans
      (State.keeps_handSettlement _ bank i none)
    exact .ite (fun _ => .ite (fun _ => settled.trans (State.keeps_checkComplete _ _)) (fun _ => settled)) (fun _ => .refl s)

theorem State.keeps_closeWithMisses (bank : Bank) (reason : CloseReason) : s.Keeps free (s.closeWithMisses bank reason) :=
  (State.Keeps.foldl (fun t i => t.keeps_markMissed bank i false false) allSensors s).trans (State.keeps_close _ _ _)

theorem State.keeps_contribute (bank : Bank) (i : Fin 6) (slopes : List Int) : s.Keeps free (s.contribute bank i slopes) := by
  unfold State.contribute
  split
  · exact .refl s
  · rename_i k _
    have queued : s.Keeps free (if s.participates k.set i then
        (s.setSettlement bank i .contributed).enqueueJob { kind := .contribution slopes, bank := bank, sensor := i }
        else s.setSettlement bank i .contributed) :=
      .ite (fun _ => (s.keeps_setSettlement _ _ _).trans (State.keeps_enqueueJob _ _)) (fun _ => s.keeps_setSettlement _ _ _)
    have filled (t : State) : t.Keeps free (t.setBuffer bank ((t.buffer bank).set i (some slopes))) := t.keeps_setBuffer _ _
    have fresh (t : State) : t.Keeps free (if t.isActive i then t.updSensor i fun x => { x with missCount := 0 } else t) :=
      .ite (fun _ => t.keeps_updSensor i) (fun _ => .refl t)
    exact (((queued.trans (filled _)).trans (fresh _)).trans (State.keeps_handSettlement _ _ _ _)).trans (State.keeps_checkComplete _ _)

/-! ## Taking frames (01 R5 to R10, 02 R31, R34) -/

theorem State.keeps_correctFrame (i : Fin 6) (p : Fin 2) (f : Frame) : s.Keeps free (s.correctFrame i p f) :=
  .ite (fun _ => .refl s) (fun _ => s.keeps_updSensor i)

theorem State.keeps_invalidate (i : Fin 6) : s.Keeps free (s.invalidate i) := .of_same

theorem State.keeps_countTaken (i : Fin 6) (f : Frame) : s.Keeps free (s.countTaken i f) :=
  (s.keeps_updCounters i _).trans (.ite (fun _ => State.keeps_invalidate _ i) (fun _ => .refl _))

theorem State.keeps_takeHead (i : Fin 6) (f : Frame) : s.Keeps free (s.takeHead i f) :=
  (s.keeps_updSensor i).trans (State.keeps_countTaken _ i f)

theorem State.keeps_assign (bank : Bank) (i : Fin 6) (f : Frame) (slopes : List Int) : s.Keeps free (s.assign bank i f slopes) := by
  have skipped : s.Keeps free (s.skipAhead bank i) := .foldl (fun t b => t.keeps_markMissed b i false true) _ s
  unfold State.assign
  dsimp only
  split
  · exact skipped
  · exact .ite
      (fun _ => .ite (fun _ => skipped.trans (State.keeps_markMissed _ _ _ _ _)) (fun _ => skipped.trans (State.keeps_contribute _ _ _ _)))
      (fun _ => skipped)

theorem State.keeps_takeInto (k : Cycle) (i : Fin 6) (f : Frame) : s.Keeps free (s.takeInto k i f) :=
  .ite (fun _ => (s.keeps_takeHead i f).trans (State.keeps_updCounters _ _ _))
    (fun _ => ((s.keeps_takeHead i f).trans (State.keeps_correctFrame _ _ _ _)).trans (State.keeps_assign _ _ _ _ _))

/-! ## Openings (02 R36 to R39) -/

theorem State.keeps_setDegraded (d : Bool) : s.Keeps free (s.setDegraded d) :=
  (State.Keeps.of_same (s := s)).trans (State.keeps_holdsChanged _ _)

theorem Sensor.carryOut_frame (x : Sensor) :
    x.carryOut.config = x.config ∧ x.carryOut.exclusion = x.exclusion ∧ x.carryOut.pages = x.pages := by
  unfold Sensor.carryOut
  split <;> exact ⟨rfl, rfl, rfl⟩

theorem State.sensor_carryOutCommits (i : Fin 6) : s.carryOutCommits.sensor i = (s.sensor i).carryOut := by
  simp [State.sensor, State.carryOutCommits]

theorem State.keeps_carryOutCommits : s.Keeps free s.carryOutCommits :=
  .of_same (config := fun _ i => by rw [State.sensor_carryOutCommits, (Sensor.carryOut_frame _).1])
    (exclusion := fun _ i => by rw [State.sensor_carryOutCommits, (Sensor.carryOut_frame _).2.1])
    (pages := fun _ i => by rw [State.sensor_carryOutCommits, (Sensor.carryOut_frame _).2.2])

theorem State.keeps_invalidateOthers (set : SetId) : s.Keeps free (s.invalidateOthers set) := .of_same

/-- A cycle of its own bank joins the existing ones, in a loop that opens cycles. -/
theorem State.keeps_addCycle {t : State} {k : Cycle} (unchanged : s.Keeps free { t with cyc := { t.cyc with cycles := s.cyc.cycles } })
    (joined : t.cyc.cycles = s.cyc.cycles ++ [k]) (opening : free .bound) (opens : t.loop.state.closedToCycles = false)
    (live : k.abandoned = false) (own_bank : ∀ k' ∈ s.cyc.cycles, k'.bank ≠ k.bank) : s.Keeps free t where
  banked h := by
    rw [State.banked, joined, List.map_append, List.nodup_append]
    refine ⟨h, by simp, ?_⟩
    simp only [List.mem_map, List.map_cons, List.map_nil, List.mem_singleton]
    rintro _ ⟨k', hk', rfl⟩ _ rfl
    exact own_bank k' hk'
  aspect x hx := by
    have kept := unchanged.aspect x hx
    cases x
    case bound => exact absurd opening hx
    case drained =>
      intro _ before k' hk' abandoned
      rw [joined, List.mem_append, List.mem_singleton] at hk'
      rcases hk' with old | rfl
      · exact before k' old abandoned
      · simp [live] at abandoned
    case restful => exact fun _ _ rest => absurd (opens.symm.trans rest) (by decide)
    all_goals exact kept

end Operations

end Sys2Proof.Machine

/-! From the opening of a cycle to the end of a step's follow-ups, and the loop's entry to rest. -/

namespace Sys2Proof.Machine

-- One theorem at a time: each worker thread reserves memory of its own.
set_option Elab.async false

section FollowUps

variable {free : Aspect → Prop} (s : State)

@[simp] theorem State.cyc_takeHead (i : Fin 6) (f : Frame) : (s.takeHead i f).cyc = s.cyc := by
  unfold State.takeHead State.countTaken State.dropOnTake
  split <;> rfl

@[simp] theorem State.loop_takeHead (i : Fin 6) (f : Frame) : (s.takeHead i f).loop = s.loop := by
  unfold State.takeHead State.countTaken State.dropOnTake
  split <;> rfl

/-- What an opening does before the record of its cycle joins: the bank and the buffer cleared, the DEGRADED source reported, the
pending reference commits carried out and the saved contributions of other sets invalidated (02 R36 to R38). -/
def State.readyToOpen (s : State) (bank : Bank) : State :=
  ((((s.setBank bank zeroVector).setBuffer bank (Vector.replicate 6 none)).setDegraded s.chooseSet.2).carryOutCommits).invalidateOthers
    s.chooseSet.1

/-- The record of a cycle joins the others, and the markers and counters of openings follow (02 R36). -/
def State.joinCycle (s : State) (k : Cycle) : State :=
  { s with cyc := { s.cyc with
      cycles := s.cyc.cycles ++ [k]
      skipped := counterAdd s.cyc.skipped (skippedBy s.cyc.lastOpened k.fn)
      opened := counterInc s.cyc.opened
      lastOpened := some k.fn
      lastSet := some k.set } }

theorem State.openCycle_eq (bank : Bank) (fn : Half) :
    s.openCycle bank fn =
      ((s.readyToOpen bank).joinCycle ((s.readyToOpen bank).newCycle bank fn s.chooseSet.1)).openTally bank := rfl

theorem State.keeps_readyToOpen (bank : Bank) : s.Keeps free (s.readyToOpen bank) :=
  ((((s.keeps_setBank bank _).trans (State.keeps_setBuffer _ bank _)).trans (State.keeps_setDegraded _ _)).trans
    (State.keeps_carryOutCommits _)).trans (State.keeps_invalidateOthers _ _)

/-- A cycle opens in a bank that no cycle holds, in a loop that opens cycles (02 R30, R36). -/
theorem State.keeps_openCycle (opening : free .bound) {bank : Bank} (fn : Half) (opens : s.loop.state.closedToCycles = false)
    (vacant : s.cycleAt bank = none) : s.Keeps free (s.openCycle bank fn) := by
  have still_opens := (s.keeps_readyToOpen (free := fun _ => False) bank).aspect .resting id
  have still_vacant := (s.keeps_readyToOpen (free := fun _ => False) bank).aspect .bound id
  have joined : (s.readyToOpen bank).Keeps free
      ((s.readyToOpen bank).joinCycle ((s.readyToOpen bank).newCycle bank fn s.chooseSet.1)) := by
    refine State.keeps_addCycle _ .of_same rfl opening (still_opens.trans opens) rfl fun k hk same => ?_
    obtain ⟨k', hk', bank_eq⟩ := still_vacant k hk
    exact State.cycleAt_none.mp vacant k' hk' (bank_eq.trans same)
  rw [State.openCycle_eq]
  exact ((s.keeps_readyToOpen bank).trans joined).trans (State.keeps_openTally _ bank)

/-- With fewer than two cycles the bank that an opening takes is free (02 R28, R36). -/
theorem State.cycleAt_freeBank (few : s.cyc.cycles.length < 2) : s.cycleAt s.freeBank = none := by
  unfold State.freeBank
  split
  · rename_i vacant
    simpa using vacant
  · rename_i taken
    rw [State.cycleAt_none]
    match cycles_eq : s.cyc.cycles with
    | [] => simp
    | [k] =>
      have in_bankA : k.bank = .bankA := by simpa [State.cycleAt, cycles_eq] using taken
      simp [in_bankA]
    | _ :: _ :: _ => simp [cycles_eq] at few

theorem State.keeps_openWith (opening : free .bound) (i : Fin 6) (f : Frame) (opens : s.loop.state.closedToCycles = false)
    (few : s.cyc.cycles.length < 2) : s.Keeps free (s.openWith i f) := by
  have vacant : (s.takeHead i f).cycleAt s.freeBank = none := by
    simpa [State.cycleAt] using s.cycleAt_freeBank few
  have opened := (s.keeps_takeHead i f).trans
    (State.keeps_openCycle (s.takeHead i f) opening f.fn (by simpa using opens) vacant)
  unfold State.openWith
  dsimp only
  split
  · exact opened
  · exact ((opened.trans (State.keeps_correctFrame _ _ _ _)).trans (State.keeps_assign _ _ _ _ _)).trans (State.keeps_checkComplete _ _)

theorem State.keeps_offerHead (opening : free .bound) (i : Fin 6) : s.Keeps free (s.offerHead i).1 := by
  unfold State.offerHead
  split
  · exact .refl s
  · rename_i f _ _
    split
    · exact (s.keeps_takeHead i f).trans (State.keeps_correctFrame _ _ _ _)
    · rename_i opens
      split
      · exact s.keeps_takeInto _ i f
      · split
        · refine (s.keeps_takeHead i f).trans ?_
          dsimp only
          exact State.keeps_updCounters _ i _
        · split
          · exact s.keeps_openWith opening i f (by simpa using opens) ‹_›
          · split
            · split
              · exact s.keeps_closeWithMisses _ _
              · exact .refl s
            · exact .refl s

/-! ## Passage to law (02 R47) -/

theorem State.keeps_beginLaw (k : Cycle) : s.Keeps free (s.beginLaw k) := .of_same

@[simp] theorem State.cyc_capturePeaks (k : Cycle) : (s.capturePeaks k).cyc = s.cyc := by
  unfold State.capturePeaks
  split <;> rfl

theorem State.keeps_passToLaw : s.Keeps free s.passToLaw := by
  unfold State.passToLaw
  split
  · exact .refl s
  · rename_i k rest cycles_eq
    have head : k ∈ s.cyc.cycles := by simp [cycles_eq]
    have moved : s.Keeps (fun x => free x ∨ x = .drained) (s.updCycle k.bank fun k => { k with state := .law }) :=
      s.keeps_updCycle k.bank (drained := .inl (.inr rfl))
    refine .ite (fun _ => ?_) (fun live => ?_)
    · refine .fill .drained (moved.trans (State.keeps_retire _ k.bank)) fun _ before k' hk' abandoned => ?_
      obtain ⟨hk', elsewhere⟩ := List.mem_filter.mp hk'
      obtain ⟨c, hc, rfl⟩ := List.mem_map.mp hk'
      by_cases here : c.bank = k.bank
      · simp [here] at elsewhere
      · rw [if_neg here] at abandoned ⊢
        exact before c hc abandoned
    · refine .fill .drained ((moved.trans (State.keeps_beginLaw _ k)).trans (State.keeps_capturePeaks _ k))
        fun banked before k' hk' abandoned => ?_
      rw [State.cyc_capturePeaks, State.beginLaw_cyc] at hk'
      obtain ⟨c, hc, rfl⟩ := List.mem_map.mp hk'
      by_cases here : c.bank = k.bank
      · obtain rfl := banked.eq_of_bank hc head here
        simp at abandoned
        exact absurd abandoned live
      · rw [if_neg here] at abandoned ⊢
        exact before c hc abandoned

theorem State.keeps_followUp (opening : free .bound) (n : Nat) (o : Offering) : s.Keeps free (State.followUp n o s) := by
  induction n generalizing o s with
  | zero => exact .refl s
  | succ n ih =>
    unfold State.followUp
    refine .ite (fun _ => ?_) fun _ => .ite (fun _ => s.keeps_passToLaw.trans (ih _ _)) fun _ => ?_
    · exact (State.Keeps.of_same (s := s)).trans (ih _ _)
    · split
      · exact .refl s
      · exact (s.keeps_offerHead opening _).trans (ih _ _)
      · split
        · exact .refl s
        · exact (s.keeps_offerHead opening _).trans (ih _ _)

/-- A step's follow-ups keep every aspect, an opening of a cycle included. -/
theorem State.keeps_settle (opening : free .bound) (o : Offering) : s.Keeps free (s.settle o) :=
  ((s.keeps_followUp opening _ o).trans (State.keeps_startJob _)).trans (State.keeps_grant _)

/-! ## The entry to IDLE or SAFE (06 R116, 02 R50) -/

theorem State.keeps_invalidateAll : s.Keeps free s.invalidateAll := .of_same

theorem State.keeps_abandonAll : s.Keeps free s.abandonAll :=
  (State.Keeps.foldl (fun u bank => u.keeps_abandon bank true) _ s).trans .of_same

theorem State.forall_abandoned_foldl {s : State} (banked : s.banked) (l : List Bank)
    (named : ∀ k ∈ s.cyc.cycles, k.bank ∈ l ∨ k.abandoned = true) :
    ∀ k ∈ (l.foldl (fun u bank => u.abandon bank true) s).cyc.cycles, k.abandoned = true := by
  induction l generalizing s with
  | nil => exact fun k hk => (named k hk).resolve_left (by simp)
  | cons b l ih =>
    refine ih ((s.keeps_abandon (free := fun _ => True) b true).banked banked) fun k hk => ?_
    rcases State.mem_abandon banked hk with ⟨elsewhere, stood⟩ | ⟨-, abandoned, -⟩
    · rcases named k stood with named | abandoned
      · exact .inl ((List.mem_cons.mp named).resolve_left elsewhere)
      · exact .inr abandoned
    · exact .inr abandoned

/-- Every cycle is abandoned at the entry (02 R50). -/
theorem State.forall_abandoned_abandonAll {s : State} (banked : s.banked) : ∀ k ∈ s.abandonAll.cyc.cycles, k.abandoned = true :=
  State.forall_abandoned_foldl banked _ fun _ hk => .inl (List.mem_map_of_mem hk)

@[simp] theorem State.cyc_abortRun : s.abortRun.cyc = s.cyc := by
  unfold State.abortRun
  split <;> rfl

@[simp] theorem State.cyc_restCommit : s.restCommit.cyc = s.cyc := by simp [State.restCommit]

/-- The state that the entry to IDLE or SAFE leaves before its follow-ups. -/
def State.entered (s : State) (l : LoopState) (rest : Bool) : State :=
  let t := ((((s.setLoop l).entryMarks).abandonAll).invalidateAll).abortRun
  (if rest then t.restCommit else t).carryOutCommits

theorem State.enterRest_eq (l : LoopState) (rest : Bool) : s.enterRest l rest = (s.entered l rest).settle (.heads []) := rfl

theorem State.keeps_setLoop_freely (resting : free .resting) (restful : free .restful) (l : LoopState) :
    s.Keeps free (s.setLoop l) := s.keeps_setLoop l (.inl resting) (.inl restful)

theorem State.keeps_entered (resting : free .resting) (restful : free .restful) (l : LoopState) (rest : Bool) :
    s.Keeps free (s.entered l rest) := by
  have marked (t : State) : t.Keeps free t.entryMarks := .of_same
  have aborted := ((((s.keeps_setLoop_freely resting restful l).trans (marked _)).trans (State.keeps_abandonAll _)).trans
    (State.keeps_invalidateAll _)).trans (State.keeps_abortRun _)
  exact .trans (.ite (fun _ => aborted.trans (State.keeps_restCommit _)) (fun _ => aborted)) (State.keeps_carryOutCommits _)

theorem State.entered_abandoned {s : State} (banked : s.banked) (l : LoopState) (rest : Bool) :
    ∀ k ∈ (s.entered l rest).cyc.cycles, k.abandoned = true := by
  have still_banked : ((s.setLoop l).entryMarks).banked :=
    (State.keeps_setLoop_freely (free := fun _ => True) s trivial trivial l).banked banked
  have cyc_eq : (s.entered l rest).cyc = ((s.setLoop l).entryMarks).abandonAll.cyc := by
    unfold State.entered
    dsimp only
    split <;> simp [State.invalidateAll]
  rw [cyc_eq]
  exact State.forall_abandoned_abandonAll still_banked

/-- The entry leaves no live cycle, whatever the loop did before (02 R50). -/
theorem State.keeps_enterRest (opening : free .bound) (resting : free .resting) (l : LoopState) (rest : Bool) :
    s.Keeps free (s.enterRest l rest) := by
  have entered := s.keeps_entered (free := fun x => free x ∨ x = .restful) (.inl resting) (.inr rfl) l rest
  rw [State.enterRest_eq]
  refine .fill .restful (entered.trans (State.keeps_settle _ (.inl opening) _)) fun banked _ => ?_
  exact (State.keeps_settle (free := (· ≠ .restful)) _ (by decide) _).aspect .restful (by simp) (entered.banked banked)
    fun _ => State.entered_abandoned banked l rest

/-- The loop state after an abandonment of everything is the one entered. -/
theorem State.closedToCycles_enterRest (l : LoopState) (rest : Bool) :
    (s.enterRest l rest).loop.state.closedToCycles = l.closedToCycles := by
  have set : (s.setLoop l).loop.state = l := by
    unfold State.setLoop
    split
    · assumption
    · rfl
  have marked (t : State) : t.Keeps (· = .bound) t.entryMarks := .of_same
  have aborted := (((marked (s.setLoop l)).trans (State.keeps_abandonAll _)).trans (State.keeps_invalidateAll _)).trans
    (State.keeps_abortRun _)
  have entered : (s.setLoop l).Keeps (· = .bound) (s.entered l rest) :=
    .trans (.ite (fun _ => aborted.trans (State.keeps_restCommit _)) (fun _ => aborted)) (State.keeps_carryOutCommits _)
  have settled := State.keeps_settle (free := (· = .bound)) (s.entered l rest) rfl (.heads [])
  rw [State.enterRest_eq, (entered.trans settled).aspect .resting (by decide), set]

/-! ## Device messages (10 R192, 03 R66) -/

/-- Every cycle dropped: what is said of the existing cycles holds of none. -/
theorem State.keeps_dropCycles {t : State} (unchanged : s.Keeps free { t with cyc := { t.cyc with cycles := s.cyc.cycles } })
    (dropped : t.cyc.cycles = []) : s.Keeps free t where
  banked _ := by simp [State.banked, dropped]
  aspect x hx := by
    have kept := unchanged.aspect x hx
    cases x
    case bound => simp [Aspect.keptFrom, dropped]
    case drained => simp [Aspect.keptFrom, State.drained, dropped]
    case restful => simp [Aspect.keptFrom, State.restful, dropped]
    all_goals exact kept

/-- The steps of DEV.CLEAR after the loop has been made IDLE. -/
theorem State.keeps_devClear_of_clearLoop (selection : free .selection) (notices : free .notices) (peaks : free .peaks) :
    s.clearLoop.Keeps free s.devClear := by
  have cycles_cleared (t : State) : t.Keeps free t.clearCycles :=
    t.keeps_dropCycles (.of_same (selection := fun h => absurd selection h)) rfl
  have run_cleared (t : State) : t.Keeps free t.clearRun :=
    .trans (.ite (fun _ => t.keeps_stopRun .cleared) (fun _ => .refl t)) .of_same
  have sensor_cleared (t : State) (i : Fin 6) : t.clearIntake.sensor i = (t.sensor i).cleared := by
    simp [State.sensor, State.clearIntake]
  have intake_cleared (t : State) : t.Keeps free t.clearIntake :=
    .of_same (config := fun _ i => by rw [sensor_cleared]; rfl) (exclusion := fun _ i => by rw [sensor_cleared]; rfl)
      (pages := fun _ i => by rw [sensor_cleared]; rfl)
  have notices_cleared (t : State) : t.Keeps free t.clearNotices := by
    refine ⟨id, fun x hx => ?_⟩
    cases x
    case notices => exact absurd notices hx
    case replies => exact ⟨[], by simp [State.clearNotices], by simp⟩
    case bound => exact fun k hk => ⟨k, hk, rfl⟩
    case config | exclusion | pages => exact fun _ => rfl
    case ack | lines => exact ⟨rfl, rfl⟩
    case memory | linked | coded | failed | peaks => exact id
    case drained | restful => exact fun _ => id
    all_goals rfl
  have monitor_cleared (t : State) : t.Keeps free t.clearMonitor := .of_same (peaks := fun h => absurd peaks h)
  exact (((((((cycles_cleared s.clearLoop).trans (State.keeps_invalidateAll _)).trans (run_cleared _)).trans
    (intake_cleared _)).trans (State.keeps_restCommit _)).trans (monitor_cleared _)).trans (notices_cleared _)).trans
      (State.keeps_grant _)

@[simp] theorem State.cyc_grant : s.grant.cyc = s.cyc := by
  unfold State.grant
  split
  · rfl
  · split
    · split
      · rfl
      · split <;> rfl
    · split <;> rfl

@[simp] theorem State.cyc_clearRun : s.clearRun.cyc = s.cyc := by
  unfold State.clearRun
  dsimp only
  split <;> rfl

/-- DEV.CLEAR leaves the cycle controller as its second step makes it (10 R192). -/
theorem State.cyc_devClear : s.devClear.cyc = s.clearLoop.clearCycles.cyc := by
  simp [State.devClear, State.clearNotices, State.clearMonitor, State.clearIntake, State.invalidateAll]

theorem State.keeps_devClear (resting : free .resting) (selection : free .selection) (notices : free .notices)
    (peaks : free .peaks) :
    s.Keeps free s.devClear := by
  have loop_cleared : s.Keeps (fun x => free x ∨ x = .restful) s.clearLoop :=
    (s.keeps_setLoop_freely (.inl resting) (.inr rfl) .idle).trans .of_same
  refine .fill .restful (loop_cleared.trans (s.keeps_devClear_of_clearLoop (.inl selection) (.inl notices) (.inl peaks)))
    fun _ _ _ k hk => ?_
  simp [State.cyc_devClear, State.clearCycles] at hk

theorem State.loop_setLoop (l : LoopState) : (s.setLoop l).loop.state = l := by
  unfold State.setLoop
  split
  · assumption
  · rfl

theorem State.closedToCycles_devClear : s.devClear.loop.state.closedToCycles = true := by
  have kept := s.keeps_devClear_of_clearLoop (free := fun x => x = .selection ∨ x = .notices ∨ x = .peaks) (.inl rfl)
    (.inr (.inl rfl)) (.inr (.inr rfl))
  rw [kept.aspect .resting (by decide)]
  exact congrArg LoopState.closedToCycles (s.loop_setLoop .idle)

theorem State.keeps_setGeometry (n : Nat) (nAct : free .nAct) (neighbours : free .neighbours) (pokeList : free .pokeList)
    (failed : free .failed) : s.Keeps free (s.setGeometry n) := by
  refine .fill .coded (.trans (.of_same (nAct := fun h => absurd (.inl nAct) h) (neighbours := fun h => absurd (.inl neighbours) h)
    (coded := fun h => absurd (.inr rfl) h) (failed := fun h => absurd (.inl failed) h) (pokeList := fun h => absurd (.inl pokeList) h))
    (State.keeps_restCommit _)) fun _ => ?_
  exact (State.keeps_foreignCommit (free := fun _ => False) _).aspect .coded id (State.coded_commitVector _)

end FollowUps

end Sys2Proof.Machine

/-! What each command keeps. `setBy c` names the aspects that a command may change; an event is shown to keep all others, and a
message to answer in one of three ways: with a refusal, with DONE or CLAMPED, or by going on. -/

namespace Sys2Proof.Machine

-- One theorem at a time: each worker thread reserves memory of its own.
set_option Elab.async false

/-- The commands that may change an aspect (00 section 0.7.8 and the messages that set it). -/
def setBy (c : Instr) : Aspect → Prop
  | .freeCount => c = .cycStatus ∨ c = .drvStatus
  | .holdn => ∃ low, c = .holdnChange low
  | .params => c = .loopParam
  | .resting => c ∈ [.loopOpen, .loopStop, .loopSafe, .loopReset, .devClear] ∨ (∃ d b, c = .acknowledgement d b)
      ∨ ∃ d, c = .ackTimerExpiry d
  | .config => c = .snsConfig
  | .exclusion => c = .snsConfig ∨ c = .snsExclAdd ∨ c = .snsExclDel
  | .pages => c = .snsConfig ∨ c = .refWrite
  | .tDl => c = .cycParam
  | .degTable => c = .degWrite
  | .selection => c = .setSelect ∨ c = .devClear
  | .nAct => c = .devGeom
  | .data => c = .setLoadRowWrite ∨ c = .calResponseWrite
  | .neighbours => c = .nbrAdd ∨ c = .nbrClear ∨ c = .devGeom
  | .ack => c = .drvParam
  | .pokeList => c = .calLoad ∨ c = .devGeom
  | .lines => c = .monSelect
  | .masks => c = .ntcMask
  | .notices => c = .ntcPoll ∨ c = .devClear
  | .peaks => c = .devClear
  | .failed => c = .devGeom ∨ (∃ d b, c = .acknowledgement d b) ∨ ∃ d, c = .ackTimerExpiry d
  | .bound => True
  | _ => False

/-! ## Events -/

section Events

variable {free : Aspect → Prop} (s : State)

theorem Sensor.restartRun_frame (x : Sensor) :
    x.restartRun.config = x.config ∧ x.restartRun.exclusion = x.exclusion ∧ x.restartRun.pages = x.pages := by
  unfold Sensor.restartRun
  split <;> exact ⟨rfl, rfl, rfl⟩

theorem State.keeps_restartRun (i : Fin 6) : s.Keeps free (s.updSensor i Sensor.restartRun) :=
  s.keeps_updSensor i (config := fun _ x => x.restartRun_frame.1) (exclusion := fun _ x => x.restartRun_frame.2.1)
    (pages := fun _ x => x.restartRun_frame.2.2)

theorem Sensor.staleTested_frame (x : Sensor) (slopes : List Int) :
    (x.staleTested slopes).config = x.config ∧ (x.staleTested slopes).exclusion = x.exclusion
      ∧ (x.staleTested slopes).pages = x.pages := by
  unfold Sensor.staleTested
  split
  · exact ⟨rfl, rfl, rfl⟩
  · split <;> exact ⟨rfl, rfl, rfl⟩

theorem State.keeps_staleTested (i : Fin 6) (slopes : List Int) : s.Keeps free (s.updSensor i fun x => x.staleTested slopes) :=
  s.keeps_updSensor i (config := fun _ x => (x.staleTested_frame slopes).1) (exclusion := fun _ x => (x.staleTested_frame slopes).2.1)
    (pages := fun _ x => (x.staleTested_frame slopes).2.2)

theorem State.keeps_recordFlags (i : Fin 6) (fl : Flags) : s.Keeps free (s.recordFlags i fl) :=
  .ite (fun _ => .refl s) (fun _ => ((s.keeps_updSensor i).trans (State.keeps_raise _ _)).trans (State.keeps_reportInband _))

theorem State.keeps_badFlags (i : Fin 6) (fl : Flags) : s.Keeps free (s.badFlags i fl) :=
  .ite (fun _ => .refl s) (fun _ => .ite (fun _ => (s.keeps_recordFlags i _).trans (State.keeps_invalidate _ i))
    (fun _ => s.keeps_recordFlags i _))

theorem State.keeps_staleUpdate (i : Fin 6) (before : Nat) : s.Keeps free (s.staleUpdate i before) :=
  .ite (fun _ => ((s.keeps_updSensor i).trans (State.keeps_updCounters _ i _)).trans (State.keeps_becomeLost _ i))
    (fun _ => s.keeps_restartRun i)

theorem State.keeps_becomeActive (i : Fin 6) : s.Keeps free (s.becomeActive i) :=
  ((s.keeps_updSensor i).trans (State.keeps_setMode _ i _)).trans (State.keeps_reportInband _)

theorem State.keeps_goodUpdate (i : Fin 6) : s.Keeps free (s.goodUpdate i) := by
  unfold State.goodUpdate
  dsimp only
  split
  · exact .ite (fun _ => s.keeps_becomeActive i) (fun _ => s.keeps_updSensor i)
  · exact .ite (fun _ => s.keeps_becomeActive i) (fun _ => (s.keeps_updSensor i).trans (State.keeps_setMode _ i _))
  · exact .refl s

theorem State.keeps_frameUpdate (i : Fin 6) (f : Frame) : s.Keeps free (s.frameUpdate i f).1 := by
  unfold State.frameUpdate
  split
  · exact s.keeps_restartRun i
  · dsimp only
    split
    · exact (s.keeps_staleTested i _).trans (State.keeps_staleUpdate _ i _)
    · exact (s.keeps_staleTested i _).trans (State.keeps_goodUpdate _ i)

theorem State.keeps_joinQueue (i : Fin 6) (f : Frame) : s.Keeps free (s.joinQueue i f) := by
  have stamped : s.Keeps free { s with intake := { s.intake with arrivals := s.intake.arrivals + 1 } } := .of_same
  unfold State.joinQueue
  dsimp only
  refine stamped.trans (State.keeps_updSensor _ i (config := fun _ x => ?_) (exclusion := fun _ x => ?_) (pages := fun _ x => ?_)) <;>
    split <;> rfl

theorem State.keeps_dispose (opening : free .bound) (i : Fin 6) (f : Frame) (stale : Bool) : s.Keeps free (s.dispose i f stale) :=
  .ite (fun _ => s.keeps_countTaken i f) (fun _ => .ite
    (fun _ => (s.keeps_joinQueue i f).trans (State.keeps_settle _ opening _))
    (fun _ => (s.keeps_countTaken i f).trans (State.keeps_correctFrame _ _ _ _)))

theorem State.keeps_checkedFrame (opening : free .bound) (i : Fin 6) (f : Frame) : s.Keeps free (s.checkedFrame i f) :=
  (((s.keeps_recordFlags i f.flags).trans (State.keeps_frameUpdate _ i f)).trans (State.keeps_settle _ opening _)).trans
    (State.keeps_dispose _ opening i f _)

/-! ### The job in flight -/

theorem State.keeps_setDram (d : Dram) (wf : s.mem.dram.wf = true → d.wf = true) (data : ¬ free .data → d.data = s.mem.dram.data) :
    s.Keeps free (s.setDram d) := .of_same (memory := wf) (data := data)

theorem State.keeps_upset (slot : Nat) (us : List Upset) : s.Keeps free (s.setDram (s.mem.dram.upset slot us)) :=
  s.keeps_setDram _ (upset_wf _ _ _) (fun _ => upset_data _ _ _)

theorem State.keeps_clearFlight : s.Keeps free s.clearFlight := .of_same

theorem State.keeps_reportDone (f : Flight) : s.Keeps free (s.reportDone f) := by
  have lowered : s.Keeps free (s.updCycle f.job.bank fun k => { k with outstanding := k.outstanding - 1 }) :=
    s.keeps_updCycle _ (drained := .inr fun _ h => h)
  unfold State.reportDone
  dsimp only
  split
  · exact lowered
  · exact lowered.trans (State.keeps_setPendingSub _ _ _)

theorem State.keeps_failJob (f : Flight) (n : Fin 4) : s.Keeps free (s.failJob f n) := by
  have counted : s.Keeps free s.countUncorrectable := .of_same
  have noted := ((counted.trans (State.keeps_updSet _ n fun r =>
    { r with errCount := counterInc r.errCount, errLoc := some (f.job.sensor, f.nextRow) })).trans
      (State.keeps_raise _ .memoryError)).trans (State.keeps_clearFlight _)
  exact .ite (fun _ => noted) (fun _ => (noted.trans (State.keeps_reportDone _ f)).trans (State.keeps_abandon _ _ _))

theorem State.keeps_addJob (f : Flight) (k : Cycle) : s.Keeps free (s.addJob f k) := by
  unfold State.addJob
  split
  · exact (s.keeps_setBank _ _).trans (State.keeps_updSaved _ _ _)
  · exact .refl s
  · exact .ite (fun _ => (s.keeps_setBank _ _).trans (State.keeps_updSaved _ _ _)) (fun _ => .refl s)

theorem State.keeps_completeJob (f : Flight) : s.Keeps free (s.completeJob f) := by
  unfold State.completeJob
  refine .ite (fun _ => s.keeps_clearFlight) fun _ => ?_
  split
  · exact s.keeps_clearFlight
  · rename_i k _
    have added : s.Keeps free (if k.abandoned then s else s.addJob f k) := .ite (fun _ => .refl s) (fun _ => s.keeps_addJob f k)
    exact (added.trans (State.keeps_reportDone _ f)).trans (State.keeps_clearFlight _)

theorem State.keeps_completeLaw (run : LawRun) : s.Keeps free (s.completeLaw run) := by
  have ended : s.Keeps free (s.endLaw run) := .of_same
  have taken (t : State) : t.Keeps free (t.takeLaw run) := .of_same
  have applied : s.Keeps free (if run.applies then ((s.endLaw run).takeLaw run).commit else s.endLaw run) :=
    .ite (fun _ => (ended.trans (taken _)).trans (State.keeps_commit _)) (fun _ => ended)
  have tested := applied.trans (State.keeps_testSnapshot _ run run.applies)
  exact .trans (.trans (.ite (fun _ => tested.trans (State.keeps_takeQ _ _)) (fun _ => tested)) (State.keeps_applyDeferred _))
    (State.keeps_retire _ _)

/-! ### Drive links -/

theorem State.linkFailed_iff {s : State} :
    s.linkFailed = true ↔ ∃ d, 0 < serviceCount s.mem.nAct d ∧ (s.driveLink d).state = .failed := by
  have every : ∀ d : Fin 4, d ∈ allLinks := by decide
  simp [State.linkFailed, every]

theorem State.keeps_updLink (d : Fin 4) {f : DriveLink → DriveLink}
    (failed : free .failed ∨ ((f (s.driveLink d)).state = .failed → (s.driveLink d).state = .failed)) :
    s.Keeps free (s.updLink d f) := by
  by_cases freed : free .failed
  · exact .of_same (failed := fun h => absurd freed h)
  · refine .fill .failed (.of_same (failed := fun h => absurd (.inr rfl) h)) fun h => ?_
    obtain ⟨e, serves, fails⟩ := State.linkFailed_iff.mp h
    refine State.linkFailed_iff.mpr ⟨e, serves, ?_⟩
    by_cases same : e = d
    · subst same
      rw [State.driveLink_updLink] at fails
      exact failed.resolve_left freed fails
    · rwa [State.driveLink_updLink_ne s f same] at fails

theorem State.keeps_sendOn (d : Fin 4) : s.Keeps free (s.sendOn d) :=
  s.keeps_updLink d (.inr fun h => by simp [sendFrame] at h)

theorem State.keeps_reportFailure (opening : free .bound) (resting : free .resting) : s.Keeps free s.reportFailure :=
  .ite (fun _ => s.keeps_raise _) (fun _ => (s.keeps_raise _).trans (State.keeps_enterRest _ opening resting _ _))

theorem State.keeps_failLink (opening : free .bound) (resting : free .resting) (failed : free .failed) (d : Fin 4) :
    s.Keeps free (s.failLink d) :=
  .ite (fun _ => (s.keeps_updLink d (.inl failed)).trans (State.keeps_reportFailure _ opening resting))
    (fun _ => s.keeps_updLink d (.inl failed))

theorem State.keeps_takeAck (opening : free .bound) (resting : free .resting) (failed : free .failed) (d : Fin 4) (seq : Byte)
    (accept : Bool) : s.Keeps free (s.takeAck d seq accept) :=
  .ite (fun _ => .ite (fun _ => s.keeps_updLink d (.inl failed)) (fun _ => s.keeps_failLink opening resting failed d))
    (fun _ => s.keeps_updLink d (.inr id))

/-! ### Transfers -/

theorem State.keeps_setProgress (p : Progress) : s.Keeps free (s.setProgress p) := by
  refine .fill .linked (.fill .replies ⟨id, fun x hx => ?_⟩ ⟨[], by simp [State.setProgress], by simp⟩) fun h => ?_
  · cases x
    case replies => exact absurd (.inr rfl) hx
    case linked => exact absurd (.inl (.inr rfl)) hx
    case bound => exact fun k hk => ⟨k, hk, rfl⟩
    case config | exclusion | pages => exact fun _ => rfl
    case ack | lines => exact ⟨rfl, rfl⟩
    case memory | coded | failed | peaks => exact id
    case notices | drained | restful => exact fun _ => id
    all_goals rfl
  · obtain ⟨queue, replies, fulls, alone⟩ := h
    exact ⟨queue, replies, fulls, fun holds => by simp [State.setProgress, alone holds]⟩

theorem State.keeps_completeSet (n : Fin 4) : s.Keeps free (s.completeSet n) :=
  .ite (fun _ => (s.keeps_updSet _ _).trans (State.keeps_raise _ _)) (fun _ => .refl s)

theorem State.keeps_endTransfer : s.Keeps free s.endTransfer := s.keeps_setArbiter _

theorem State.keeps_completeEntry : s.Keeps free s.completeEntry :=
  .ite (fun _ => (State.Keeps.of_same (s := s)).trans (State.keeps_phaseCommit _ _))
    (fun _ => (State.Keeps.of_same (s := s)).trans (State.keeps_endRun _ _))

theorem State.keeps_nextResponse : s.Keeps free s.nextResponse := by
  unfold State.nextResponse
  split
  · exact .refl s
  · exact .ite (fun _ => (State.Keeps.of_same (s := s)).trans (State.keeps_completeEntry _))
      (fun _ => (State.Keeps.of_same (s := s)).trans (State.keeps_request _ _))

theorem State.keeps_replyResponses (replies : free .replies) (e place count : Nat) (failed : Bool) :
    s.Keeps free (s.replyResponses e place count failed) :=
  .ite (fun _ => (State.Keeps.of_same (s := s)).trans (State.keeps_reply _ (st := .notReady) (by decide) (.inl replies) _))
    (fun _ => s.keeps_reply (by decide) (.inl replies) _)

end Events

/-! ## The control link's own events (10 section 10.1) -/

/-- What the link's events keep of the link. -/
structure ControlLink.Grows (l l' : ControlLink) : Prop where
  sound : l.sound → l'.sound
  masks : l'.masks = l.masks
  notices : ∀ i, l.notices.getLsbD i = true → l'.notices.getLsbD i = true

theorem ControlLink.Grows.trans {l l' l'' : ControlLink} (h : l.Grows l') (g : l'.Grows l'') : l.Grows l'' :=
  ⟨g.sound ∘ h.sound, g.masks.trans h.masks, fun i => g.notices i ∘ h.notices i⟩

theorem ControlLink.grows_beginNext (l : ControlLink) : l.Grows l.beginNext := by
  obtain ⟨-, notices, masks⟩ := l.beginNext_frame
  exact ⟨ControlLink.sound_beginNext, masks, fun i => by rw [notices]; exact id⟩

theorem ControlLink.grows_linkError (l : ControlLink) : l.Grows l.linkError :=
  ⟨id, rfl, fun i h => by simp [ControlLink.linkError, h]⟩

/-- The receiver's state bounds nothing. -/
theorem ControlLink.grows_receiver (l : ControlLink) (r : Receiver) : l.Grows { l with receiver := r } := ⟨id, rfl, fun _ => id⟩

theorem ControlLink.grows_offer (l : ControlLink) (f : CommandFrame) : l.Grows (l.offer f) := by
  unfold ControlLink.offer
  split
  · rename_i room
    have queued : l.Grows { l with queue := l.queue ++ [f] } := by
      refine ⟨fun h => ⟨?_, h.2⟩, rfl, fun _ => id⟩
      have := show l.queue.length < 4 from room
      simp only [List.length_append, List.length_singleton]
      omega
    exact queued.trans (ControlLink.grows_beginNext _)
  · split
    · rename_i room
      refine ⟨fun h => ?_, rfl, fun _ => id⟩
      obtain ⟨queue, replies, fulls, alone⟩ := h
      refine ⟨queue, by simpa [List.filter_append] using replies, ?_, fun holds => alone ?_⟩
      · have := show (l.transmitter.filter fun r => decide (r.status = .queueFull)).length < 7 from room
        simp only [List.filter_append, List.length_append]
        simp
        omega
      · simpa [ControlLink.holdsReply] using holds
    · exact l.grows_linkError

theorem ControlLink.grows_take (l : ControlLink) (got : List Byte) : l.Grows (l.take got) := by
  unfold ControlLink.take ControlLink.complete
  split
  · exact (l.grows_receiver _).trans (ControlLink.grows_linkError _)
  · split
    · dsimp only
      split
      · exact (l.grows_receiver _).trans (ControlLink.grows_offer _ _)
      · exact (l.grows_receiver _).trans (ControlLink.grows_linkError _)
    · exact l.grows_receiver _

theorem ControlLink.grows_feed (l : ControlLink) (b : Byte) : l.Grows (l.feed b) := by
  unfold ControlLink.feed
  split
  · exact ⟨id, rfl, fun _ => id⟩
  · split <;> exact l.grows_receiver _
  · exact l.grows_take _

theorem ControlLink.grows_feedAll (l : ControlLink) (bytes : List Byte) : l.Grows (l.feedAll bytes) := by
  induction bytes generalizing l with
  | nil => exact ⟨id, rfl, fun _ => id⟩
  | cons b bytes ih => exact (l.grows_feed b).trans (ih (l.feed b))

theorem State.keeps_link {free : Aspect → Prop} (s : State) {l : ControlLink} (grows : s.link.Grows l) (replies : free .replies) :
    s.Keeps free { s with link := l } where
  banked := id
  aspect x hx := by
    cases x
    case replies => exact absurd replies hx
    case linked => exact grows.sound
    case masks => exact grows.masks
    case notices => exact fun n => grows.notices _
    case bound => exact fun k hk => ⟨k, hk, rfl⟩
    case config | exclusion | pages => exact fun _ => rfl
    case ack | lines => exact ⟨rfl, rfl⟩
    case memory | coded | failed | peaks => exact id
    case drained | restful => exact fun _ => id
    all_goals rfl

theorem ControlLink.grows_replySent {l : ControlLink} {r : Reply} {rest : List Reply} (front : l.transmitter = r :: rest) :
    l.Grows { l with transmitter := rest, lastSent := replyBytes r } := by
  refine ⟨fun ⟨queue, replies, fulls, alone⟩ => ?_, rfl, fun _ => id⟩
  have fewer (P : Reply → Bool) : (rest.filter P).length ≤ (l.transmitter.filter P).length := by
    rw [front]
    exact ((List.sublist_cons_self r rest).filter P).length_le
  refine ⟨queue, (fewer _).trans replies, (fewer _).trans fulls, fun holds => alone ?_⟩
  simp only [ControlLink.holdsReply, front, List.any_cons] at holds ⊢
  rw [holds, Bool.or_true]

theorem ControlLink.grows_linkClear (l : ControlLink) :
    l.Grows { l with receiver := .inBreak, queue := [], transmitter := [],
                     executing := l.executing.map fun c => { c with noReply := true } } :=
  ⟨fun _ => ⟨by simp, by simp, by simp, fun holds => by simp [ControlLink.holdsReply] at holds⟩, rfl, fun _ => id⟩

/-! ## Every event -/

/-- An event keeps every aspect that it does not set; the replies held by the transmitter are the link events' own. -/
theorem event_keeps {c : Instr} {s t : State} (event : messageOf c = none) (not_reset : c ≠ .powerOnReset) (h : exec c s = .next t) :
    s.Keeps (fun x => setBy c x ∨ x = .replies) t := by
  have opening (c : Instr) : (fun x => setBy c x ∨ x = .replies) .bound := .inl trivial
  cases c
  case powerOnReset => exact absurd rfl not_reset
  case sensorFrameArrival link bytes =>
    change execSensorFrameArrival link bytes s = .next t at h
    unfold execSensorFrameArrival at h
    split_ifs at h <;> obtain rfl := Host.Outcome.next.inj h
    · exact s.keeps_updCounters _ _
    · exact (s.keeps_restartRun _).trans (State.keeps_updCounters _ _ _)
    · exact (((s.keeps_restartRun _).trans (State.keeps_updCounters _ _ _)).trans (State.keeps_badFlags _ _ _)).trans
        (State.keeps_settle _ (opening _) _)
    · exact s.keeps_checkedFrame (opening _) _ _
  case deadlineExpiry bank =>
    change execDeadlineExpiry bank s = .next t at h
    unfold execDeadlineExpiry at h
    split at h
    · obtain rfl := Host.Outcome.next.inj h
      exact .refl s
    · split_ifs at h <;> obtain rfl := Host.Outcome.next.inj h
      · exact (s.keeps_closeWithMisses _ _).trans (State.keeps_settle _ (opening _) _)
      · exact .refl s
  case jobRowRead upsets =>
    change execJobRowRead upsets s = .next t at h
    unfold execJobRowRead at h
    split at h
    · rename_i f _ _
      split at h
      · rename_i slopes n _ _
        dsimp only at h
        have counted (u : State) (k : Nat) : u.Keeps (fun x => setBy (.jobRowRead upsets) x ∨ x = .replies) (u.countCorrected k) :=
          .of_same
        have read (k : Nat) := ((s.keeps_upset (coefficientSlot n f.job.sensor f.nextRow) upsets).trans (counted _ k)).trans
          (State.keeps_endTransfer _)
        split_ifs at h <;> obtain rfl := Host.Outcome.next.inj h
        · exact ((read _).trans (State.keeps_failJob _ _ _)).trans (State.keeps_settle _ (opening _) _)
        · exact ((read _).trans .of_same).trans (State.keeps_grant _)
      · obtain rfl := Host.Outcome.next.inj h
        exact .refl s
    · obtain rfl := Host.Outcome.next.inj h
      exact .refl s
  case jobCompletion =>
    change execJobCompletion s = .next t at h
    unfold execJobCompletion at h
    split at h
    · obtain rfl := Host.Outcome.next.inj h
      exact .refl s
    · split_ifs at h <;> obtain rfl := Host.Outcome.next.inj h
      · exact (s.keeps_completeJob _).trans (State.keeps_settle _ (opening _) _)
      · exact .refl s
  case lawCompletion =>
    change execLawCompletion s = .next t at h
    unfold execLawCompletion at h
    split at h <;> obtain rfl := Host.Outcome.next.inj h
    · exact .refl s
    · exact (s.keeps_completeLaw _).trans (State.keeps_settle _ (opening _) _)
  case holdnChange low =>
    obtain rfl := Host.Outcome.next.inj h
    exact ((State.Keeps.of_same (s := s) (holdn := fun h => absurd (.inl ⟨low, rfl⟩) h)).trans (State.keeps_holdsChanged _ _)).trans
      (State.keeps_settle _ (opening _) _)
  case acknowledgement link bytes =>
    change execAcknowledgement link bytes s = .next t at h
    unfold execAcknowledgement at h
    split_ifs at h <;> obtain rfl := Host.Outcome.next.inj h
    · exact s.keeps_takeAck (opening _) (.inl (.inr (.inl ⟨_, _, rfl⟩))) (.inl (.inr (.inl ⟨_, _, rfl⟩))) _ _ _
    · exact .refl s
  case ackTimerExpiry link =>
    change execAckTimerExpiry link s = .next t at h
    unfold execAckTimerExpiry at h
    split_ifs at h <;> obtain rfl := Host.Outcome.next.inj h
    · exact s.keeps_failLink (opening _) (.inl (.inr (.inr ⟨_, rfl⟩))) (.inl (.inr (.inr ⟨_, rfl⟩))) _
    · exact .refl s
  case setLoadRowWrite =>
    change execSetLoadRowWrite s = .next t at h
    unfold execSetLoadRowWrite at h
    split at h
    · rename_i n i row values rest _ _
      dsimp only at h
      have written : s.Keeps (fun x => setBy .setLoadRowWrite x ∨ x = .replies) ((s.writeRow n i row values).endTransfer) :=
        ((s.keeps_setDram _ (writeSlot_wf _ _ _) (fun h => absurd (.inl (.inl rfl)) h)).trans (State.keeps_updSet _ _ _)).trans
          (State.keeps_endTransfer _)
      split at h <;> obtain rfl := Host.Outcome.next.inj h
      · exact ((written.trans (State.keeps_completeSet _ n)).trans (State.keeps_reply _ (by decide) (.inl (.inr rfl)) _)).trans
          (State.keeps_grant _)
      · exact ((written.trans (State.keeps_setProgress _ _)).trans (State.keeps_request _ _)).trans (State.keeps_grant _)
    · obtain rfl := Host.Outcome.next.inj h
      exact .refl s
  case calResponseWrite =>
    change execCalResponseWrite s = .next t at h
    unfold execCalResponseWrite at h
    split at h
    · rename_i e i responses live _
      dsimp only at h
      have written : s.Keeps (fun x => setBy .calResponseWrite x ∨ x = .replies)
          ((s.setDram (s.mem.dram.writeSlot (responseSlot e i) responses)).endTransfer) :=
        (s.keeps_setDram _ (writeSlot_wf _ _ _) (fun h => absurd (.inl (.inr rfl)) h)).trans (State.keeps_endTransfer _)
      obtain rfl := Host.Outcome.next.inj h
      exact .trans (.ite (fun _ => written.trans (State.keeps_nextResponse _)) (fun _ => written)) (State.keeps_grant _)
    · obtain rfl := Host.Outcome.next.inj h
      exact .refl s
  case calReadTransfer upsets =>
    change execCalReadTransfer upsets s = .next t at h
    unfold execCalReadTransfer at h
    split at h
    · rename_i e i first count _ _
      dsimp only at h
      obtain rfl := Host.Outcome.next.inj h
      have read := (s.keeps_upset (free := fun x => setBy (.calReadTransfer upsets) x ∨ x = .replies) (responseSlot e i) upsets).trans
        (State.keeps_endTransfer _)
      have counted (u : State) (n : Nat) : u.Keeps (fun x => setBy (.calReadTransfer upsets) x ∨ x = .replies)
          { u with mem := { u.mem with correctedErrors := counterAdd u.mem.correctedErrors n } } := .of_same
      exact ((read.trans (counted _ _)).trans (State.keeps_replyResponses _ (.inr rfl) _ _ _ _)).trans (State.keeps_grant _)
    · obtain rfl := Host.Outcome.next.inj h
      exact .refl s
  case snapCopyEnd =>
    change execSnapCopyEnd s = .next t at h
    unfold execSnapCopyEnd at h
    split_ifs at h <;> obtain rfl := Host.Outcome.next.inj h
    · exact (State.Keeps.of_same (s := s)).trans (State.keeps_raise _ _)
    · exact .refl s
  case commandFrameReceived bytes =>
    obtain rfl := Host.Outcome.next.inj h
    exact s.keeps_link (ControlLink.grows_feedAll _ _) (.inr rfl)
  case commandLengthAboveLimit length =>
    obtain rfl := Host.Outcome.next.inj h
    exact s.keeps_link (ControlLink.grows_feedAll _ _) (.inr rfl)
  case replySent =>
    change execReplySent s = .next t at h
    unfold execReplySent at h
    split at h <;> obtain rfl := Host.Outcome.next.inj h
    · exact .refl s
    · rename_i front
      exact s.keeps_link ((ControlLink.grows_replySent front).trans (ControlLink.grows_beginNext _)) (.inr rfl)
  case linkClear =>
    obtain rfl := Host.Outcome.next.inj h
    exact s.keeps_link (ControlLink.grows_linkClear _) (.inr rfl)
  case shortBreak =>
    change execShortBreak s = .next t at h
    unfold execShortBreak at h
    split at h <;> obtain rfl := Host.Outcome.next.inj h
    · exact .refl s
    · exact s.keeps_link (ControlLink.grows_receiver _ _) (.inr rfl)
    · exact s.keeps_link ((ControlLink.grows_receiver _ _).trans (ControlLink.grows_linkError _)) (.inr rfl)
  case lineLeavesBreak =>
    change execLineLeavesBreak s = .next t at h
    unfold execLineLeavesBreak at h
    split_ifs at h <;> obtain rfl := Host.Outcome.next.inj h
    · exact s.keeps_link (ControlLink.grows_receiver _ _) (.inr rfl)
    · exact .refl s
  case unknownMessage =>
    change execUnknownMessage s = .next t at h
    unfold execUnknownMessage at h
    split at h
    · obtain rfl := Host.Outcome.next.inj h
      exact .refl s
    · split_ifs at h <;> obtain rfl := Host.Outcome.next.inj h
      · exact s.keeps_reply (by decide) (.inl (.inr rfl)) _
      · exact .refl s
  all_goals simp [messageOf] at event

end Sys2Proof.Machine

/-! How a message ends: refused with nothing else changed, carried out and answered DONE or CLAMPED, or going on without a reply. -/

namespace Sys2Proof.Machine

-- One theorem at a time: each worker thread reserves memory of its own.
set_option Elab.async false

/-- The three ways in which a message's act can end. -/
inductive Answers (free : Aspect → Prop) (s : State) : State → Prop
  | refused (st : Status) (answers : st ≠ .queueFull) : Answers free s (s.refuse st)
  | carriedOut {t : State} (kept : s.Keeps free t) (st : Status) (data : List Field) (good : st = .done ∨ st = .clamped) :
      Answers free s (t.reply st data)
  | goesOn {t : State} (kept : s.Keeps free t) : Answers free s t

section Calculus

variable {free : Aspect → Prop} {s t u : State}

theorem Answers.ite {c : Prop} [Decidable c] (yes : c → Answers free s t) (no : ¬ c → Answers free s u) :
    Answers free s (if c then t else u) := by
  split
  · exact yes ‹_›
  · exact no ‹_›

theorem doneOr_good (clamped : Bool) : doneOr clamped = .done ∨ doneOr clamped = .clamped := by
  cases clamped
  · exact .inl rfl
  · exact .inr rfl

theorem Answers.done (kept : s.Keeps free t) (data : List Field) : Answers free s (t.reply .done data) :=
  .carriedOut kept _ _ (.inl rfl)

theorem Answers.doneOr (kept : s.Keeps free t) (clamped : Bool) (data : List Field) :
    Answers free s (t.reply (doneOr clamped) data) := .carriedOut kept _ _ (doneOr_good clamped)

theorem Answers.badForm : Answers free s (s.refuse .badForm) := .refused _ (by decide)
theorem Answers.badValue : Answers free s (s.refuse .badValue) := .refused _ (by decide)
theorem Answers.wrongState : Answers free s (s.refuse .wrongState) := .refused _ (by decide)
theorem Answers.notReady : Answers free s (s.refuse .notReady) := .refused _ (by decide)
theorem Answers.inUse : Answers free s (s.refuse .inUse) := .refused _ (by decide)
theorem Answers.busy : Answers free s (s.refuse .busy) := .refused _ (by decide)
theorem Answers.full : Answers free s (s.refuse .full) := .refused _ (by decide)

/-- A message that only reports. -/
theorem Answers.report (data : List Field) : Answers free s (s.reply .done data) := .done (.refl s) data

/-- A message is not in execution, or it ends as its act does. -/
theorem Answers.of_runMessage {m : Message} {act : List Byte → State → State} (h : runMessage m act s = .next t)
    (each : ∀ p, Answers free s (act p s)) : Answers free s t := by
  rcases runMessage_cases m act s with silent | ⟨p, -, acted⟩
  · obtain rfl := Host.Outcome.next.inj (silent.symm.trans h)
    exact .goesOn (.refl s)
  · obtain rfl := Host.Outcome.next.inj (acted.symm.trans h)
    exact each p

/-- However a message ends, it keeps what its carrying out keeps, but for the replies. -/
theorem Answers.keeps (h : Answers free s t) : s.Keeps (fun x => free x ∨ x = .replies) t := by
  cases h with
  | refused st answers => exact s.keeps_reply answers (.inl (.inr rfl)) []
  | carriedOut kept st data good =>
    have answers : st ≠ .queueFull := by rcases good with rfl | rfl <;> decide
    exact (kept.mono fun _ => .inl).trans (State.keeps_reply _ answers (.inl (.inr rfl)) data)
  | goesOn kept => exact kept.mono fun _ => .inl

end Calculus

/-! ## Messages of one index or none -/

section Payloads

variable {free : Aspect → Prop} (p : List Byte) (s : State)

theorem answers_noPayload {t : State} (h : Answers free s t) : Answers free s (noPayload p s t) :=
  .ite (fun _ => .badForm) (fun _ => h)

theorem answers_withSensor {f : Fin 6 → State} (h : ∀ i, Answers free s (f i)) : Answers free s (withSensor p s f) := by
  refine .ite (fun _ => .badForm) fun _ => ?_
  split
  · exact .badValue
  · exact h _

theorem answers_withSet {f : Fin 4 → State} (h : ∀ n, Answers free s (f n)) : Answers free s (withSet p s f) := by
  refine .ite (fun _ => .badForm) fun _ => ?_
  split
  · exact .badValue
  · exact h _

theorem answers_withIndices {f : Fin 6 → List Nat → State} (h : ∀ i l, Answers free s (f i l)) :
    Answers free s (withIndices p s f) := by
  refine .ite (fun _ => .badForm) fun _ => ?_
  split
  · exact .badValue
  · exact .ite (fun _ => .badValue) (fun _ => h _ _)

/-! ## Intake -/

theorem answers_configAct : Answers (setBy .snsConfig) s (configAct p s) := by
  refine .ite (fun _ => .badForm) fun _ => ?_
  split
  · rename_i i c _ _
    exact .ite (fun _ => .wrongState) fun _ => .ite (fun _ => .inUse) fun _ => .ite (fun _ => .busy) fun _ =>
      .doneOr (s.keeps_updSensor i (config := fun h => by exact absurd rfl h) (exclusion := fun h => by exact absurd (.inl rfl) h)
        (pages := fun h => by exact absurd (.inl rfl) h)) _ _
  · exact .badValue

theorem State.keeps_enableSensor (i : Fin 6) : s.Keeps free (s.enableSensor i) :=
  (s.keeps_updSensor i).trans (State.keeps_setMode _ i _)

theorem State.keeps_disableSensor (i : Fin 6) : s.Keeps free (s.disableSensor i) := by
  have left : s.Keeps free (if s.isActive i then (s.setMode i .disabled).settleLeft i true else s.setMode i .disabled) :=
    .ite (fun _ => (s.keeps_setMode i .disabled).trans (State.keeps_settleLeft _ _ _)) (fun _ => s.keeps_setMode i .disabled)
  exact ((left.trans (State.keeps_updSensor _ i)).trans (State.keeps_invalidate _ i)).trans (State.keeps_reportInband _)

theorem answers_refWriteAct : Answers (setBy .refWrite) s (refWriteAct p s) := by
  refine .ite (fun _ => .badForm) fun _ => ?_
  split
  · exact .badValue
  · rename_i i _
    exact .ite (fun _ => .badValue) fun _ => .ite (fun _ => .busy) fun _ =>
      .doneOr (s.keeps_updSensor i (pages := fun h => by exact absurd (.inr rfl) h)) _ _

theorem answers_refReadAct : Answers free s (refReadAct p s) := by
  refine .ite (fun _ => .badForm) fun _ => ?_
  split
  · exact .badValue
  · split
    · exact .badValue
    · exact .ite (fun _ => .badValue) fun _ => .report _

/-! ## Sets -/

theorem answers_setBeginAct : Answers free s (setBeginAct p s) := by
  refine .ite (fun _ => .badForm) fun _ => ?_
  split
  · exact .ite (fun _ => .badValue) fun _ => .ite (fun _ => .notReady) fun _ => .ite (fun _ => .inUse) fun _ =>
      .doneOr (s.keeps_updSet _ _) _ _
  · exact .badValue

theorem answers_setLoadAct : Answers free s (setLoadAct p s) := by
  refine .ite (fun _ => .badForm) fun _ => ?_
  split
  · refine .ite (fun _ => .wrongState) fun _ => ?_
    split
    · exact .badValue
    · exact .ite (fun _ => .badForm) fun _ => .ite (fun _ => .badValue) fun _ =>
        .goesOn (((s.keeps_setProgress _).trans (State.keeps_request _ _)).trans (State.keeps_grant _))
  · exact .badValue

/-! ## Law unit, drive links, calibration, monitor -/

theorem answers_actWriteAct : Answers free s (actWriteAct p s) := by
  refine .ite (fun _ => .badForm) fun _ => .ite (fun _ => .badValue) fun _ => ?_
  split
  · exact .badValue
  · exact .ite (fun _ => .goesOn ((State.Keeps.of_same (s := s)).trans (State.keeps_setProgress _ _)))
      (fun _ => .done (s.keeps_applyEdit _ _) _)

theorem answers_nbrAddAct : Answers (setBy .nbrAdd) s (nbrAddAct p s) :=
  .ite (fun _ => .badForm) fun _ => .ite (fun _ => .wrongState) fun _ => .ite (fun _ => .badValue) fun _ =>
    .ite (fun _ => .full) fun _ => .done (.of_same (neighbours := fun h => by exact absurd (.inl rfl) h)) _

theorem answers_drvPokeAct : Answers free s (drvPokeAct p s) :=
  .ite (fun _ => .badForm) fun _ => .ite (fun _ => .wrongState) fun _ => .ite (fun _ => .badValue) fun _ =>
    .doneOr ((State.Keeps.of_same (s := s)).trans (State.keeps_commit _)) _ _

theorem State.keeps_closeLoop (opened : s.loop.state = .opened) : s.Keeps free s.closeLoop := by
  have begun : s.Keeps free { s.integratorReset with loop := { s.integratorReset.loop with runCount := 0 } } := .of_same
  have stays (l : LoopState) (opens : l.closedToCycles = false) :
      s.Keeps free (State.setLoop { s.integratorReset with loop := { s.integratorReset.loop with runCount := 0 } } l) := by
    refine begun.trans (State.keeps_setLoop _ l (.inr ?_) (.inr (.inl opens)))
    rw [opens, State.integratorReset_loop, opened]
    rfl
  exact .ite (fun _ => (stays .held rfl).trans (State.keeps_raise _ _)) (fun _ => stays .closed rfl)

theorem State.keeps_storeParams (params : free .params) (q : LoopParams) : s.Keeps free (s.storeParams q) :=
  (State.Keeps.of_same (s := s) (params := fun h => by exact absurd params h)).trans (State.keeps_holdsChanged _ _)

theorem State.keeps_startRun (nS nM : Nat) : s.Keeps free (s.startRun nS nM) :=
  (State.Keeps.of_same (s := s)).trans (State.keeps_phaseCommit _ _)

theorem answers_calReadAct : Answers free s (calReadAct p s) := by
  refine .ite (fun _ => .badForm) fun _ => ?_
  split
  · split
    · exact .badValue
    · exact .ite (fun _ => .badValue) fun _ => .ite (fun _ => .notReady) fun _ =>
        .goesOn (((s.keeps_setProgress _).trans (State.keeps_request _ _)).trans (State.keeps_grant _))
  · exact .badValue

theorem answers_snapArmAct : Answers free s (snapArmAct p s) := by
  refine .ite (fun _ => .badForm) fun _ => ?_
  split
  · exact .badValue
  · exact .ite (fun _ => .badValue) fun _ => .ite (fun _ => .busy) fun _ => .doneOr .of_same _ _

theorem answers_monSelectAct : Answers (setBy .monSelect) s (monSelectAct p s) := by
  refine .ite (fun _ => .badForm) fun _ => ?_
  split
  · split
    · exact .done (.of_same (lines := fun h => by exact absurd rfl h)) _
    · exact .done (.of_same (lines := fun h => by exact absurd rfl h)) _
    · exact .badValue
  · exact .badValue

theorem State.keeps_clearCounters : s.Keeps free s.clearCounters := by
  have same : s.clearCounters.linkFailed = s.linkFailed := by
    unfold State.linkFailed
    simp only [State.driveLink_clearCounters]
    rfl
  refine ⟨id, fun x _ => ?_⟩
  cases x
  case replies => exact ⟨[], by simp [State.clearCounters], by simp⟩
  case failed => exact fun h => same ▸ h
  case config | exclusion | pages => exact fun i => by rw [State.sensor_clearCounters]
  case bound => exact fun k hk => ⟨k, hk, rfl⟩
  case ack | lines => exact ⟨rfl, rfl⟩
  case memory | linked | coded | peaks => exact id
  case notices | drained | restful => exact fun _ => id
  all_goals rfl

/-- A change of the link's masks or notices alone. -/
theorem State.keeps_notices {masks notices : NoticeBits} (mask : free .masks ∨ masks = s.link.masks)
    (notice : free .notices ∨ notices = s.link.notices) :
    s.Keeps free { s with link := { s.link with masks := masks, notices := notices } } where
  banked := id
  aspect x hx := by
    cases x
    case masks => exact mask.resolve_left hx
    case notices =>
      intro n
      simp only [State.isPending, notice.resolve_left hx]
      exact id
    case replies => exact ⟨[], by simp, by simp⟩
    case bound => exact fun k hk => ⟨k, hk, rfl⟩
    case config | exclusion | pages => exact fun _ => rfl
    case ack | lines => exact ⟨rfl, rfl⟩
    case memory | linked | coded | failed | peaks => exact id
    case drained | restful => exact fun _ => id
    all_goals rfl

end Payloads

/-! ## Every message -/

theorem setBy_resting {c : Instr} (h : c ∈ ([.loopOpen, .loopStop, .loopSafe, .loopReset, .devClear] : List Instr)) :
    setBy c .resting := .inl h

section Messages

variable {s t : State}

theorem answers_devIdent (h : exec .devIdent s = .next t) : Answers (setBy .devIdent) s t := by
  replace h : execDevIdent s = .next t := h
  exact .of_runMessage h fun p => .ite (fun _ => .badForm) fun _ => .report _

theorem answers_devGeom (h : exec .devGeom s = .next t) : Answers (setBy .devGeom) s t := by
  replace h : execDevGeom s = .next t := h
  exact .of_runMessage h fun p => .ite (fun _ => .badForm) fun _ => .ite (fun _ => .badValue) fun _ =>
    .ite (fun _ => .wrongState) fun _ => .ite (fun _ => .inUse) fun _ => .ite (fun _ => .busy) fun _ =>
      .done (s.keeps_setGeometry _ (by exact rfl) (by exact .inr (.inr rfl)) (by exact .inr rfl) (by exact .inl rfl)) _

theorem answers_devClear (h : exec .devClear s = .next t) : Answers (setBy .devClear) s t := by
  replace h : execDevClear s = .next t := h
  exact .of_runMessage h fun p => .ite (fun _ => .badForm) fun _ =>
    .done (s.keeps_devClear (setBy_resting (by decide)) (by exact .inr rfl) (by exact .inr rfl)
      (by exact rfl)) _

theorem answers_snsConfig (h : exec .snsConfig s = .next t) : Answers (setBy .snsConfig) s t := by
  replace h : execSnsConfig s = .next t := h
  exact .of_runMessage h fun p => answers_configAct p s

theorem answers_snsEnable (h : exec .snsEnable s = .next t) : Answers (setBy .snsEnable) s t := by
  replace h : execSnsEnable s = .next t := h
  exact .of_runMessage h fun p => answers_withSensor p s fun i => .ite (fun _ => .wrongState) fun _ =>
    .ite (fun _ => .notReady) fun _ => .done (s.keeps_enableSensor i) _

theorem answers_snsDisable (h : exec .snsDisable s = .next t) : Answers (setBy .snsDisable) s t := by
  replace h : execSnsDisable s = .next t := h
  exact .of_runMessage h fun p => answers_withSensor p s fun i => .ite (fun _ => .report _) fun _ =>
    .done ((s.keeps_disableSensor i).trans (State.keeps_settle _ (by exact trivial) _)) _

theorem answers_snsStatus (h : exec .snsStatus s = .next t) : Answers (setBy .snsStatus) s t := by
  replace h : execSnsStatus s = .next t := h
  exact .of_runMessage h fun p => answers_withSensor p s fun i => .report _

theorem answers_snsExclAdd (h : exec .snsExclAdd s = .next t) : Answers (setBy .snsExclAdd) s t := by
  replace h : execSnsExclAdd s = .next t := h
  exact .of_runMessage h fun p => answers_withIndices p s fun i l => .ite (fun _ => .full) fun _ =>
    .done (s.keeps_updSensor i (exclusion := fun h => by exact absurd (.inr (.inl rfl)) h)) _

theorem answers_snsExclDel (h : exec .snsExclDel s = .next t) : Answers (setBy .snsExclDel) s t := by
  replace h : execSnsExclDel s = .next t := h
  exact .of_runMessage h fun p => answers_withIndices p s fun i l =>
    .done (s.keeps_updSensor i (exclusion := fun h => by exact absurd (.inr (.inr rfl)) h)) _

theorem answers_snsExclList (h : exec .snsExclList s = .next t) : Answers (setBy .snsExclList) s t := by
  replace h : execSnsExclList s = .next t := h
  exact .of_runMessage h fun p => answers_withSensor p s fun i => .report _

theorem answers_refWrite (h : exec .refWrite s = .next t) : Answers (setBy .refWrite) s t := by
  replace h : execRefWrite s = .next t := h
  exact .of_runMessage h fun p => answers_refWriteAct p s

theorem answers_refCommit (h : exec .refCommit s = .next t) : Answers (setBy .refCommit) s t := by
  replace h : execRefCommit s = .next t := h
  exact .of_runMessage h fun p => answers_withSensor p s fun i => .ite (fun _ => .notReady) fun _ =>
    .ite (fun _ => .done (s.keeps_updSensor i) _) fun _ => .done (s.keeps_updSensor i) _

theorem answers_refRead (h : exec .refRead s = .next t) : Answers (setBy .refRead) s t := by
  replace h : execRefRead s = .next t := h
  exact .of_runMessage h fun p => answers_refReadAct p s

theorem answers_cycParam (h : exec .cycParam s = .next t) : Answers (setBy .cycParam) s t := by
  replace h : execCycParam s = .next t := h
  exact .of_runMessage h fun p => .ite (fun _ => .badForm) fun _ => .doneOr (.of_same (tDl := fun h => by exact absurd rfl h)) _ _

theorem answers_cycStatus (h : exec .cycStatus s = .next t) : Answers (setBy .cycStatus) s t := by
  replace h : execCycStatus s = .next t := h
  exact .of_runMessage h fun p => .ite (fun _ => .badForm) fun _ =>
    .done (.of_same (freeCount := fun h => by exact absurd (.inl rfl) h)) _

theorem answers_setBegin (h : exec .setBegin s = .next t) : Answers (setBy .setBegin) s t := by
  replace h : execSetBegin s = .next t := h
  exact .of_runMessage h fun p => answers_setBeginAct p s

theorem answers_setLoad (h : exec .setLoad s = .next t) : Answers (setBy .setLoad) s t := by
  replace h : execSetLoad s = .next t := h
  exact .of_runMessage h fun p => answers_setLoadAct p s

theorem answers_setErase (h : exec .setErase s = .next t) : Answers (setBy .setErase) s t := by
  replace h : execSetErase s = .next t := h
  exact .of_runMessage h fun p => answers_withSet p s fun n => .ite (fun _ => .report _) fun _ => .ite (fun _ => .inUse) fun _ =>
    .done (s.keeps_updSet _ _) _

theorem answers_setStatus (h : exec .setStatus s = .next t) : Answers (setBy .setStatus) s t := by
  replace h : execSetStatus s = .next t := h
  exact .of_runMessage h fun p => answers_withSet p s fun n => .report _

theorem answers_setSelect (h : exec .setSelect s = .next t) : Answers (setBy .setSelect) s t := by
  replace h : execSetSelect s = .next t := h
  refine .of_runMessage h fun p => .ite (fun _ => .badForm) fun _ => ?_
  split
  · exact .badValue
  · exact .ite (fun _ => .done (.of_same (selection := fun h => by exact absurd (.inl rfl) h)) _) fun _ => .notReady

theorem answers_degWrite (h : exec .degWrite s = .next t) : Answers (setBy .degWrite) s t := by
  replace h : execDegWrite s = .next t := h
  have written (table : Vector SetId 64) : s.Keeps (setBy .degWrite) { s with cyc := { s.cyc with degTable := table } } :=
    .of_same (degTable := fun h => by exact absurd rfl h)
  refine .of_runMessage h fun p => .ite (fun _ => .badForm) fun _ => .ite (fun _ => .badValue) fun _ => ?_
  split
  · exact .badValue
  · exact .done (written _) _

theorem answers_degRead (h : exec .degRead s = .next t) : Answers (setBy .degRead) s t := by
  replace h : execDegRead s = .next t := h
  exact .of_runMessage h fun p => .ite (fun _ => .badForm) fun _ => .ite (fun _ => .badValue) fun _ => .report _

theorem answers_loopParam (h : exec .loopParam s = .next t) : Answers (setBy .loopParam) s t := by
  replace h : execLoopParam s = .next t := h
  refine .of_runMessage h fun p => .ite (fun _ => .badForm) fun _ => ?_
  split
  · exact .badValue
  · exact .doneOr ((s.keeps_storeParams (by exact rfl) _).trans (State.keeps_settle _ (by exact trivial) _)) _ _

theorem answers_actWrite (h : exec .actWrite s = .next t) : Answers (setBy .actWrite) s t := by
  replace h : execActWrite s = .next t := h
  exact .of_runMessage h fun p => answers_actWriteAct p s

theorem answers_actRead (h : exec .actRead s = .next t) : Answers (setBy .actRead) s t := by
  replace h : execActRead s = .next t := h
  exact .of_runMessage h fun p => .ite (fun _ => .badForm) fun _ => .ite (fun _ => .badValue) fun _ =>
    .ite (fun _ => .badForm) fun _ => .report _

theorem answers_nbrAdd (h : exec .nbrAdd s = .next t) : Answers (setBy .nbrAdd) s t := by
  replace h : execNbrAdd s = .next t := h
  exact .of_runMessage h fun p => answers_nbrAddAct p s

theorem answers_nbrClear (h : exec .nbrClear s = .next t) : Answers (setBy .nbrClear) s t := by
  replace h : execNbrClear s = .next t := h
  exact .of_runMessage h fun p => .ite (fun _ => .badForm) fun _ => .ite (fun _ => .wrongState) fun _ =>
    .done (.of_same (neighbours := fun h => by exact absurd (.inr (.inl rfl)) h)) _

theorem answers_nbrRead (h : exec .nbrRead s = .next t) : Answers (setBy .nbrRead) s t := by
  replace h : execNbrRead s = .next t := h
  exact .of_runMessage h fun p => .ite (fun _ => .badForm) fun _ => .ite (fun _ => .wrongState) fun _ =>
    .ite (fun _ => .badValue) fun _ => .ite (fun _ => .badForm) fun _ => .report _

theorem answers_loopOpen (h : exec .loopOpen s = .next t) : Answers (setBy .loopOpen) s t := by
  replace h : execLoopOpen s = .next t := h
  exact .of_runMessage h fun p => answers_noPayload p s (.ite (fun _ => .wrongState) fun _ => .ite (fun _ => .notReady) fun _ =>
    .done ((s.keeps_setLoop .opened (.inl (setBy_resting (by decide))) (.inr (.inl rfl))).trans (State.keeps_restCommit _)) _)

theorem answers_loopClose (h : exec .loopClose s = .next t) : Answers (setBy .loopClose) s t := by
  replace h : execLoopClose s = .next t := h
  refine .of_runMessage h fun p => answers_noPayload p s (.ite (fun _ => .wrongState) fun opened => .ite (fun _ => .busy) fun _ =>
    .ite (fun _ => .notReady) fun _ => .done (s.keeps_closeLoop (by simpa using opened)) _)

theorem answers_loopHold (h : exec .loopHold s = .next t) : Answers (setBy .loopHold) s t := by
  replace h : execLoopHold s = .next t := h
  exact .of_runMessage h fun p => answers_noPayload p s (.done (((State.Keeps.of_same (s := s)).trans
    (State.keeps_holdsChanged _ _)).trans (State.keeps_settle _ (by exact trivial) _)) _)

theorem answers_loopRelease (h : exec .loopRelease s = .next t) : Answers (setBy .loopRelease) s t := by
  replace h : execLoopRelease s = .next t := h
  exact .of_runMessage h fun p => answers_noPayload p s (.done ((State.Keeps.of_same (s := s)).trans
    (State.keeps_holdsChanged _ _)) _)

theorem answers_loopStop (h : exec .loopStop s = .next t) : Answers (setBy .loopStop) s t := by
  replace h : execLoopStop s = .next t := h
  refine .of_runMessage h fun p => answers_noPayload p s ?_
  split
  · exact .wrongState
  · exact .done s.keeps_restCommit _
  · exact .done (s.keeps_enterRest (by exact trivial) (setBy_resting (by decide)) _ _) _

theorem answers_loopSafe (h : exec .loopSafe s = .next t) : Answers (setBy .loopSafe) s t := by
  replace h : execLoopSafe s = .next t := h
  exact .of_runMessage h fun p => answers_noPayload p s (.ite (fun _ => .report _) fun _ =>
    .done (s.keeps_enterRest (by exact trivial) (setBy_resting (by decide)) _ _) _)

theorem answers_loopReset (h : exec .loopReset s = .next t) : Answers (setBy .loopReset) s t := by
  replace h : execLoopReset s = .next t := h
  exact .of_runMessage h fun p => answers_noPayload p s (.ite (fun _ => .wrongState) fun _ =>
    .done (s.keeps_enterRest (by exact trivial) (setBy_resting (by decide)) _ _) _)

theorem answers_loopStatus (h : exec .loopStatus s = .next t) : Answers (setBy .loopStatus) s t := by
  replace h : execLoopStatus s = .next t := h
  exact .of_runMessage h fun p => answers_noPayload p s (.report _)

theorem answers_drvParam (h : exec .drvParam s = .next t) : Answers (setBy .drvParam) s t := by
  replace h : execDrvParam s = .next t := h
  exact .of_runMessage h fun p => .ite (fun _ => .badForm) fun _ => .doneOr (.of_same (ack := fun h => by exact absurd rfl h)) _ _

theorem answers_drvPoke (h : exec .drvPoke s = .next t) : Answers (setBy .drvPoke) s t := by
  replace h : execDrvPoke s = .next t := h
  exact .of_runMessage h fun p => answers_drvPokeAct p s

theorem answers_drvRestart (h : exec .drvRestart s = .next t) : Answers (setBy .drvRestart) s t := by
  replace h : execDrvRestart s = .next t := h
  refine .of_runMessage h fun p => .ite (fun _ => .badForm) fun _ => ?_
  split
  · exact .badValue
  · exact .ite (fun _ => .wrongState) fun _ =>
      .done ((s.keeps_updLink _ (f := fun l => { l with failCount := 0 }) (.inr id)).trans (State.keeps_sendOn _ _)) _

theorem answers_drvStatus (h : exec .drvStatus s = .next t) : Answers (setBy .drvStatus) s t := by
  replace h : execDrvStatus s = .next t := h
  exact .of_runMessage h fun p => .ite (fun _ => .badForm) fun _ =>
    .done (.of_same (freeCount := fun h => by exact absurd (.inr rfl) h)) _

theorem answers_calLoad (h : exec .calLoad s = .next t) : Answers (setBy .calLoad) s t := by
  replace h : execCalLoad s = .next t := h
  exact .of_runMessage h fun p => .ite (fun _ => .badForm) fun _ => .ite (fun _ => .busy) fun _ => .ite (fun _ => .badValue) fun _ =>
    .doneOr (.of_same (pokeList := fun h => by exact absurd (.inl rfl) h)) _ _

theorem answers_calStart (h : exec .calStart s = .next t) : Answers (setBy .calStart) s t := by
  replace h : execCalStart s = .next t := h
  exact .of_runMessage h fun p => .ite (fun _ => .badForm) fun _ => .ite (fun _ => .wrongState) fun _ => .ite (fun _ => .busy) fun _ =>
    .ite (fun _ => .notReady) fun _ => .doneOr (s.keeps_startRun _ _) _ _

theorem answers_calStop (h : exec .calStop s = .next t) : Answers (setBy .calStop) s t := by
  replace h : execCalStop s = .next t := h
  exact .of_runMessage h fun p => .ite (fun _ => .badForm) fun _ => .ite (fun _ => .wrongState) fun _ => .done (s.keeps_endRun _) _

theorem answers_calStatus (h : exec .calStatus s = .next t) : Answers (setBy .calStatus) s t := by
  replace h : execCalStatus s = .next t := h
  exact .of_runMessage h fun p => .ite (fun _ => .badForm) fun _ => .report _

theorem answers_calRead (h : exec .calRead s = .next t) : Answers (setBy .calRead) s t := by
  replace h : execCalRead s = .next t := h
  exact .of_runMessage h fun p => answers_calReadAct p s

theorem answers_statRead (h : exec .statRead s = .next t) : Answers (setBy .statRead) s t := by
  replace h : execStatRead s = .next t := h
  exact .of_runMessage h fun p => .ite (fun _ => .badForm) fun _ => .report _

theorem answers_statClear (h : exec .statClear s = .next t) : Answers (setBy .statClear) s t := by
  replace h : execStatClear s = .next t := h
  exact .of_runMessage h fun p => .ite (fun _ => .badForm) fun _ => .done s.keeps_clearCounters _

theorem answers_peakArm (h : exec .peakArm s = .next t) : Answers (setBy .peakArm) s t := by
  replace h : execPeakArm s = .next t := h
  exact .of_runMessage h fun p => .ite (fun _ => .badForm) fun _ => .done (.of_same (peaks := fun _ _ => .inl rfl)) _

theorem answers_peakRead (h : exec .peakRead s = .next t) : Answers (setBy .peakRead) s t := by
  replace h : execPeakRead s = .next t := h
  exact .of_runMessage h fun p => .ite (fun _ => .badForm) fun _ => .report _

theorem answers_snapArm (h : exec .snapArm s = .next t) : Answers (setBy .snapArm) s t := by
  replace h : execSnapArm s = .next t := h
  exact .of_runMessage h fun p => answers_snapArmAct p s

theorem answers_snapStatus (h : exec .snapStatus s = .next t) : Answers (setBy .snapStatus) s t := by
  replace h : execSnapStatus s = .next t := h
  exact .of_runMessage h fun p => .ite (fun _ => .badForm) fun _ => .report _

theorem answers_snapRead (h : exec .snapRead s = .next t) : Answers (setBy .snapRead) s t := by
  replace h : execSnapRead s = .next t := h
  exact .of_runMessage h fun p => .ite (fun _ => .badForm) fun _ => .ite (fun _ => .wrongState) fun _ =>
    .ite (fun _ => .badValue) fun _ => .report _

theorem answers_monSelect (h : exec .monSelect s = .next t) : Answers (setBy .monSelect) s t := by
  replace h : execMonSelect s = .next t := h
  exact .of_runMessage h fun p => answers_monSelectAct p s

theorem answers_ntcMask (h : exec .ntcMask s = .next t) : Answers (setBy .ntcMask) s t := by
  replace h : execNtcMask s = .next t := h
  exact .of_runMessage h fun p => .ite (fun _ => .badForm) fun _ => .ite (fun _ => .badValue) fun _ =>
    .done (s.keeps_notices (by exact .inl rfl) (.inr rfl)) _

theorem answers_ntcPoll (h : exec .ntcPoll s = .next t) : Answers (setBy .ntcPoll) s t := by
  replace h : execNtcPoll s = .next t := h
  exact .of_runMessage h fun p => .ite (fun _ => .badForm) fun _ => .done (s.keeps_notices (.inr rfl) (by exact .inl (.inl rfl))) _

end Messages

/-- A message keeps every aspect that it does not set, and refuses, answers DONE or CLAMPED, or goes on. -/
theorem message_answers {c : Instr} {m : Message} {s t : State} (message : messageOf c = some m) (h : exec c s = .next t) :
    Answers (setBy c) s t := by
  cases c
  case devIdent => exact answers_devIdent h
  case devGeom => exact answers_devGeom h
  case devClear => exact answers_devClear h
  case snsConfig => exact answers_snsConfig h
  case snsEnable => exact answers_snsEnable h
  case snsDisable => exact answers_snsDisable h
  case snsStatus => exact answers_snsStatus h
  case snsExclAdd => exact answers_snsExclAdd h
  case snsExclDel => exact answers_snsExclDel h
  case snsExclList => exact answers_snsExclList h
  case refWrite => exact answers_refWrite h
  case refCommit => exact answers_refCommit h
  case refRead => exact answers_refRead h
  case cycParam => exact answers_cycParam h
  case cycStatus => exact answers_cycStatus h
  case setBegin => exact answers_setBegin h
  case setLoad => exact answers_setLoad h
  case setErase => exact answers_setErase h
  case setStatus => exact answers_setStatus h
  case setSelect => exact answers_setSelect h
  case degWrite => exact answers_degWrite h
  case degRead => exact answers_degRead h
  case loopParam => exact answers_loopParam h
  case actWrite => exact answers_actWrite h
  case actRead => exact answers_actRead h
  case nbrAdd => exact answers_nbrAdd h
  case nbrClear => exact answers_nbrClear h
  case nbrRead => exact answers_nbrRead h
  case loopOpen => exact answers_loopOpen h
  case loopClose => exact answers_loopClose h
  case loopHold => exact answers_loopHold h
  case loopRelease => exact answers_loopRelease h
  case loopStop => exact answers_loopStop h
  case loopSafe => exact answers_loopSafe h
  case loopReset => exact answers_loopReset h
  case loopStatus => exact answers_loopStatus h
  case drvParam => exact answers_drvParam h
  case drvPoke => exact answers_drvPoke h
  case drvRestart => exact answers_drvRestart h
  case drvStatus => exact answers_drvStatus h
  case calLoad => exact answers_calLoad h
  case calStart => exact answers_calStart h
  case calStop => exact answers_calStop h
  case calStatus => exact answers_calStatus h
  case calRead => exact answers_calRead h
  case statRead => exact answers_statRead h
  case statClear => exact answers_statClear h
  case peakArm => exact answers_peakArm h
  case peakRead => exact answers_peakRead h
  case snapArm => exact answers_snapArm h
  case snapStatus => exact answers_snapStatus h
  case snapRead => exact answers_snapRead h
  case monSelect => exact answers_monSelect h
  case ntcMask => exact answers_ntcMask h
  case ntcPoll => exact answers_ntcPoll h
  all_goals simp [messageOf] at message

/-- A command that is no power-on reset keeps every aspect that it does not set, but for the replies held. -/
theorem exec_keeps {c : Instr} {s t : State} (not_reset : c ≠ .powerOnReset) (h : exec c s = .next t) :
    s.Keeps (fun x => setBy c x ∨ x = .replies) t := by
  cases message : messageOf c with
  | none => exact event_keeps message not_reset h
  | some m => exact (message_answers message h).keeps

end Sys2Proof.Machine

/-! The statements on every step, read off what each command keeps. -/

namespace Sys2Proof.Machine

-- One theorem at a time: each worker thread reserves memory of its own.
set_option Elab.async false

/-! ## The state after power-on reset -/

theorem exec_powerOnReset {s t : State} (h : exec .powerOnReset s = .next t) :
    t = { State.reset with
      pending := s.pending
      freeCount := s.freeCount
      mem := { Memory.reset with dram := s.mem.dram }
      loop := { LoopSupervisor.reset with holdnLow := s.loop.holdnLow } } :=
  (Host.Outcome.next.inj h).symm

/-! ## Every command answers -/

/-- Every meaning answers a next state: the model has no fault and refuses nothing (log 2). -/
theorem exec_total (c : Instr) (s : State) : ∃ t, exec c s = .next t := by
  have runs (m : Message) (act : List Byte → State → State) : ∃ t, runMessage m act s = .next t := by
    rcases runMessage_cases m act s with silent | ⟨p, -, acted⟩
    · exact ⟨s, silent⟩
    · exact ⟨_, acted⟩
  cases c <;> dsimp only [exec]
  case sensorFrameArrival => unfold execSensorFrameArrival; split_ifs <;> exact ⟨_, rfl⟩
  case deadlineExpiry => unfold execDeadlineExpiry; split <;> (try split_ifs) <;> exact ⟨_, rfl⟩
  case jobRowRead => unfold execJobRowRead; split <;> (try split) <;> (try dsimp only) <;> (try split_ifs) <;> exact ⟨_, rfl⟩
  case jobCompletion => unfold execJobCompletion; split <;> (try split_ifs) <;> exact ⟨_, rfl⟩
  case lawCompletion => unfold execLawCompletion; split <;> exact ⟨_, rfl⟩
  case acknowledgement => unfold execAcknowledgement; split_ifs <;> exact ⟨_, rfl⟩
  case ackTimerExpiry => unfold execAckTimerExpiry; split_ifs <;> exact ⟨_, rfl⟩
  case setLoadRowWrite => unfold execSetLoadRowWrite; split <;> (try dsimp only) <;> (try split) <;> exact ⟨_, rfl⟩
  case calResponseWrite => unfold execCalResponseWrite; split <;> exact ⟨_, rfl⟩
  case calReadTransfer => unfold execCalReadTransfer; split <;> exact ⟨_, rfl⟩
  case snapCopyEnd => unfold execSnapCopyEnd; split_ifs <;> exact ⟨_, rfl⟩
  case replySent => unfold execReplySent; split <;> exact ⟨_, rfl⟩
  case shortBreak => unfold execShortBreak; split <;> exact ⟨_, rfl⟩
  case lineLeavesBreak => unfold execLineLeavesBreak; split_ifs <;> exact ⟨_, rfl⟩
  case unknownMessage => unfold execUnknownMessage; split <;> (try split_ifs) <;> exact ⟨_, rfl⟩
  case holdnChange | commandFrameReceived | linkClear | powerOnReset | commandLengthAboveLimit => exact ⟨_, rfl⟩
  all_goals exact runs _ _

/-- The level of HOLDN after HOLDN_CHANGE is the line's (06 R123). -/
theorem holdnLow_holdnChange {s t : State} {low : Bool} (h : exec (.holdnChange low) s = .next t) : t.loop.holdnLow = low := by
  obtain rfl := Host.Outcome.next.inj h
  have evaluated := State.keeps_holdsChanged (free := (· = .bound)) { s with loop := { s.loop with holdnLow := low } } s.holding
  have settled := State.keeps_settle (free := (· = .bound))
    (State.holdsChanged { s with loop := { s.loop with holdnLow := low } } s.holding) rfl .nothing
  exact (evaluated.trans settled).aspect .holdn (by decide)

/-- Settles O2: totality, then the aspects that a command keeps; power-on reset keeps all three by its definition. -/
theorem everyCommandAnswersNext : Obligations.EveryCommandAnswersNext := by
  intro c s
  obtain ⟨t, h⟩ := exec_total c s
  refine ⟨t, h, ?_⟩
  by_cases reset : c = .powerOnReset
  · subst reset
    obtain rfl := exec_powerOnReset h
    exact ⟨rfl, .inl rfl, .inl rfl⟩
  · have kept := exec_keeps reset h
    refine ⟨kept.aspect .pending (by simp [setBy]), ?_, ?_⟩
    · by_cases moves : ∃ low, c = .holdnChange low
      · obtain ⟨low, rfl⟩ := moves
        exact .inr ⟨low, rfl, holdnLow_holdnChange h⟩
      · exact .inl (kept.aspect .holdn (by simpa [setBy] using moves))
    · exact or_iff_not_imp_right.mpr fun draws => kept.aspect .freeCount (by simpa [setBy] using draws)

/-! ## Steps -/

/-- Settles O1: by the definition of a step on either queue. -/
theorem stepRunsFrontCommand : Obligations.StepRunsFrontCommand := by
  refine ⟨fun c rest s => rfl, fun s empty => ?_⟩
  rw [step, empty]

/-- A step idles or carries out a command with the queue's rest. -/
theorem step_cases {s t : State} (h : step s = .next t) :
    t = s ∨ ∃ c rest, s.pending = c :: rest ∧ exec c { s with pending := rest } = .next t := by
  unfold step at h
  split at h
  · exact .inl (Host.Outcome.next.inj h).symm
  · exact .inr ⟨_, _, ‹_›, h⟩

/-- What every command keeps, every step keeps; the waiting commands play no part in it. -/
theorem step_preserves {P : State → Prop} (unqueued : ∀ (s : State) (rest : List Instr), P s → P { s with pending := rest })
    (each : ∀ c s t, P s → exec c s = .next t → P t) {s t : State} (hs : P s) (h : step s = .next t) : P t := by
  rcases step_cases h with rfl | ⟨c, rest, -, executed⟩
  · exact hs
  · exact each c _ t (unqueued s rest hs) executed

/-- Settles O6. -/
theorem memoryStaysCanonical : Obligations.MemoryStaysCanonical := by
  refine fun s t => step_preserves (fun _ _ => id) fun c s t wf h => ?_
  by_cases reset : c = .powerOnReset
  · subst reset
    obtain rfl := exec_powerOnReset h
    exact wf
  · exact (exec_keeps reset h).aspect .memory (by simp [setBy]) wf

/-- Settles O8. -/
theorem committedCodesStayInRange : Obligations.CommittedCodesStayInRange := by
  refine fun s t => step_preserves (fun _ _ => id) fun c s t coded h => ?_
  by_cases reset : c = .powerOnReset
  · subst reset
    obtain rfl := exec_powerOnReset h
    exact ⟨rfl, by simp [State.reset, LawUnit.reset]⟩
  · exact (exec_keeps reset h).aspect .coded (by simp [setBy]) coded

/-- Settles O9. -/
theorem linkHoldsWhatItMay : Obligations.LinkHoldsWhatItMay := by
  refine fun s t => step_preserves (fun _ _ => id) fun c s t linked h => ?_
  by_cases reset : c = .powerOnReset
  · subst reset
    obtain rfl := exec_powerOnReset h
    exact ⟨by simp [State.reset, ControlLink.reset], by simp [State.reset, ControlLink.reset],
      by simp [State.reset, ControlLink.reset], fun _ => rfl⟩
  · exact (exec_keeps reset h).aspect .linked (by simp [setBy]) linked

/-! ## Cycles and links (02 R28, R49, R50; 06 R121) -/

theorem State.banked.length_le_two {s : State} (banked : s.banked) : s.cyc.cycles.length ≤ 2 := by
  have subset : s.cyc.cycles.map (fun k => k.bank) ⊆ [.bankA, .bankB] := fun b _ => by cases b <;> simp
  simpa using (banked.subperm subset).length_le

theorem exec_banked {c : Instr} {s t : State} (banked : s.banked) (h : exec c s = .next t) : t.banked := by
  by_cases reset : c = .powerOnReset
  · subst reset
    obtain rfl := exec_powerOnReset h
    exact List.nodup_nil
  · exact (exec_keeps reset h).banked banked

theorem exec_restful {c : Instr} {s t : State} (banked : s.banked) (restful : s.restful) (h : exec c s = .next t) : t.restful := by
  by_cases reset : c = .powerOnReset
  · subst reset
    obtain rfl := exec_powerOnReset h
    exact fun _ k hk => by simp [State.reset, CycleController.reset] at hk
  · exact (exec_keeps reset h).aspect .restful (by simp [setBy]) banked restful

theorem exec_drained {c : Instr} {s t : State} (banked : s.banked) (drained : s.drained) (h : exec c s = .next t) : t.drained := by
  by_cases reset : c = .powerOnReset
  · subst reset
    obtain rfl := exec_powerOnReset h
    exact fun k hk => by simp [State.reset, CycleController.reset] at hk
  · exact (exec_keeps reset h).aspect .drained (by simp [setBy]) banked drained

section Driven

variable {s t : State}

theorem State.driven_of_resting (rests : s.loop.state.closedToCycles = true) : s.driven := fun _ => rests

theorem State.Keeps.driven {free : Aspect → Prop} (kept : s.Keeps free t) (resting : ¬ free .resting) (failed : ¬ free .failed)
    (driven : s.driven) : t.driven := fun fails =>
  (kept.aspect .resting resting).trans (driven (kept.aspect .failed failed fails))

theorem State.driven_enterRest (s : State) {l : LoopState} (rests : l.closedToCycles = true) (rest : Bool) : (s.enterRest l rest).driven :=
  State.driven_of_resting ((s.closedToCycles_enterRest l rest).trans rests)

/-- A link that fails outside rest takes the loop to SAFE (07 R142). -/
theorem State.driven_failLink (d : Fin 4) (driven : s.driven) : (s.failLink d).driven := by
  unfold State.failLink
  dsimp only
  split
  · unfold State.reportFailure
    dsimp only
    split
    · exact State.driven_of_resting ‹_›
    · exact State.driven_enterRest _ rfl true
  · rename_i up
    refine State.Keeps.driven (free := fun _ => False) (s.keeps_updLink d (.inr fun fails => ?_)) id id driven
    rw [State.driveLink_updLink] at up
    exact absurd fails up

theorem linkAccept_not_failed (tAck : Nat) (d : Fin 4) (codes : List Int) (l : DriveLink) :
    (linkAccept tAck d codes l).state ≠ .failed := by
  unfold linkAccept
  dsimp only
  split <;> simp [sendFrame]

theorem State.driven_takeAck (d : Fin 4) (seq : Byte) (accept : Bool) (driven : s.driven) : (s.takeAck d seq accept).driven := by
  unfold State.takeAck
  split
  · split
    · exact State.Keeps.driven (free := fun _ => False)
        (s.keeps_updLink d (.inr fun fails => absurd fails (linkAccept_not_failed _ _ _ _))) id id driven
    · exact State.driven_failLink d driven
  · exact State.Keeps.driven (free := fun _ => False) (s.keeps_updLink d (.inr id)) id id driven

theorem driven_acknowledgement {d : Fin 4} {b : List Byte} (driven : s.driven) (h : exec (.acknowledgement d b) s = .next t) :
    t.driven := by
  replace h : execAcknowledgement d b s = .next t := h
  unfold execAcknowledgement at h
  split_ifs at h <;> obtain rfl := Host.Outcome.next.inj h
  · exact State.driven_takeAck _ _ _ driven
  · exact driven

theorem driven_ackTimerExpiry {d : Fin 4} (driven : s.driven) (h : exec (.ackTimerExpiry d) s = .next t) : t.driven := by
  replace h : execAckTimerExpiry d s = .next t := h
  unfold execAckTimerExpiry at h
  split_ifs at h <;> obtain rfl := Host.Outcome.next.inj h
  · exact State.driven_failLink _ driven
  · exact driven

/-- What a message's act preserves, the message preserves. -/
theorem runMessage_preserves {P : State → Prop} {m : Message} {act : List Byte → State → State} (h : runMessage m act s = .next t)
    (hs : P s) (each : ∀ p, P (act p s)) : P t := by
  rcases runMessage_cases m act s with silent | ⟨p, -, acted⟩
  · exact Host.Outcome.next.inj (silent.symm.trans h) ▸ hs
  · exact Host.Outcome.next.inj (acted.symm.trans h) ▸ each p

/-- The reply of a message does not touch the links or the loop. -/
theorem State.driven_reply (st : Status) (data : List Field) : (s.reply st data).driven ↔ s.driven := Iff.rfl

/-- LOOP.OPEN looks at the links before the loop leaves rest (06 R118). -/
theorem driven_loopOpen (driven : s.driven) (h : exec .loopOpen s = .next t) : t.driven := by
  replace h : execLoopOpen s = .next t := h
  refine runMessage_preserves h driven fun p => ?_
  unfold noPayload
  split_ifs with form wrong unready
  · exact driven
  · exact driven
  · exact driven
  · have opened : s.Keeps (· = .resting) (s.setLoop .opened).restCommit :=
      (s.keeps_setLoop (free := (· = .resting)) .opened (.inl rfl) (.inr (.inl rfl))).trans (State.keeps_restCommit _)
    exact fun fails => absurd (.inr (opened.aspect .failed (by decide) fails)) unready

theorem driven_loopStop (driven : s.driven) (h : exec .loopStop s = .next t) : t.driven := by
  replace h : execLoopStop s = .next t := h
  refine runMessage_preserves h driven fun p => ?_
  unfold noPayload
  split
  · exact driven
  · split
    · exact driven
    · exact (State.driven_reply _ _).mpr (State.Keeps.driven (free := fun _ => False) s.keeps_restCommit id id driven)
    · exact s.driven_enterRest rfl true

theorem driven_loopSafe (driven : s.driven) (h : exec .loopSafe s = .next t) : t.driven := by
  replace h : execLoopSafe s = .next t := h
  refine runMessage_preserves h driven fun p => ?_
  unfold noPayload
  split_ifs
  · exact driven
  · exact driven
  · exact s.driven_enterRest rfl true

theorem driven_loopReset (driven : s.driven) (h : exec .loopReset s = .next t) : t.driven := by
  replace h : execLoopReset s = .next t := h
  refine runMessage_preserves h driven fun p => ?_
  unfold noPayload
  split_ifs
  · exact driven
  · exact driven
  · exact s.driven_enterRest rfl false

theorem driven_devClear (driven : s.driven) (h : exec .devClear s = .next t) : t.driven := by
  replace h : execDevClear s = .next t := h
  refine runMessage_preserves h driven fun p => ?_
  split
  · exact driven
  · exact State.driven_of_resting s.closedToCycles_devClear

/-- DEV.GEOM acts in IDLE alone (03 R65). -/
theorem driven_devGeom (driven : s.driven) (h : exec .devGeom s = .next t) : t.driven := by
  replace h : execDevGeom s = .next t := h
  refine runMessage_preserves h driven fun p => ?_
  split_ifs with form value running
  iterate 3 exact driven
  · exact driven
  · exact driven
  · have kept := s.keeps_setGeometry (free := (· ≠ .resting)) (rd16 p 0) (by decide) (by decide) (by decide) (by decide)
    refine State.driven_of_resting ((kept.aspect .resting (by simp)).trans ?_)
    rw [not_not.mp running]
    rfl

theorem exec_driven {c : Instr} (driven : s.driven) (h : exec c s = .next t) : t.driven := by
  by_cases reset : c = .powerOnReset
  · subst reset
    obtain rfl := exec_powerOnReset h
    exact fun _ => rfl
  · by_cases moves : setBy c .resting ∨ setBy c .failed
    · rcases moves with (listed | ⟨d, b, rfl⟩ | ⟨d, rfl⟩) | rfl | ⟨d, b, rfl⟩ | ⟨d, rfl⟩
      · simp only [List.mem_cons, List.not_mem_nil, or_false] at listed
        rcases listed with rfl | rfl | rfl | rfl | rfl
        · exact driven_loopOpen driven h
        · exact driven_loopStop driven h
        · exact driven_loopSafe driven h
        · exact driven_loopReset driven h
        · exact driven_devClear driven h
      · exact driven_acknowledgement driven h
      · exact driven_ackTimerExpiry driven h
      · exact driven_devGeom driven h
      · exact driven_acknowledgement driven h
      · exact driven_ackTimerExpiry driven h
    · rw [not_or] at moves
      exact (exec_keeps reset h).driven (by simpa using moves.1) (by simpa using moves.2) driven

end Driven

/-- Settles O7: the four invariants, each kept by every command. -/
theorem cyclesStayInOrder : Obligations.CyclesStayInOrder := by
  refine ⟨fun s t banked h => ?banks, fun s t banked restful h => ?rest, fun s t banked drained h => ?drain,
    fun s t driven h => ?drive⟩
  case banks =>
    have still_banked : t.banked := step_preserves (fun _ _ => id) (fun _ _ _ => exec_banked) banked h
    exact ⟨still_banked, still_banked.length_le_two⟩
  case rest =>
    rcases step_cases h with rfl | ⟨c, rest, -, executed⟩
    · exact restful
    · exact exec_restful (s := { s with pending := rest }) banked restful executed
  case drain =>
    rcases step_cases h with rfl | ⟨c, rest, -, executed⟩
    · exact drained
    · exact exec_drained (s := { s with pending := rest }) banked drained executed
  case drive => exact step_preserves (fun _ _ => id) (fun _ _ _ => exec_driven) driven h

/-! ## What stays until it is changed -/

theorem selection_devClear {s t : State} (h : exec .devClear s = .next t) : t.cyc.selection = s.cyc.selection ∨ t.cyc.selection = .auto := by
  replace h : execDevClear s = .next t := h
  refine runMessage_preserves (P := fun t => t.cyc.selection = s.cyc.selection ∨ t.cyc.selection = .auto) h (.inl rfl) fun p => ?_
  split
  · exact .inl rfl
  · refine .inr ?_
    rw [State.reply_cyc, State.cyc_devClear]
    rfl

/-- Settles O11: each clause is an aspect, with the commands that `setBy` names for it. -/
theorem whatStaysUntilChanged : Obligations.WhatStaysUntilChanged := by
  refine ⟨fun c s t n h pending => ?notices, fun c s t h reset => ?settings⟩
  case notices =>
    by_cases reset : c = .powerOnReset
    · exact .inr (.inr (.inr reset))
    · have kept := or_iff_not_imp_right.mpr fun sets : ¬ setBy c .notices => (exec_keeps reset h).aspect .notices (by simpa using sets) n pending
      exact kept.imp_right fun set => set.elim .inl (.inr ∘ .inl)
  case settings =>
    have kept {x : Aspect} (named : x ≠ .replies) : x.keptFrom s t ∨ setBy c x :=
      or_iff_not_imp_right.mpr fun unset => (exec_keeps reset h).aspect x (by simp [unset, named])
    have each {P : Fin 6 → Prop} {q : Prop} (h : (∀ i, P i) ∨ q) (i : Fin 6) : P i ∨ q := h.imp_left (· i)
    refine ⟨each (kept (x := .config) (by decide)), each (kept (x := .exclusion) (by decide)), each (kept (x := .pages) (by decide)),
      kept (x := .tDl) (by decide), kept (x := .degTable) (by decide), ?_, kept (x := .nAct) (by decide),
      kept (x := .data) (by decide), kept (x := .neighbours) (by decide), kept (x := .params) (by decide),
      kept (x := .ack) (by decide), kept (x := .pokeList) (by decide), kept (x := .lines) (by decide), kept (x := .masks) (by decide)⟩
    rcases kept (x := .selection) (by decide) with same | selected | rfl
    · exact .inl same
    · exact .inr (.inl selected)
    · exact (selection_devClear h).imp_right fun auto => .inr ⟨rfl, auto⟩

/-! ## Refusals -/

/-- Settles O5: a refusal is the first way a message ends; the other two add replies of DONE and CLAMPED alone. -/
theorem refusalChangesNothing : Obligations.RefusalChangesNothing := by
  intro c m s t r message h appended not_done not_clamped
  have only_good {u : State} (replies : ∃ rs, u.link.transmitter = s.link.transmitter ++ rs ∧ ∀ r ∈ rs, r.status = .done ∨ r.status = .clamped)
      (same : u.link.transmitter = s.link.transmitter ++ [r]) : False := by
    obtain ⟨rs, eq, good⟩ := replies
    obtain rfl := List.append_cancel_left (eq.symm.trans same)
    exact (good r (by simp)).elim not_done not_clamped
  cases message_answers message h with
  | refused st answers =>
    obtain ⟨rs, eq, status⟩ := s.link.transmitter_reply st []
    obtain rfl := List.append_cancel_left (eq.symm.trans appended)
    have data : r.data = [] := by
      have formed := appended
      simp only [State.refuse, State.reply, ControlLink.reply] at formed
      split at formed
      · simp at formed
      · split at formed
        · rw [(ControlLink.beginNext_frame _).1] at formed
          simp at formed
        · simp at formed
          rw [← formed]
    rw [status r (by simp), data]
    rfl
  | @carriedOut u kept st data good =>
    refine (only_good ?_ appended).elim
    have replied := State.keeps_reply (free := setBy c) u (by rcases good with rfl | rfl <;> decide) (.inr good) data
    exact (kept.trans replied).aspect .replies (by simp [setBy])
  | goesOn kept => exact (only_good (kept.aspect .replies (by simp [setBy])) appended).elim

end Sys2Proof.Machine

/-! Requests that are not taken, the payload fields as they read back, the power-on state and the sensor frame's round trip. -/

namespace Sys2Proof.Machine

-- One theorem at a time: each worker thread reserves memory of its own.
set_option Elab.async false

/-! ## Messages that are not in execution -/

/-- Settles O3: a message row runs its message, which does nothing unless it is in execution; every event has its cause as the
first branch of its meaning. -/
theorem nothingWithoutItsCause : Obligations.NothingWithoutItsCause := by
  refine ⟨fun c m s message silent => ?message, fun s idle => ?unknown, fun s us none_flies => ?flight, fun s no_law => ?law,
    fun s us no_transfer => ?transfer, fun s b vacant => ?deadline, fun s d at_rest => ?timer, fun s not_filling => ?copy,
    fun s no_reply => ?sent, fun s no_break => ?leaves⟩
  case message =>
    have runs {m' : Message} (same : some m' = some m) (act : List Byte → State → State) : runMessage m' act s = .next s :=
      runMessage_of_silent (Option.some.inj same ▸ silent) act
    cases c <;> dsimp only [exec] <;> first | exact runs message _ | cases message
  case unknown =>
    change execUnknownMessage s = _
    simp [execUnknownMessage, idle]
  case flight =>
    constructor
    · change execJobRowRead us s = _
      simp [execJobRowRead, none_flies]
    · change execJobCompletion s = _
      simp [execJobCompletion, none_flies]
  case law =>
    change execLawCompletion s = _
    simp [execLawCompletion, no_law]
  case transfer =>
    refine ⟨?_, ?_, ?_, ?_⟩
    · change execSetLoadRowWrite s = _
      simp [execSetLoadRowWrite, no_transfer]
    · change execCalResponseWrite s = _
      simp [execCalResponseWrite, no_transfer]
    · change execCalReadTransfer us s = _
      simp [execCalReadTransfer, no_transfer]
    · change execJobRowRead us s = _
      simp [execJobRowRead, no_transfer]
  case deadline =>
    change execDeadlineExpiry b s = _
    simp [execDeadlineExpiry, vacant]
  case timer =>
    change execAckTimerExpiry d s = _
    simp [execAckTimerExpiry, at_rest]
  case copy =>
    change execSnapCopyEnd s = _
    simp [execSnapCopyEnd, not_filling]
  case sent =>
    change execReplySent s = _
    simp [execReplySent, no_reply]
  case leaves =>
    change execLineLeavesBreak s = _
    simp [execLineLeavesBreak, no_break]

/-! ## Ill-formed requests -/

/-- What the act of a message in execution refuses, the message refuses. -/
theorem runMessage_refuses {m : Message} {act : List Byte → State → State} {p : List Byte} {s : State} {st : Status}
    (heard : s.hears m p = true) (refuses : act p s = s.refuse st) : runMessage m act s = .next (s.refuse st) := by
  rw [runMessage_of_hears heard, refuses]

section OutOfBounds

variable {n : Nat} (s : State)

@[simp] theorem rd16_u16s_singleton (n : Nat) : rd16 (u16s [n]) 0 = n % 65536 := by simp

theorem withSensor_of_le {f : Fin 6 → State} (above : 6 ≤ n) (fits : n < 65536) : withSensor (u16s [n]) s f = s.refuse .badValue := by
  have named : toSensor n = none := dif_neg (by omega)
  simp [withSensor, Nat.mod_eq_of_lt fits, named]

theorem withSet_of_le {f : Fin 4 → State} (above : 4 ≤ n) (fits : n < 65536) : withSet (u16s [n]) s f = s.refuse .badValue := by
  have named : toSet n = none := dif_neg (by omega)
  simp [withSet, Nat.mod_eq_of_lt fits, named]

theorem withSensor_eq (i : Fin 6) (f : Fin 6 → State) : withSensor (u16s [i.val]) s f = f i := by
  have small : i.val % 65536 = i.val := Nat.mod_eq_of_lt (by omega)
  simp [withSensor, small, toSensor]

theorem withSet_eq (i : Fin 4) (f : Fin 4 → State) : withSet (u16s [i.val]) s f = f i := by
  have small : i.val % 65536 = i.val := Nat.mod_eq_of_lt (by omega)
  simp [withSet, small, toSet]

end OutOfBounds

section SnsConfigPayload

/-- The fields of SNS.CONFIG as they read back (01 R23). -/
theorem configPayload_reads (i n policy k a r h fx : Nat) :
    let p := u16s [i, n, policy] ++ u32s [k, a, r, h] ++ u16s [fx]
    p.length = 24 ∧ rd16 p 0 = i % 65536 ∧ rd16 p 2 = n % 65536 ∧ rd16 p 4 = policy % 65536 ∧ rd32 p 6 = k % 4294967296
      ∧ rd32 p 10 = a % 4294967296 ∧ rd32 p 14 = r % 4294967296 ∧ rd32 p 18 = h % 4294967296 ∧ rd16 p 22 = fx % 65536 := by
  simp

theorem toPolicy_eq_none {n : Nat} (h : 2 ≤ n) : toPolicy n = none := by
  match n, h with
  | n + 2, _ => rfl

theorem toFx_eq_none {n : Nat} (h : 4 ≤ n) : toFx n = none := by
  match n, h with
  | n + 4, _ => rfl

theorem configAct_of_bad_choice {p : List Byte} (s : State) (length : p.length = 24)
    (bad : 6 ≤ rd16 p 0 ∨ 1024 < rd16 p 2 ∨ 2 ≤ rd16 p 4 ∨ 4 ≤ rd16 p 22) : configAct p s = s.refuse .badValue := by
  rw [configAct, if_neg (not_not.mpr length)]
  split
  · rename_i i c sensor config
    exfalso
    rcases bad with index | count | policy | fx
    · rw [toSensor, dif_neg (by omega)] at sensor
      cases sensor
    · unfold rdConfig at config
      split at config
      · rw [if_neg (by omega)] at config
        cases config
      · cases config
    · simp [rdConfig, toPolicy_eq_none policy] at config
    · simp [rdConfig, toFx_eq_none fx] at config
  · rfl

end SnsConfigPayload

section LoopParamPayload

/-- The fields of LOOP.PARAM as they read back (06 R131). -/
theorem loopPayload_reads (g l source d timing exclusivity gate r n : Nat) :
    let p := u32s [g, l] ++ u16s [source] ++ u32s [d] ++ u16s [timing, exclusivity, gate] ++ u32s [r, n]
    p.length = 28 ∧ rd32 p 0 = g % 4294967296 ∧ rd32 p 4 = l % 4294967296 ∧ rd16 p 8 = source % 65536
      ∧ rd32 p 10 = d % 4294967296 ∧ rd16 p 14 = timing % 65536 ∧ rd16 p 16 = exclusivity % 65536 ∧ rd16 p 18 = gate % 65536
      ∧ rd32 p 20 = r % 4294967296 ∧ rd32 p 24 = n % 4294967296 := by
  simp

theorem toGainSource_eq_none {n : Nat} (h : 2 ≤ n) : toGainSource n = none := by
  match n, h with
  | n + 2, _ => rfl

theorem toTiming_eq_none {n : Nat} (h : 2 ≤ n) : toTiming n = none := by
  match n, h with
  | n + 2, _ => rfl

theorem toExclusivity_eq_none {n : Nat} (h : 2 ≤ n) : toExclusivity n = none := by
  match n, h with
  | n + 2, _ => rfl

theorem toGate_eq_none {n : Nat} (h : 2 ≤ n) : toGate n = none := by
  match n, h with
  | n + 2, _ => rfl

theorem rdLoopParams_of_bad_choice {p : List Byte} (bad : 2 ≤ rd16 p 8 ∨ 2 ≤ rd16 p 14 ∨ 2 ≤ rd16 p 16 ∨ 2 ≤ rd16 p 18) :
    rdLoopParams p = none := by
  unfold rdLoopParams
  split
  · rename_i source timing exclusivity gate
    exfalso
    rcases bad with h | h | h | h
    · simp [toGainSource_eq_none h] at source
    · simp [toTiming_eq_none h] at timing
    · simp [toExclusivity_eq_none h] at exclusivity
    · simp [toGate_eq_none h] at gate
  · rfl

end LoopParamPayload

theorem toActMode_eq_none {n : Nat} (h : 3 ≤ n) : toActMode n = none := by
  match n, h with
  | n + 3, _ => rfl

/-- An ACT.WRITE of one record whose mode field names no mode is BAD_VALUE, if not for its range (05 R106). -/
theorem actWriteAct_of_bad_mode {p : List Byte} (s : State) (count : rd16 p 2 = 1) (length : p.length = 14) (bad : 3 ≤ rd16 p 12) :
    actWriteAct p s = s.refuse .badValue := by
  have unreadable : rdRecords p 1 = none := by
    simp [rdRecords, rdActRecord, toActMode_eq_none bad, allSome]
  simp only [actWriteAct, count, unreadable]
  rw [if_neg (by omega)]
  split <;> rfl

theorem actPayload_reads (first gain mode : Nat) (lo hi flat : Int) :
    let p := u16s [first, 1] ++ s16s [lo, hi, flat] ++ u16s [gain, mode]
    p.length = 14 ∧ rd16 p 2 = 1 ∧ rd16 p 12 = mode % 65536 := by
  simp [beBytesInt]

/-- A payload that fails its message's form is refused before anything else (log 20). -/
theorem exec_of_ill_formed {c : Instr} {m : Message} {p : List Byte} {s : State} (message : messageOf c = some m)
    (heard : s.hears m p = true) (ill_formed : formOk m p = false) : exec c s = .next (s.refuse .badForm) := by
  cases c <;> dsimp only [exec] <;> try (simp [messageOf] at message; done)
  all_goals
    obtain rfl := Option.some.inj message
    refine runMessage_refuses heard (if_pos ?_)
    simp only [formOk, decide_eq_false_iff_not] at ill_formed
    omega

/-- Settles O4: the forms message by message, then an index beyond its bound, then a choice field that names no choice. -/
theorem illFormedRequestsChangeNothing : Obligations.IllFormedRequestsChangeNothing := by
  refine ⟨fun c m p s => exec_of_ill_formed, ?indices, fun s => ⟨?config, ?loop, ?act⟩⟩
  case indices =>
    simp only [List.forall_mem_cons, List.not_mem_nil, false_implies, implies_true, and_true]
    refine ⟨?_, ?_, ?_, ?_, ?_, ?_, ?_, ?_⟩ <;> intro s n above fits heard
    all_goals dsimp only [exec]
    iterate 5 exact runMessage_refuses heard (withSensor_of_le s above fits)
    iterate 2 exact runMessage_refuses heard (withSet_of_le s above fits)
    · refine runMessage_refuses heard ?_
      have named : toLink n = none := dif_neg (by omega)
      simp [Nat.mod_eq_of_lt fits, named]
  case config =>
    intro i n policy k a r h fx hi hn hpolicy hfx heard bad
    obtain ⟨length, r0, r2, r4, -, -, -, -, r22⟩ := configPayload_reads i n policy k a r h fx
    dsimp only [exec]
    refine runMessage_refuses heard (configAct_of_bad_choice s length ?_)
    rwa [r0, r2, r4, r22, Nat.mod_eq_of_lt hi, Nat.mod_eq_of_lt hn, Nat.mod_eq_of_lt hpolicy, Nat.mod_eq_of_lt hfx]
  case loop =>
    intro g l source d timing exclusivity gate r n hsource htiming hexclusivity hgate heard bad
    obtain ⟨length, -, -, r8, -, r14, r16, r18, -, -⟩ := loopPayload_reads g l source d timing exclusivity gate r n
    dsimp only [exec]
    refine runMessage_refuses heard ?_
    have unreadable : rdLoopParams (u32s [g, l] ++ u16s [source] ++ u32s [d] ++ u16s [timing, exclusivity, gate] ++ u32s [r, n])
        = none := by
      refine rdLoopParams_of_bad_choice ?_
      rwa [r8, r14, r16, r18, Nat.mod_eq_of_lt hsource, Nat.mod_eq_of_lt htiming, Nat.mod_eq_of_lt hexclusivity,
        Nat.mod_eq_of_lt hgate]
    rw [if_neg (not_not.mpr length), unreadable]
  case act =>
    intro first gain mode lo hi flat hmode heard bad
    obtain ⟨length, count, r12⟩ := actPayload_reads first gain mode lo hi flat
    dsimp only [exec]
    refine runMessage_refuses heard (actWriteAct_of_bad_mode s count length ?_)
    rwa [r12, Nat.mod_eq_of_lt hmode]

/-! ## DEV.IDENT -/

/-- Settles O57: BAD_FORM on a payload, otherwise the five values. -/
theorem deviceIdentity : Obligations.DeviceIdentity := by
  refine fun s => ⟨fun p heard payload => ?_, fun heard => ?_⟩
  · exact exec_of_ill_formed (c := .devIdent) rfl heard (by simpa [formOk] using payload)
  · change execDevIdent s = _
    exact runMessage_of_hears heard _

/-! ## The power-on state -/

@[simp] theorem State.sensor_reset (i : Fin 6) : State.reset.sensor i = Sensor.reset := by
  simp [State.sensor, State.reset]

@[simp] theorem State.setRec_reset (n : Fin 4) : State.reset.setRec n = SetRecord.erased := by
  simp [State.setRec, State.reset, Memory.reset]

@[simp] theorem State.savedOf_reset (i : Fin 6) : State.reset.savedOf i = Saved.reset := by
  simp [State.savedOf, State.reset, Reconstruction.reset]

@[simp] theorem State.driveLink_reset (d : Fin 4) : State.reset.driveLink d = DriveLink.reset := by
  simp [State.driveLink, State.reset]

theorem State.degEntry_reset (i : Nat) : State.reset.degEntry i = none := by
  simp only [State.degEntry, State.reset, CycleController.reset, Vector.getElem?_replicate]
  split <;> rfl

theorem vget_zeroVector (i : Nat) : vget zeroVector i = 0 := by
  simp only [vget, zeroVector, List.getD_eq_getElem?_getD, List.getElem?_replicate]
  split <;> rfl

theorem State.act_reset (i : Nat) : State.reset.act i = ActRecord.reset := by
  simp only [State.act, State.reset, LawUnit.reset, List.getD_eq_getElem?_getD, List.getElem?_replicate]
  split <;> rfl

/-- Settles O10: the invariants and the tables on the reset state, entry by entry, then the reset of any state by its definition. -/
theorem powerOnState : Obligations.PowerOnState := by
  refine ⟨⟨rfl, List.nodup_nil, ?_, ?_, fun _ => rfl, ⟨rfl, ?_⟩, ?_⟩, ?tables, fun s => ⟨_, rfl, ?_⟩⟩
  · exact fun _ k hk => by simp [State.reset, CycleController.reset] at hk
  · exact fun k hk => by simp [State.reset, CycleController.reset] at hk
  · simp [State.reset, LawUnit.reset]
  · exact ⟨by simp [State.reset, ControlLink.reset], by simp [State.reset, ControlLink.reset],
      by simp [State.reset, ControlLink.reset], fun _ => rfl⟩
  case tables =>
    refine ⟨fun i => ?_, rfl, rfl, rfl, rfl, rfl, rfl, State.degEntry_reset, rfl, fun n => ?_, rfl, rfl, rfl, fun i => ?_, rfl, rfl, rfl,
      rfl, rfl, vget_zeroVector, State.act_reset, rfl, rfl, rfl, rfl, rfl, fun d => ?_, rfl, rfl, rfl, rfl, rfl, rfl, rfl, rfl, rfl,
      rfl, rfl, rfl, rfl, rfl, rfl, rfl, rfl, rfl, rfl, rfl, by decide⟩
    · rw [State.sensor_reset]
      exact ⟨rfl, rfl, rfl, rfl, rfl, rfl, rfl, rfl⟩
    · rw [State.setRec_reset]
      rfl
    · rw [State.savedOf_reset]
      rfl
    · rw [State.driveLink_reset]
      exact ⟨rfl, rfl, rfl⟩
  · exact ⟨rfl, rfl, rfl, rfl, rfl, rfl, rfl, rfl, rfl, rfl, rfl, rfl⟩

/-! ## A sensor frame's round trip (10 Table 10.9) -/

/-- The body of a sensor frame: everything before its check word. -/
def sensorFrameBody (link : Fin 6) (flags : Byte) (fn : Half) (slopes : List Int) : List Byte :=
  [BitVec.ofNat 8 link.val, flags] ++ beBytes 2 fn.toNat ++ beBytes 2 slopes.length ++ s16s slopes

theorem sensorFrameBytes_eq (link : Fin 6) (flags : Byte) (fn : Half) (slopes : List Int) :
    sensorFrameBytes link flags fn slopes =
      sensorFrameBody link flags fn slopes ++ beBytes 4 (crc32 (sensorFrameBody link flags fn slopes)).toNat := rfl

section SensorFrame

variable (link : Fin 6) (flags : Byte) (fn : Half) {slopes : List Int} (short : slopes.length < 65536)

theorem length_sensorFrameBody (slopes : List Int) : (sensorFrameBody link flags fn slopes).length = 6 + 2 * slopes.length := by
  simp [sensorFrameBody]
  omega

theorem frameId_sensorFrameBytes (slopes : List Int) : frameId (sensorFrameBytes link flags fn slopes) = link.val := by
  have small : link.val % 256 = link.val := Nat.mod_eq_of_lt (by omega)
  simp [frameId, sensorFrameBytes_eq, sensorFrameBody, byteAt, small]

theorem frameFlags_sensorFrameBytes (slopes : List Int) : frameFlags (sensorFrameBytes link flags fn slopes) =
    { shutter := flags.getLsbD 0, holdreq := flags.getLsbD 1, fx := flags.getLsbD 2 } := by
  simp [frameFlags, sensorFrameBytes_eq, sensorFrameBody]

/-- The frame behind its first two bytes. -/
theorem rd16_sensorFrameBytes (slopes : List Int) (j : Nat) : rd16 (sensorFrameBytes link flags fn slopes) (2 + j) =
    rd16 (beBytes 2 fn.toNat ++ (beBytes 2 slopes.length ++ (s16s slopes ++
      beBytes 4 (crc32 (sensorFrameBody link flags fn slopes)).toNat))) j := by
  have split_off : sensorFrameBytes link flags fn slopes = [BitVec.ofNat 8 link.val, flags] ++ (beBytes 2 fn.toNat ++
      (beBytes 2 slopes.length ++ (s16s slopes ++ beBytes 4 (crc32 (sensorFrameBody link flags fn slopes)).toNat))) := by
    simp [sensorFrameBytes_eq, sensorFrameBody]
  rw [split_off]
  exact rd16_append _ _ j

theorem frameFn_sensorFrameBytes (slopes : List Int) : frameFn (sensorFrameBytes link flags fn slopes) = fn := by
  rw [frameFn, rd16_sensorFrameBytes link flags fn slopes 0, rd16_beBytes, Nat.mod_eq_of_lt fn.isLt]
  simp

include short in
theorem frameCount_sensorFrameBytes : frameCount (sensorFrameBytes link flags fn slopes) = slopes.length := by
  rw [frameCount, rd16_sensorFrameBytes link flags fn slopes 2, rd16_skip16 _ _ 0, rd16_beBytes, Nat.mod_eq_of_lt short]

include short in
theorem frameSlopes_sensorFrameBytes (fits : fitsS16 slopes = true) : frameSlopes (sensorFrameBytes link flags fn slopes) = slopes := by
  rw [frameSlopes, frameCount_sensorFrameBytes link flags fn short]
  have range : ∀ x ∈ slopes, -32768 ≤ x ∧ x ≤ 32767 := by simpa [fitsS16] using fits
  have read := rdS16s_s16s slopes ([BitVec.ofNat 8 link.val, flags] ++ beBytes 2 fn.toNat ++ beBytes 2 slopes.length)
    (beBytes 4 (crc32 (sensorFrameBody link flags fn slopes)).toNat) range
  simpa [sensorFrameBytes_eq, sensorFrameBody] using read

include short in
theorem frameContentError_sensorFrameBytes : frameContentError (sensorFrameBytes link flags fn slopes) = false := by
  rw [frameContentError, frameCount_sensorFrameBytes link flags fn short, ← length_sensorFrameBody link flags fn slopes,
    sensorFrameBytes_eq, List.take_left]
  have check := rd32_append (sensorFrameBody link flags fn slopes) (beBytes 4 (crc32 (sensorFrameBody link flags fn slopes)).toNat) 0
  rw [Nat.add_zero, rd32_last, Nat.mod_eq_of_lt (BitVec.isLt _)] at check
  simp [check]

include short in
theorem frameSyntaxError_sensorFrameBytes {nSub : Nat} (shutter : flags.getLsbD 0 = true → slopes = [])
    (open_shutter : flags.getLsbD 0 = false → slopes.length = 2 * nSub) :
    frameSyntaxError link nSub (sensorFrameBytes link flags fn slopes) = false := by
  have length : (sensorFrameBytes link flags fn slopes).length = 10 + 2 * slopes.length := by
    rw [sensorFrameBytes_eq, List.length_append, length_sensorFrameBody, length_beBytes]
    omega
  simp only [frameSyntaxError, frameId_sensorFrameBytes, frameFlags_sensorFrameBytes, frameCount_sensorFrameBytes link flags fn short, length]
  cases closed : flags.getLsbD 0
  · simp [open_shutter closed]
  · simp [shutter closed]

end SensorFrame

/-- A frame that passes both checks of a sensor that is not DISABLED is handled as a checked frame (01 R1 to R5). -/
theorem exec_sensorFrameArrival_of_checked {s : State} {i : Fin 6} {b : List Byte} (enabled : (s.sensor i).mode ≠ .disabled)
    (syntax_good : frameSyntaxError i (s.sensor i).config.nSub b = false) (content_good : frameContentError b = false) :
    exec (.sensorFrameArrival i b) s = .next (s.checkedFrame i (frameOf b)) := by
  change execSensorFrameArrival i b s = _
  simp [execSensorFrameArrival, enabled, syntax_good, content_good]

/-- Settles O12: the frame passes both checks, and each field of it reads back. -/
theorem sensorFrameReadsBack : Obligations.SensorFrameReadsBack := by
  intro s i fl fn slopes enabled fits shutter open_shutter geometry
  have short : slopes.length < 65536 := by
    cases closed : fl.getLsbD 0
    · have := open_shutter closed
      omega
    · simp [shutter closed]
  rw [exec_sensorFrameArrival_of_checked enabled (frameSyntaxError_sensorFrameBytes i fl fn short shutter open_shutter)
    (frameContentError_sensorFrameBytes i fl fn short)]
  simp [frameOf, frameFn_sensorFrameBytes, frameFlags_sensorFrameBytes, frameSlopes_sensorFrameBytes i fl fn short fits]

end Sys2Proof.Machine

/-! The conditions that the messages test, said as the statements say them, and the messages of the sensors' tables. -/

namespace Sys2Proof.Machine

-- One theorem at a time: each worker thread reserves memory of its own.
set_option Elab.async false

/-! ## Names and codes read back -/

@[simp] theorem toSensor_val (i : Fin 6) : toSensor i.val = some i := by simp [toSensor]

@[simp] theorem toSet_val (n : Fin 4) : toSet n.val = some n := by simp [toSet]

@[simp] theorem toLink_val (d : Fin 4) : toLink d.val = some d := by simp [toLink]

@[simp] theorem toPolicy_policyCode (p : Policy) : toPolicy (policyCode p) = some p := by cases p <;> rfl

@[simp] theorem toFx_fxCode (f : FxFunction) : toFx (fxCode f) = some f := by cases f <;> rfl

@[simp] theorem toGainSource_gainSourceCode (g : GainSource) : toGainSource (gainSourceCode g) = some g := by cases g <;> rfl

@[simp] theorem toTiming_timingCode (t : HoldTiming) : toTiming (timingCode t) = some t := by cases t <;> rfl

@[simp] theorem toExclusivity_exclusivityCode (e : Exclusivity) : toExclusivity (exclusivityCode e) = some e := by
  cases e <;> rfl

@[simp] theorem toGate_gateCode (g : Bool) : toGate (gateCode g) = some g := by cases g <;> rfl

@[simp] theorem toActMode_actModeCode (m : ActMode) : toActMode (actModeCode m) = some m := by cases m <;> rfl

@[simp] theorem toTrigger_triggerCode (t : SnapTrigger) : toTrigger (triggerCode t) = some t := by cases t <;> rfl

theorem policyCode_lt (p : Policy) : policyCode p < 65536 := by cases p <;> decide

theorem fxCode_lt (f : FxFunction) : fxCode f < 65536 := by cases f <;> decide

theorem fin6_mod (i : Fin 6) : i.val % 65536 = i.val := Nat.mod_eq_of_lt (by omega)

theorem fin4_mod (n : Fin 4) : n.val % 65536 = n.val := Nat.mod_eq_of_lt (by omega)

theorem clampInt_eq_max_min {lo hi : Int} (ordered : lo ≤ hi) (x : Int) : clampInt lo hi x = max lo (min hi x) := by
  unfold clampInt
  split
  · omega
  · split <;> omega

theorem clampStale_eq (n : Nat) : clampStale n = if n = 0 then 0 else min 255 (max 4 n) := by
  unfold clampStale
  split
  · rfl
  · exact clampNat_eq_min_max (by decide) n

/-! ## Conditions -/

theorem mem_allSensors (i : Fin 6) : i ∈ allSensors := by
  revert i
  decide

theorem mem_allLinks (d : Fin 4) : d ∈ allLinks := by
  revert d
  decide

/-- The presence set as an index of the degradation table (02 R37). -/
theorem State.sensorMask_presence (s : State) :
    sensorMask s.presence = (allSensors.map fun i => if (s.sensor i).mode = .active then 2 ^ i.val else 0).sum := by
  simp [sensorMask, State.presence, State.isActive]

theorem State.isActive_iff (s : State) (i : Fin 6) : s.isActive i = true ↔ (s.sensor i).mode = .active := by
  simp [State.isActive]

theorem SetRecord.nSubOf_isSome_iff (r : SetRecord) (i : Fin 6) :
    (r.nSubOf i).isSome = true ↔ ∃ e ∈ r.participation, e.1 = i := by
  simp [SetRecord.nSubOf]

theorem SetRecord.nSubOf_eq_none_iff (r : SetRecord) (i : Fin 6) :
    r.nSubOf i = none ↔ ∀ e ∈ r.participation, e.1 ≠ i := by
  simp [SetRecord.nSubOf]

theorem exists_mem_sets {s : State} {P : SetRecord → Prop} : (∃ r ∈ s.mem.sets.toList, P r) ↔ ∃ m : Fin 4, P (s.setRec m) := by
  constructor
  · rintro ⟨r, mem, holds⟩
    obtain ⟨k, hk, rfl⟩ := List.mem_iff_getElem.mp mem
    exact ⟨⟨k, by simpa using hk⟩, by simpa [State.setRec] using holds⟩
  · rintro ⟨m, holds⟩
    exact ⟨_, by simp [State.setRec], holds⟩

theorem State.listed_iff (s : State) (i : Fin 6) :
    s.listed i = true ↔ ∃ m : Fin 4, (s.setRec m).state ≠ .empty ∧ ∃ e ∈ (s.setRec m).participation, e.1 = i := by
  rw [State.listed, List.any_eq_true, exists_mem_sets]
  simp only [Bool.and_eq_true, decide_eq_true_eq, SetRecord.nSubOf_isSome_iff]

theorem State.pageBound_iff (s : State) (i : Fin 6) (p : Fin 2) :
    s.pageBound i p = true ↔ ∃ k ∈ s.cyc.cycles, k.binding[i] = p := by
  simp [State.pageBound]

/-- A set in use, row by row of 03 Table 3.4 (R57). -/
theorem State.setInUse_iff (s : State) (n : Fin 4) :
    s.setInUse n = true ↔ (s.setRec n).state = .complete ∧ ((∃ k ∈ s.cyc.cycles, k.set = some n) ∨ s.cyc.selection = .fixed n
      ∨ ((s.loop.state = .closed ∨ s.loop.state = .held) ∧ s.cyc.selection = .auto
        ∧ (s.cyc.degTable[(allSensors.map fun i => if (s.sensor i).mode = .active then 2 ^ i.val else 0).sum]?).getD none
          = some n)) := by
  have bound : 0 < s.setBound n ↔ ∃ k ∈ s.cyc.cycles, k.set = some n := by
    simp [State.setBound, List.length_pos_iff_exists_mem]
  rw [← s.sensorMask_presence, State.setInUse, Bool.and_eq_true, Bool.or_eq_true, Bool.or_eq_true, Bool.and_eq_true,
    Bool.and_eq_true, Bool.or_eq_true, or_assoc, and_assoc]
  simp only [decide_eq_true_iff, bound]
  rfl

theorem State.participates_iff (s : State) (set : SetId) (i : Fin 6) :
    s.participates set i = true ↔ ∃ n, set = some n ∧ ∃ e ∈ (s.setRec n).participation, e.1 = i := by
  cases set <;> simp [State.participates, SetRecord.nSubOf_isSome_iff]

theorem LoopState.closedToCycles_iff (l : LoopState) : l.closedToCycles = true ↔ l = .idle ∨ l = .safe := by
  simp [LoopState.closedToCycles]

theorem State.banked_singleton {s : State} {k : Cycle} (only : s.cyc.cycles = [k]) : s.cycleAt k.bank = some k := by
  simp [State.cycleAt, only]

/-! ## SNS.CONFIG (01 R23) -/

/-- The configuration as SNS.CONFIG gives it. -/
theorem rdConfig_payload (i : Fin 6) {n : Nat} (policy : Policy) {k a r h : Nat} (fx : FxFunction) (hn : n ≤ 1024)
    (hk : k < 4294967296) (ha : a < 4294967296) (hr : r < 4294967296) (hh : h < 4294967296) :
    rdConfig (u16s [i.val, n, policyCode policy] ++ u32s [k, a, r, h] ++ u16s [fxCode fx])
      = some { nSub := n, policy := policy, kMiss := k, aGood := a, nStale := r, hMax := h, fx := fx } := by
  obtain ⟨-, -, r2, r4, r6, r10, r14, r18, r22⟩ := configPayload_reads i.val n (policyCode policy) k a r h (fxCode fx)
  have n16 : n % 65536 = n := Nat.mod_eq_of_lt (by omega)
  simp only [rdConfig, r2, r4, r6, r10, r14, r18, r22, n16, Nat.mod_eq_of_lt (policyCode_lt policy), Nat.mod_eq_of_lt (fxCode_lt fx),
    toPolicy_policyCode, toFx_fxCode, Nat.mod_eq_of_lt hk, Nat.mod_eq_of_lt ha, Nat.mod_eq_of_lt hr, Nat.mod_eq_of_lt hh, if_pos hn]

/-- What SNS.CONFIG does once its payload is read. -/
theorem configAct_of_read {p : List Byte} {i : Fin 6} {c : SensorConfig} (s : State) (length : p.length = 24)
    (sensor : rd16 p 0 = i.val) (config : rdConfig p = some c) :
    configAct p s =
      if (s.sensor i).mode ≠ .disabled then s.refuse .wrongState
      else if c.nSub ≠ (s.sensor i).config.nSub ∧ s.listed i then s.refuse .inUse
      else if c.nSub ≠ (s.sensor i).config.nSub
          ∧ ((s.sensor i).commitPending ∨ s.pageBound i (otherPage (s.sensor i).activePage)) then s.refuse .busy
      else (s.updSensor i fun y => y.configured c.inRange).reply (doneOr (decide (c.inRange ≠ c)))
        (if decide (c.inRange ≠ c) = true then configFields c.inRange else []) := by
  rw [configAct, if_neg (not_not.mpr length), sensor, config, toSensor_val]

theorem SensorConfig.inRange_eq (c : SensorConfig) :
    c.inRange = { c with
      kMiss := min 255 (max 1 c.kMiss), aGood := min 64 (max 1 c.aGood)
      nStale := if c.nStale = 0 then 0 else min 255 (max 4 c.nStale), hMax := min 255 (max 1 c.hMax) } := by
  rw [SensorConfig.inRange, clampStale_eq, clampNat_eq_min_max (by decide), clampNat_eq_min_max (by decide),
    clampNat_eq_min_max (by decide)]

theorem State.updSensor_congr (s : State) {i : Fin 6} {f g : Sensor → Sensor} (same : f (s.sensor i) = g (s.sensor i)) :
    s.updSensor i f = s.updSensor i g := by
  have same' : f s.intake.sensors[i] = g s.intake.sensors[i] := same
  unfold State.updSensor
  rw [same']

/-- Settles O17: the payload reads as its fields, and each clause picks a branch of the act. -/
theorem sensorConfiguration : Obligations.SensorConfiguration := by
  intro s i n policy k a r h fx hn hk ha hr hh heard x new listed standby bound k' a' r' h' stored
  let given : SensorConfig := { nSub := n, policy := policy, kMiss := k, aGood := a, nStale := r, hMax := h, fx := fx }
  obtain ⟨length, r0, -⟩ := configPayload_reads i.val n (policyCode policy) k a r h (fxCode fx)
  have config : rdConfig _ = some given := rdConfig_payload i policy fx hn hk ha hr hh
  have acts : exec .snsConfig s = _ :=
    (runMessage_of_hears heard configAct).trans
      (congrArg _ (configAct_of_read s length (r0.trans (fin6_mod i)) config))
  have listed_iff : s.listed i = true ↔ listed := s.listed_iff i
  have bound_iff : ((s.sensor i).commitPending = true ∨ s.pageBound i (otherPage (s.sensor i).activePage) = true) ↔ bound :=
    or_congr Iff.rfl (s.pageBound_iff i _)
  rw [SensorConfig.inRange_eq] at acts
  simp only [listed_iff, bound_iff] at acts
  refine ⟨fun enabled => ?_, fun disabled hnew hlisted => ?_, fun disabled hnew unlisted hbound => ?_,
    fun disabled free => ⟨doneOr (decide (stored ≠ given)), if decide (stored ≠ given) = true then configFields stored else [],
      ?_, ?_, ?_⟩⟩
  · rw [acts, if_pos enabled]
  · rw [acts, if_neg (not_not.mpr disabled), if_pos ⟨hnew, hlisted⟩]
  · rw [acts, if_neg (not_not.mpr disabled), if_neg (fun both => unlisted both.2), if_pos ⟨hnew, hbound⟩]
  · rw [acts, if_neg (not_not.mpr disabled), if_neg (fun both => (free both.1).1 both.2),
      if_neg (fun both => (free both.1).2 both.2)]
    congr 2
    refine s.updSensor_congr ?_
    by_cases same : n = (s.sensor i).config.nSub
    · have old : ¬ new := not_not.mpr same
      rw [Sensor.configured, if_pos (show given.nSub = _ from same), if_neg old]
    · have hnew : new := same
      rw [Sensor.configured, if_neg (show ¬ given.nSub = _ from same), if_pos hnew]
      rfl
  · rintro ⟨ek, ea, er, eh⟩
    have same : ¬ decide (stored ≠ given) = true := by simp [stored, given, ek, ea, er, eh]
    exact ⟨if_neg same, if_neg same⟩
  · intro moved
    have changed : decide (stored ≠ given) = true := by
      refine decide_eq_true fun same => ?_
      simp only [stored, given, SensorConfig.mk.injEq] at same
      obtain ⟨-, -, ek, ea, er, eh, -⟩ := same
      exact moved ⟨ek, ea, er, eh⟩
    exact ⟨if_pos changed, if_pos changed⟩

end Sys2Proof.Machine

/-! Vectors and lists entry by entry, the sensors' tables, the sets' records and the selection. -/

namespace Sys2Proof.Machine

-- One theorem at a time: each worker thread reserves memory of its own.
set_option Elab.async false

/-! ## Vectors, entry by entry -/

theorem vget_eq_getElem {v : List Int} {i : Nat} (h : i < v.length) : vget v i = v[i] := by
  simp [vget, h]

theorem vget_of_length_le {v : List Int} {i : Nat} (h : v.length ≤ i) : vget v i = 0 := by
  simp [vget, h]

theorem vget_append (v w : List Int) (i : Nat) : vget (v ++ w) i = if i < v.length then vget v i else vget w (i - v.length) := by
  simp only [vget, List.getD_eq_getElem?_getD, List.getElem?_append]
  split <;> rfl

theorem vget_drop (v : List Int) (n i : Nat) : vget (v.drop n) i = vget v (n + i) := by
  simp [vget, List.getD_eq_getElem?_getD, List.getElem?_drop]

theorem vget_take (v : List Int) (n i : Nat) : vget (v.take n) i = if i < n then vget v i else 0 := by
  simp only [vget, List.getD_eq_getElem?_getD, List.getElem?_take]
  split <;> rfl

theorem vget_map_range (n : Nat) (f : Nat → Int) (i : Nat) : vget ((List.range n).map f) i = if i < n then f i else 0 := by
  simp only [vget, List.getD_eq_getElem?_getD, List.getElem?_map]
  split
  · next h => simp [h]
  · next h => simp [Nat.not_lt.mp h]

theorem vget_replicate (n i : Nat) (x : Int) : vget (List.replicate n x) i = if i < n then x else 0 := by
  simp only [vget, List.getD_eq_getElem?_getD, List.getElem?_replicate]
  split <;> rfl

@[simp] theorem vget_vfill (n : Nat) (f : Nat → Int) (v : List Int) (i : Nat) :
    vget (vfill n f v) i = if i < n then f i else vget v i := by
  rw [vfill, vget_append, List.length_map, List.length_range, vget_map_range, vget_drop]
  split
  · rfl
  · rw [Nat.add_sub_cancel' (by omega)]

theorem vget_vwrite {v : List Int} {first : Nat} (inside : first ≤ v.length) (values : List Int) (i : Nat) :
    vget (vwrite v first values) i
      = if first ≤ i ∧ i < first + values.length then vget values (i - first) else vget v i := by
  have length : (v.take first).length = first := by simpa using inside
  rw [vwrite, List.append_assoc, vget_append, vget_append, length, vget_take, vget_drop]
  by_cases before : i < first
  · rw [if_pos before, if_pos before, if_neg (by omega)]
  · rw [if_neg before]
    by_cases within : i < first + values.length
    · rw [if_pos (by omega), if_pos (by omega)]
    · rw [if_neg (by omega), if_neg (by omega)]
      congr 1
      omega

theorem length_vwrite {v : List Int} {first : Nat} {values : List Int} (inside : first + values.length ≤ v.length) :
    (vwrite v first values).length = v.length := by
  simp [vwrite]
  omega

@[simp] theorem vget_vput (v : List Int) (i : Nat) (x : Int) (j : Nat) : vget (vput v i x) j = if j = i then x else vget v j := by
  induction v generalizing i j with
  | nil =>
    induction i generalizing j with
    | zero => cases j <;> simp [vput, vget]
    | succ i ih =>
      cases j with
      | zero => simp [vput, vget]
      | succ j => simpa [vput, vget] using ih j
  | cons y v ih =>
    cases i with
    | zero => cases j <;> simp [vput, vget]
    | succ i =>
      cases j with
      | zero => simp [vput, vget]
      | succ j => simpa [vput, vget] using ih i j

/-! ## Lists without repeats -/

@[simp] theorem mem_distinct {α : Type} [DecidableEq α] {l : List α} {x : α} : x ∈ distinct l ↔ x ∈ l := by
  induction l with
  | nil => simp [distinct]
  | cons y l ih =>
    by_cases h : x = y <;> simp [distinct, ih, h]

theorem nodup_distinct {α : Type} [DecidableEq α] (l : List α) : (distinct l).Nodup := by
  induction l with
  | nil => exact List.nodup_nil
  | cons y l ih =>
    rw [distinct, List.nodup_cons]
    exact ⟨by simp, ih.filter _⟩

theorem distinct_sublist {α : Type} [DecidableEq α] (l : List α) : (distinct l).Sublist l := by
  induction l with
  | nil => exact List.Sublist.refl _
  | cons y l ih => exact ((List.filter_sublist).trans ih).cons_cons y

section Joining

variable {α : Type} [DecidableEq α] {old : List α} {lacks : α → Bool}

/-- What joins a list without repeats: the entries that it lacks, once each. -/
theorem nodup_append_distinct (nodup : old.Nodup) (lacks_iff : ∀ x, lacks x = true ↔ x ∉ old) (given : List α) :
    (old ++ distinct (given.filter lacks)).Nodup := by
  refine List.nodup_append'.mpr ⟨nodup, nodup_distinct _, fun x hx hnew => ?_⟩
  rw [mem_distinct, List.mem_filter, lacks_iff] at hnew
  exact hnew.2 hx

theorem mem_append_distinct (lacks_iff : ∀ x, lacks x = true ↔ x ∉ old) {given : List α} {x : α} :
    x ∈ old ++ distinct (given.filter lacks) ↔ x ∈ old ∨ x ∈ given := by
  rw [List.mem_append, mem_distinct, List.mem_filter, lacks_iff]
  by_cases h : x ∈ old <;> simp [h]

theorem length_append_distinct (nodup : old.Nodup) (lacks_iff : ∀ x, lacks x = true ↔ x ∉ old) (given : List α) :
    old.length + (distinct (given.filter lacks)).length = (old ++ given).dedup.length := by
  rw [← List.length_append]
  refine ((List.perm_ext_iff_of_nodup (nodup_append_distinct nodup lacks_iff given) (List.nodup_dedup _)).mpr fun x => ?_).length_eq
  rw [mem_append_distinct lacks_iff, List.mem_dedup, List.mem_append]

end Joining

/-! ## Rising lists -/

@[simp] theorem mem_insertRising {x y : Nat} {l : List Nat} : y ∈ insertRising x l ↔ y = x ∨ y ∈ l := by
  induction l with
  | nil => simp [insertRising]
  | cons z l ih =>
    rw [insertRising]
    split
    · simp
    · split
      · next h => simp [h]
      · simp [ih, or_left_comm]

theorem rising_insertRising {x : Nat} {l : List Nat} (rising : l.Pairwise (· < ·)) : (insertRising x l).Pairwise (· < ·) := by
  induction l with
  | nil => simp [insertRising]
  | cons z l ih =>
    obtain ⟨below, rest⟩ := List.pairwise_cons.mp rising
    rw [insertRising]
    split
    · next hlt =>
      refine List.pairwise_cons.mpr ⟨fun y hy => ?_, rising⟩
      rcases List.mem_cons.mp hy with rfl | hy
      · exact hlt
      · exact hlt.trans (below y hy)
    · split
      · exact rising
      · next hge hne =>
        refine List.pairwise_cons.mpr ⟨fun y hy => ?_, ih rest⟩
        rcases mem_insertRising.mp hy with rfl | hy
        · omega
        · exact below y hy

theorem mem_foldl_insertRising {given l : List Nat} {y : Nat} :
    y ∈ given.foldl (fun l k => insertRising k l) l ↔ y ∈ l ∨ y ∈ given := by
  induction given generalizing l with
  | nil => simp
  | cons k given ih => simp [ih, or_assoc, or_left_comm]

theorem rising_foldl_insertRising {given l : List Nat} (rising : l.Pairwise (· < ·)) :
    (given.foldl (fun l k => insertRising k l) l).Pairwise (· < ·) := by
  induction given generalizing l with
  | nil => exact rising
  | cons k given ih => exact ih (rising_insertRising rising)

/-! ## Payload runs -/

theorem rd16s_of_two (a b : Nat) {l : List Nat} (fits : ∀ n ∈ l, n < 65536) : rd16s (u16s (a :: b :: l)) 4 l.length = l := by
  simpa using rd16s_u16s l (beBytes 2 a ++ beBytes 2 b) [] fits

theorem fitsS16_iff (l : List Int) : fitsS16 l = true ↔ ∀ x ∈ l, -32768 ≤ x ∧ x ≤ 32767 := by
  simp [fitsS16]

/-- What a message on an exclusion list does once its payload is read (01 Table 1.5). -/
theorem withIndices_payload (i : Fin 6) {given : List Nat} (s : State) (f : Fin 6 → List Nat → State) (some_given : given ≠ [])
    (few : given.length ≤ 64) (fits : ∀ k ∈ given, k < 65536) :
    withIndices (u16s ([i.val, given.length] ++ given)) s f
      = if ∃ k ∈ given, (s.sensor i).config.nSub ≤ k then s.refuse .badValue else f i given := by
  have some_count : 0 < given.length := List.length_pos_iff.mpr some_given
  have count : rd16 (u16s ([i.val, given.length] ++ given)) 2 = given.length := by
    simp [Nat.mod_eq_of_lt (show given.length < 65536 by omega)]
  have sensor : rd16 (u16s ([i.val, given.length] ++ given)) 0 = i.val := by simp [fin6_mod]
  have indices := rd16s_of_two i.val given.length fits
  have length : (u16s ([i.val, given.length] ++ given)).length = 4 + 2 * given.length := by simp; omega
  rw [withIndices, count, sensor, length, if_neg (by omega), toSensor_val]
  simp only [List.cons_append, List.nil_append, indices, List.any_eq_true, decide_eq_true_eq]

section ExclusionLists

variable {s : State} {i : Fin 6} {given : List Nat}

theorem exec_snsExclAdd_of_hears (heard : s.hears .snsExclAdd (u16s ([i.val, given.length] ++ given)) = true)
    (some_given : given ≠ []) (few : given.length ≤ 64) (fits : ∀ k ∈ given, k < 65536) :
    exec .snsExclAdd s = .next (
      if ∃ k ∈ given, (s.sensor i).config.nSub ≤ k then s.refuse .badValue
      else if 64 < (s.sensor i).exclusion.length + (newIndices (s.sensor i).exclusion given).length then s.refuse .full
      else (s.updSensor i fun x => { x with exclusion := given.foldl (fun l k => insertRising k l) x.exclusion }).reply .done []) := by
  change execSnsExclAdd s = _
  simp only [execSnsExclAdd, runMessage_of_hears heard, withIndices_payload i s _ some_given few fits]

theorem exec_snsExclDel_of_hears (heard : s.hears .snsExclDel (u16s ([i.val, given.length] ++ given)) = true)
    (some_given : given ≠ []) (few : given.length ≤ 64) (fits : ∀ k ∈ given, k < 65536) :
    exec .snsExclDel s = .next (
      if ∃ k ∈ given, (s.sensor i).config.nSub ≤ k then s.refuse .badValue
      else (s.updSensor i fun x => { x with exclusion := x.exclusion.filter fun k => decide (k ∉ given) }).reply .done []) := by
  change execSnsExclDel s = _
  simp only [execSnsExclDel, runMessage_of_hears heard, withIndices_payload i s _ some_given few fits]

theorem not_exists_of_forall_lt {n : Nat} (inside : ∀ k ∈ given, k < n) : ¬ ∃ k ∈ given, n ≤ k := by
  rintro ⟨k, hk, h⟩
  exact absurd (inside k hk) (by omega)

end ExclusionLists

/-- Settles O19: the lists as rising lists, the STANDBY page entry by entry, the commit by the loop's state. -/
theorem sensorTables : Obligations.SensorTables := by
  refine ⟨fun s i given => ?lists, fun s i first values hfirst hcount hfits heard => ?write, fun s i heard => ?commit⟩
  case lists =>
    intro x old some_given few rising
    have nodup : old.Nodup := rising.imp fun h => Nat.ne_of_lt h
    have small (inside : ∀ k ∈ given, k < x.config.nSub) (geometry : x.config.nSub ≤ 1024) (k : Nat) (hk : k ∈ given) : k < 65536 :=
      (inside k hk).trans_le (by omega)
    refine ⟨fun heard => ⟨?_, fun inside geometry => ?_⟩, fun heard => ⟨?_, fun inside geometry => ?_⟩⟩
    · rintro ⟨k, hk, -, beyond⟩ fits
      rw [exec_snsExclAdd_of_hears heard some_given few fits, if_pos ⟨k, hk, beyond⟩]
    · have acts := exec_snsExclAdd_of_hears heard some_given few (small inside geometry)
      have count : (s.sensor i).exclusion.length + (newIndices (s.sensor i).exclusion given).length = (old ++ given).dedup.length :=
        length_append_distinct nodup (fun _ => decide_eq_true_iff) given
      rw [if_neg (not_exists_of_forall_lt inside), count] at acts
      refine ⟨fun full => by rw [acts, if_pos full], fun room => ⟨given.foldl (fun l k => insertRising k l) old, ?_,
        rising_foldl_insertRising rising, fun k => mem_foldl_insertRising⟩⟩
      rw [acts, if_neg (by omega)]
      congr 2
    · rintro ⟨k, hk, beyond⟩ fits
      rw [exec_snsExclDel_of_hears heard some_given few fits, if_pos ⟨k, hk, beyond⟩]
    · refine ⟨old.filter fun k => decide (k ∉ given), ?_, rising.filter _, fun k => by simp⟩
      rw [exec_snsExclDel_of_hears heard some_given few (small inside geometry), if_neg (not_exists_of_forall_lt inside)]
      congr 2
  case write =>
    intro x standby outside held
    have fits := (fitsS16_iff values).mp hfits
    have count : rd16 (u16s [i.val, first, values.length] ++ s16s values) 4 = values.length := by
      simp [Nat.mod_eq_of_lt hcount]
    have length : (u16s [i.val, first, values.length] ++ s16s values).length = 6 + 2 * values.length := by simp; omega
    have sensor : rd16 (u16s [i.val, first, values.length] ++ s16s values) 0 = i.val := by simp [fin6_mod]
    have place : rd16 (u16s [i.val, first, values.length] ++ s16s values) 2 = first := by simp [Nat.mod_eq_of_lt hfirst]
    have given : rdS16s (u16s [i.val, first, values.length] ++ s16s values) 6 values.length = values := by
      simpa using rdS16s_s16s values (u16s [i.val, first, values.length]) [] fits
    have held_iff : ((s.sensor i).commitPending = true ∨ s.pageBound i (otherPage (s.sensor i).activePage) = true) ↔ held :=
      or_congr Iff.rfl (s.pageBound_iff i _)
    have acts : exec .refWrite s = _ := runMessage_of_hears heard refWriteAct
    simp only [refWriteAct, count, length, sensor, place, given, toSensor_val, held_iff, ne_eq, not_true_eq_false, if_false] at acts
    refine ⟨fun out => acts.trans (congrArg _ (if_pos out)),
      fun inside busy => acts.trans (congrArg _ ((if_neg inside).trans (if_pos busy))), fun inside idle long => ?_⟩
    have written : first + values.length ≤ x.pages[standby].length := by
      have : ¬ 2 * x.config.nSub < first + values.length := fun h => inside (.inr h)
      omega
    refine ⟨vwrite x.pages[standby] first (values.map fun v => max (-32767) v), ?_, ?_, fun j => ?_⟩
    · have some_lowest : (values.any fun v => decide (v = -32768)) = true ↔ -32768 ∈ values := by simp
      rw [acts, if_neg inside, if_neg idle, doneOr]
      simp only [some_lowest]
      congr 2
    · exact length_vwrite (by simpa using written)
    · rw [vget_vwrite (by omega), List.length_map]
      split
      · next within =>
        rw [vget_eq_getElem (by simp; omega), List.getElem_map, vget_eq_getElem (by omega)]
      · rfl
  case commit =>
    intro x
    have acts : exec .refCommit s = .next (if x.config.nSub = 0 then s.refuse .notReady
        else if s.loop.state.closedToCycles then (s.updSensor i Sensor.exchange).reply .done []
        else (s.updSensor i fun x => { x with commitPending := true }).reply .done []) := by
      change execRefCommit s = _
      simp only [execRefCommit, runMessage_of_hears heard, withSensor_eq]
      rfl
    refine ⟨fun none => by rw [acts, if_pos none], fun some_geometry rest => ?_, fun some_geometry running => ?_⟩
    · rw [acts, if_neg some_geometry, if_pos ((LoopState.closedToCycles_iff _).mpr rest)]
      congr 2
    · rw [acts, if_neg some_geometry, if_neg]
      rw [LoopState.closedToCycles_iff]
      rcases running with h | h | h <;> simp [h]

end Sys2Proof.Machine

/-! The messages of the reconstructor sets, the degradation table, the monitor lines and the neighbour list. -/

namespace Sys2Proof.Machine

-- One theorem at a time: each worker thread reserves memory of its own.
set_option Elab.async false

/-! ## Payload lists -/

/-- A run of pairs reads back as itself. -/
theorem rdPairs_u16s (l : List (Nat × Nat)) (a b : List Byte) (fits : ∀ q ∈ l, q.1 < 65536 ∧ q.2 < 65536) :
    rdPairs rd16 (a ++ (u16s (l.flatMap fun q => [q.1, q.2]) ++ b)) a.length l.length = l := by
  induction l generalizing a with
  | nil => rfl
  | cons q l ih =>
    obtain ⟨fit1, fit2⟩ := fits q (List.mem_cons_self ..)
    have rest := ih (a ++ (beBytes 2 q.1 ++ beBytes 2 q.2)) fun m hm => fits m (List.mem_cons_of_mem _ hm)
    have first := rd16_append a (beBytes 2 q.1 ++ (beBytes 2 q.2 ++ (u16s (l.flatMap fun q => [q.1, q.2]) ++ b))) 0
    have second := rd16_append a (beBytes 2 q.1 ++ (beBytes 2 q.2 ++ (u16s (l.flatMap fun q => [q.1, q.2]) ++ b))) 2
    have skip := rd16_skip16 q.1 (beBytes 2 q.2 ++ (u16s (l.flatMap fun q => [q.1, q.2]) ++ b)) 0
    rw [rdPairs, List.length_cons, List.range_succ_eq_map, List.map_cons, List.map_map]
    refine List.cons_eq_cons.2 ⟨?_, ?_⟩
    · rw [Nat.zero_add] at skip
      rw [rd16_beBytes] at first
      rw [skip, rd16_beBytes] at second
      simp only [List.flatMap_cons, List.cons_append, List.nil_append, u16s_cons, List.append_assoc, Nat.mul_zero, Nat.add_zero] at first second ⊢
      rw [first, second, Nat.mod_eq_of_lt fit1, Nat.mod_eq_of_lt fit2]
    · conv_rhs => rw [← rest]
      apply List.map_congr_left
      intro k _
      simp [Function.comp, Nat.mul_add, Nat.add_assoc, Nat.add_comm, Nat.add_left_comm]

@[simp] theorem length_flatMap_pair {α : Type} (f g : α → Nat) (l : List α) : (l.flatMap fun q => [f q, g q]).length = 2 * l.length := by
  induction l with
  | nil => rfl
  | cons q l ih => simp [ih]; omega

@[simp] theorem allSome_map_some {α : Type} (l : List α) : allSome (l.map some) = some l := by
  induction l with
  | nil => rfl
  | cons x l ih => simp [allSome, ih]

theorem allSome_of_none_mem {α : Type} {l : List (Option α)} (missing : none ∈ l) : allSome l = none := by
  induction l with
  | nil => cases missing
  | cons x l ih =>
    cases x with
    | none => rfl
    | some x =>
      have rest : none ∈ l := by simpa using missing
      simp [allSome, ih rest]

/-! ## SET.BEGIN and SET.ERASE (03 R56, R60) -/

theorem namedOnce_iff (l : List (Fin 6 × Nat)) : namedOnce l = true ↔ (l.map Prod.fst).Nodup := by
  rw [namedOnce, decide_eq_true_eq]
  constructor
  · intro same
    have whole : distinct (l.map Prod.fst) = l.map Prod.fst := (distinct_sublist _).eq_of_length (by rw [same, List.length_map])
    rw [← whole]
    exact nodup_distinct _
  · intro once
    rw [← List.length_map (f := Prod.fst)]
    exact ((List.perm_ext_iff_of_nodup (nodup_distinct _) once).mpr fun x => mem_distinct).length_eq

theorem mem_inSensorOrder {l : List (Fin 6 × Nat)} {e : Fin 6 × Nat} : e ∈ inSensorOrder l ↔ e ∈ l := by
  simp [inSensorOrder, mem_allSensors]

theorem rising_inSensorOrder {l : List (Fin 6 × Nat)} (once : (l.map Prod.fst).Nodup) :
    (inSensorOrder l).Pairwise fun a b => a.1 < b.1 := by
  have ascending : allSensors.Pairwise (· < ·) := by decide
  refine List.pairwise_flatten.mpr ⟨fun part mem => ?_, ?_⟩
  · obtain ⟨i, -, rfl⟩ := List.mem_map.mp mem
    refine ((List.pairwise_map.mp once).filter _).imp_of_mem fun {a b} ha hb differ => ?_
    simp only [List.mem_filter, decide_eq_true_eq] at ha hb
    exact absurd (ha.2.trans hb.2.symm) differ
  · refine List.pairwise_map.mpr (ascending.imp fun {i j} below a ha b hb => ?_)
    simp only [List.mem_filter, decide_eq_true_eq] at ha hb
    rw [ha.2, hb.2]
    exact below

theorem perm_inSensorOrder {l : List (Fin 6 × Nat)} (once : (l.map Prod.fst).Nodup) : (inSensorOrder l).Perm l :=
  (List.perm_ext_iff_of_nodup ((rising_inSensorOrder once).imp fun below same => absurd (congrArg Prod.fst same) below.ne)
    (List.Nodup.of_map _ once)).mpr fun _ => mem_inSensorOrder

/-- What SET.BEGIN does once its payload is read. -/
theorem exec_setBegin_of_hears {s : State} {n : Fin 4} {l : List (Fin 6 × Nat)} {shift : Nat} (some_named : l ≠ []) (few : l.length ≤ 6)
    (fits : ∀ e ∈ l, e.2 < 65536) (hshift : shift < 4294967296)
    (heard : s.hears .setBegin (u16s (n.val :: l.length :: l.flatMap fun e => [e.1.val, e.2]) ++ u32s [shift]) = true) :
    exec .setBegin s = .next (
      if ¬ (l.map Prod.fst).Nodup ∨ ∃ e ∈ l, e.2 ≠ (s.sensor e.1).config.nSub ∨ e.2 = 0 then s.refuse .badValue
      else if s.mem.nAct = 0 then s.refuse .notReady
      else if s.setInUse n then s.refuse .inUse
      else (s.updSet n fun _ => begun s.mem.nAct l (min 30 shift)).reply (doneOr (decide (min 30 shift ≠ shift)))
        (if decide (min 30 shift ≠ shift) = true then [.u32 (min 30 shift)] else [])) := by
  change execSetBegin s = _
  rw [execSetBegin, runMessage_of_hears heard]
  generalize hp : u16s (n.val :: l.length :: l.flatMap fun e => [e.1.val, e.2]) ++ u32s [shift] = p
  have some_count : 0 < l.length := List.length_pos_iff.mpr some_named
  have length : p.length = 8 + 4 * l.length := by rw [← hp]; simp; omega
  have set : rd16 p 0 = n.val := by rw [← hp]; simp [fin4_mod]
  have count : rd16 p 2 = l.length := by rw [← hp]; simp [Nat.mod_eq_of_lt (show l.length < 65536 by omega)]
  have pairs : rdPairs rd16 p 4 l.length = l.map fun e => (e.1.val, e.2) := by
    have read := rdPairs_u16s (l.map fun e => (e.1.val, e.2)) (beBytes 2 n.val ++ beBytes 2 l.length) (u32s [shift]) fun q hq => by
      obtain ⟨e, he, rfl⟩ := List.mem_map.mp hq
      exact ⟨by have := e.1.isLt; simp; omega, fits e he⟩
    rw [← hp]
    simpa [List.flatMap_map] using read
  have given : rd32 p (4 + 4 * l.length) = shift := by
    have read := rd32_append (u16s (n.val :: l.length :: l.flatMap fun e => [e.1.val, e.2])) (u32s [shift]) 0
    have place : (u16s (n.val :: l.length :: l.flatMap fun e => [e.1.val, e.2])).length + 0 = 4 + 4 * l.length := by simp; omega
    rw [place, hp] at read
    simpa [Nat.mod_eq_of_lt hshift] using read
  have part : rdParticipation p = some l := by
    rw [rdParticipation, count, pairs, List.map_map]
    refine Eq.trans (congrArg allSome (List.map_congr_left fun e _ => ?_)) (allSome_map_some l)
    simp
  have shift30 : clampNat 0 30 shift = min 30 shift := by rw [clampNat_eq_min_max (by decide), Nat.zero_max]
  have bad : (!namedOnce l || l.any fun e => decide (e.2 ≠ (s.sensor e.1).config.nSub) || decide (e.2 = 0)) = true
      ↔ ¬ (l.map Prod.fst).Nodup ∨ ∃ e ∈ l, e.2 ≠ (s.sensor e.1).config.nSub ∨ e.2 = 0 := by
    rw [Bool.or_eq_true, Bool.not_eq_true', ← Bool.not_eq_true, namedOnce_iff, List.any_eq_true]
    simp only [Bool.or_eq_true, decide_eq_true_eq]
  simp only [setBeginAct, length, count, set, toSet_val, part, given, shift30, bad]
  rw [if_neg (by omega)]

/-- Settles O25: the refusals by the branches of the act, the order of the named sensors by the lemmas on inSensorOrder. -/
theorem setBeginAndErase : Obligations.SetBeginAndErase := by
  refine ⟨fun s n l shift some_named few fits hshift heard => ?begin, fun s n heard => ?erase⟩
  case begin =>
    intro bad index used
    have acts := exec_setBegin_of_hears some_named few fits hshift heard
    have used_iff : s.setInUse n = true ↔ used := s.setInUse_iff n
    simp only [used_iff] at acts
    refine ⟨fun h => by rw [acts, if_pos h], fun good none => by rw [acts, if_neg good, if_pos none],
      fun good some_act inUse => by rw [acts, if_neg good, if_neg some_act, if_pos inUse], fun good some_act free => ?_⟩
    have once : (l.map Prod.fst).Nodup := not_not.mp fun repeated => good (.inl repeated)
    refine ⟨inSensorOrder l, rising_inSensorOrder once, perm_inSensorOrder once, ?_⟩
    rw [acts, if_neg good, if_neg some_act, if_neg free]
    by_cases small : shift ≤ 30
    · simp [doneOr, begun, small]
    · have top : min 30 shift = 30 := by omega
      have moved : 30 ≠ shift := by omega
      simp [doneOr, begun, top, small, moved]
  case erase =>
    intro index used
    have acts : exec .setErase s = .next (if (s.setRec n).state = .empty then s.reply .done []
        else if s.setInUse n then s.refuse .inUse
        else (s.updSet n fun _ => SetRecord.erased).reply .done []) := by
      change execSetErase s = _
      simp only [execSetErase, runMessage_of_hears heard, withSet_eq]
    have used_iff : s.setInUse n = true ↔ used := s.setInUse_iff n
    simp only [used_iff] at acts
    refine ⟨fun empty => by rw [acts, if_pos empty], fun inUse => ?_, fun held free => by rw [acts, if_neg held, if_neg free]; rfl⟩
    have complete : (s.setRec n).state ≠ .empty := by
      rw [inUse.1]
      decide
    rw [acts, if_neg complete, if_pos inUse]

/-! ## SET.SELECT and DEG.WRITE (03 R62, R63) -/

/-- The degradation entry that a field up to 4 names. -/
def degEntryOf (v : Nat) : SetId := if h : v < 4 then some ⟨v, h⟩ else none

theorem toDegEntry_of_le {v : Nat} (small : v ≤ 4) : toDegEntry v = some (degEntryOf v) := by
  unfold toDegEntry degEntryOf
  split
  · rfl
  · rw [if_pos (by omega)]

theorem toDegEntry_of_lt {v : Nat} (large : 4 < v) : toDegEntry v = none := by
  rw [toDegEntry, dif_neg (by omega), if_neg (by omega)]

/-- What DEG.WRITE does once its payload is read. -/
theorem exec_degWrite_of_hears {s : State} {first : Nat} {values : List Nat} (hfirst : first < 65536) (some_values : values ≠ [])
    (few : values.length ≤ 64) (fits : ∀ v ∈ values, v < 65536)
    (heard : s.hears .degWrite (u16s (first :: values.length :: values)) = true) :
    exec .degWrite s = .next (if 64 < first + values.length then s.refuse .badValue
      else match allSome (values.map toDegEntry) with
        | none => s.refuse .badValue
        | some entries =>
          ({ s with cyc := { s.cyc with degTable := writeEntries s.cyc.degTable first entries } } : State).reply .done []) := by
  have some_count : 0 < values.length := List.length_pos_iff.mpr some_values
  have start : rd16 (u16s (first :: values.length :: values)) 0 = first := by simp [Nat.mod_eq_of_lt hfirst]
  have count : rd16 (u16s (first :: values.length :: values)) 2 = values.length := by
    simp [Nat.mod_eq_of_lt (show values.length < 65536 by omega)]
  have length : (u16s (first :: values.length :: values)).length = 4 + 2 * values.length := by simp; omega
  have read := rd16s_of_two first values.length fits
  change execDegWrite s = _
  simp only [execDegWrite, runMessage_of_hears heard, start, count, length, read]
  rw [if_neg (by omega)] <;> rfl

theorem getElem_writeEntries (t : Vector SetId 64) (first : Nat) (entries : List SetId) (j : Fin 64) :
    (writeEntries t first entries)[j] = if first ≤ j.val then (entries[j.val - first]?).getD t[j] else t[j] := by
  simp [writeEntries]

/-- Settles O28: SET.SELECT by its mode, DEG.WRITE by whether every value names an entry. -/
theorem selectionAndTable : Obligations.SelectionAndTable := by
  refine fun s => ⟨fun mode n hmode hn heard => ?select, fun first values hfirst some_values few fits heard => ?write⟩
  case select =>
    have acts : exec .setSelect s = .next (match toSelection mode n with
        | none => s.refuse .badValue
        | some sel => if s.selectable sel then ({ s with cyc := { s.cyc with selection := sel } } : State).reply .done []
          else s.refuse .notReady) := by
      have read0 : rd16 (u16s [mode, n]) 0 = mode := by simp [Nat.mod_eq_of_lt hmode]
      have read2 : rd16 (u16s [mode, n]) 2 = n := by simp [Nat.mod_eq_of_lt hn]
      have length : (u16s [mode, n]).length = 4 := by simp
      change execSetSelect s = _
      simp only [execSetSelect, runMessage_of_hears heard, length, read0, read2, ne_eq, not_true_eq_false, if_false] <;> rfl
    refine ⟨fun auto => ?_, fun unnamed => ?_, fun m fixed named other => ?_, fun m fixed named complete => ?_⟩
    · subst auto
      exact acts
    · rcases unnamed with large | ⟨rfl, large⟩
      · have no_mode : toSelection mode n = none := by
          match mode, large with
          | mode + 2, _ => rfl
        rw [acts, no_mode]
      · have no_set : toSelection 1 n = none := by simp [toSelection, toSet, Nat.not_lt.mpr large]
        rw [acts, no_set]
    · subst fixed named
      have named : toSelection 1 m.val = some (.fixed m) := by simp [toSelection]
      rw [acts, named]
      simp [State.selectable, other]
    · subst fixed named
      have named : toSelection 1 m.val = some (.fixed m) := by simp [toSelection]
      rw [acts, named]
      simp [State.selectable, complete]
  case write =>
    have acts := exec_degWrite_of_hears hfirst some_values few fits heard
    refine ⟨?_, fun inside small => ?_⟩
    · rintro (beyond | ⟨v, hv, large⟩)
      · rw [acts, if_pos beyond]
      · have missing : allSome (values.map toDegEntry) = none :=
          allSome_of_none_mem (List.mem_map.mpr ⟨v, hv, toDegEntry_of_lt large⟩)
        rw [acts, missing]
        simp
    · have entries : allSome (values.map toDegEntry) = some (values.map degEntryOf) := by
        refine Eq.trans (congrArg allSome ?_) (allSome_map_some _)
        rw [List.map_map]
        exact List.map_congr_left fun v hv => toDegEntry_of_le (small v hv)
      refine ⟨writeEntries s.cyc.degTable first (values.map degEntryOf), by rw [acts, if_neg (by omega), entries], fun j => ?_⟩
      rw [getElem_writeEntries]
      by_cases from_first : first ≤ j.val
      · rw [if_pos from_first]
        by_cases within : j.val < first + values.length
        · have inside' : j.val - first < values.length := by omega
          rw [if_pos ⟨from_first, within⟩]
          simp [inside', degEntryOf]
        · have outside : ¬ j.val - first < values.length := by omega
          rw [if_neg (fun both => within both.2)]
          simp [outside]
      · rw [if_neg from_first, if_neg (fun both => from_first both.1)]

end Sys2Proof.Machine

/-! The monitor lines, the neighbour list and the reports. -/

namespace Sys2Proof.Machine

-- One theorem at a time: each worker thread reserves memory of its own.
set_option Elab.async false

/-! ## Monitor lines (09 R179, R180) -/

/-- When a source is active, source by source (09 Table 9.8). -/
theorem State.monActive_iff (s : State) (source : MonSource) :
    s.monActive source = true ↔ match source with
      | .loopClosed => s.loop.state = .closed
      | .loopHeld => s.loop.state = .held
      | .loopSafe => s.loop.state = .safe
      | .cycleOpen => ∃ k ∈ s.cyc.cycles, k.state = .accumulating
      | .lawActive => s.law.inProgress ≠ none
      | .sensorLost => ∃ i, (s.sensor i).mode = .lost
      | .saturated => 0 < s.law.satCount
      | .driveBusy => ∃ d, (s.driveLink d).state = .busy
      | .deadlineClose => s.mon.deadlineClose = true
      | .snapFull => s.mon.snapState = .full
      | .calRunning => s.cal.running = true
      | .notify => s.ntfnLow = true := by
  cases source with
  | lawActive => cases h : s.law.inProgress <;> simp [State.monActive, h]
  | sensorLost => simp [State.monActive, mem_allSensors]
  | driveBusy => simp [State.monActive, mem_allLinks]
  | _ => simp [State.monActive]

theorem State.monHigh_iff (s : State) (l : MonLine) :
    s.monHigh l = true ↔ if l.activeHigh = true then s.monActive l.source = true else ¬ s.monActive l.source = true := by
  unfold State.monHigh
  split <;> simp

theorem toMonSource_eq_none {n : Nat} (h : 12 ≤ n) : toMonSource n = none := by
  match n, h with
  | n + 12, _ => rfl

theorem toPolarity_eq_none {n : Nat} (h : 2 ≤ n) : toPolarity n = none := by
  match n, h with
  | n + 2, _ => rfl

theorem toPolarity_of_lt {n : Nat} (h : n < 2) : toPolarity n = some (decide (n = 0)) := by
  match n, h with
  | 0, _ => rfl
  | 1, _ => rfl

/-- What MON.SELECT does once its payload is read. -/
theorem exec_monSelect_of_hears {s : State} {line source polarity : Nat} (hline : line < 65536) (hsource : source < 65536)
    (hpolarity : polarity < 65536) (heard : s.hears .monSelect (u16s [line, source, polarity]) = true) :
    exec .monSelect s = .next (match toMonSource source, toPolarity polarity with
      | some x, some high =>
        match line with
        | 0 => ({ s with mon := { s.mon with line0 := { source := x, activeHigh := high } } } : State).reply .done []
        | 1 => ({ s with mon := { s.mon with line1 := { source := x, activeHigh := high } } } : State).reply .done []
        | _ => s.refuse .badValue
      | _, _ => s.refuse .badValue) := by
  have read0 : rd16 (u16s [line, source, polarity]) 0 = line := by simp [Nat.mod_eq_of_lt hline]
  have read2 : rd16 (u16s [line, source, polarity]) 2 = source := by simp [Nat.mod_eq_of_lt hsource]
  have read4 : rd16 (u16s [line, source, polarity]) 4 = polarity := by simp [Nat.mod_eq_of_lt hpolarity]
  have length : (u16s [line, source, polarity]).length = 6 := by simp
  change execMonSelect s = _
  simp only [execMonSelect, runMessage_of_hears heard, monSelectAct, length, read0, read2, read4, ne_eq, not_true_eq_false, if_false]
  rcases toMonSource source with _ | x
  · rfl
  · rcases toPolarity polarity with _ | high
    · rfl
    · rcases line with _ | _ | line <;> rfl

/-- Settles O53: the lines by their source, MON.SELECT by the branches of its act, DEV.CLEAR by what stays until changed. -/
theorem monitorLines : Obligations.MonitorLines := by
  intro s active code
  have active_iff (x : MonSource) : s.monActive x = true ↔ active x := s.monActive_iff x
  refine ⟨?_, ?_, fun line source polarity hline hsource hpolarity heard => ?select, fun t clears => ?clear⟩
  · rw [← active_iff]
    exact s.monHigh_iff _
  · rw [← active_iff]
    exact s.monHigh_iff _
  case select =>
    have acts := exec_monSelect_of_hears hline hsource hpolarity heard
    refine ⟨?_, fun x named low => ?_⟩
    · rintro (large | large | large)
      · rw [acts]
        split
        · match line, large with
          | line + 2, _ => rfl
        · rfl
      · rw [acts, toMonSource_eq_none large]
      · rw [acts, toPolarity_eq_none large]
        split
        · next h => cases h
        · rfl
    · have source_code : toMonSource source = some x := by
        rw [named]
        cases x <;> rfl
      rw [acts, source_code, toPolarity_of_lt low]
      exact ⟨fun first => by subst first; rfl, fun second => by subst second; rfl⟩
  case clear =>
    obtain ⟨-, stays⟩ := whatStaysUntilChanged
    obtain ⟨-, -, -, -, -, -, -, -, -, -, -, -, lines, -⟩ := stays _ s t clears (by simp)
    simpa using lines

/-! ## The neighbour list (05 R111, R112) -/

theorem LoopState.editsNeighbours_iff (l : LoopState) : l.editsNeighbours = true ↔ l = .idle ∨ l = .opened := by
  simp [LoopState.editsNeighbours]

theorem orderedPair_eq (q : Nat × Nat) : orderedPair q = if q.1 < q.2 then q else (q.2, q.1) := by
  unfold orderedPair
  split
  · next h => simp [h.le]
  · next h => simp [Nat.not_lt.mp h]

/-- What NBR.ADD does once its payload is read. -/
theorem exec_nbrAdd_of_hears {s : State} {given : List (Nat × Nat)} (some_given : given ≠ []) (few : given.length < 65536)
    (fits : ∀ q ∈ given, q.1 < 65536 ∧ q.2 < 65536)
    (heard : s.hears .nbrAdd (u16s (given.length :: given.flatMap fun q => [q.1, q.2])) = true) :
    exec .nbrAdd s = .next (
      if ¬ s.loop.state.editsNeighbours = true then s.refuse .wrongState
      else if ∃ q ∈ given, q.1 = q.2 ∨ s.mem.nAct ≤ q.1 ∨ s.mem.nAct ≤ q.2 then s.refuse .badValue
      else if 6144 < s.law.neighbours.length + (newPairs s.law.neighbours given).length then s.refuse .full
      else ({ s with law := { s.law with neighbours := s.law.neighbours ++ newPairs s.law.neighbours given } } : State).reply
        .done []) := by
  have some_count : 0 < given.length := List.length_pos_iff.mpr some_given
  have count : rd16 (u16s (given.length :: given.flatMap fun q => [q.1, q.2])) 0 = given.length := by
    simp [Nat.mod_eq_of_lt few]
  have length : (u16s (given.length :: given.flatMap fun q => [q.1, q.2])).length = 2 + 4 * given.length := by simp; omega
  have pairs : rdPairs rd16 (u16s (given.length :: given.flatMap fun q => [q.1, q.2])) 2 given.length = given := by
    simpa using rdPairs_u16s given (beBytes 2 given.length) [] fits
  change execNbrAdd s = _
  simp only [execNbrAdd, runMessage_of_hears heard, nbrAddAct, count, length, pairs, List.length_append, List.any_eq_true,
    Bool.or_eq_true, decide_eq_true_eq, or_assoc, Bool.not_eq_true', Bool.not_eq_true, Config.maxPairs]
  rw [if_neg (by omega)]

/-- Settles O37: the list grows by the distinct pairs that it lacks. -/
theorem neighbourListEdits : Obligations.NeighbourListEdits := by
  intro s given some_given few fits nodup old pair bad grown edits
  have edits_iff : s.loop.state.editsNeighbours = true ↔ edits := LoopState.editsNeighbours_iff _
  have ordered : given.map orderedPair = given.map pair := List.map_congr_left fun q _ => orderedPair_eq q
  refine ⟨fun heard => ?add, fun heard => ?clear⟩
  case add =>
    have acts := exec_nbrAdd_of_hears some_given few fits heard
    have count : s.law.neighbours.length + (newPairs s.law.neighbours given).length = grown := by
      rw [newPairs, length_append_distinct nodup fun _ => decide_eq_true_iff, ordered]
    simp only [count, edits_iff] at acts
    refine ⟨fun h => by rw [acts, if_pos h], fun h hbad => by rw [acts, if_neg (not_not.mpr h), if_pos hbad],
      fun h good large => by rw [acts, if_neg (not_not.mpr h), if_neg good, if_pos large], fun h good room => ?_⟩
    refine ⟨newPairs old given, by rw [acts, if_neg (not_not.mpr h), if_neg good, if_neg (by omega)], ?_, fun q hq => ?_, fun q => ?_, ?_⟩
    · exact nodup_append_distinct nodup (fun _ => decide_eq_true_iff) _
    · rw [newPairs, mem_distinct, List.mem_filter, ordered, List.mem_map] at hq
      obtain ⟨⟨g, hg, rfl⟩, -⟩ := hq
      have differ : g.1 ≠ g.2 := fun same => good ⟨g, hg, .inl same⟩
      dsimp only [pair]
      split
      · assumption
      · simp only
        omega
    · rw [newPairs, mem_append_distinct fun _ => decide_eq_true_iff, ordered, List.mem_map]
      simp only [eq_comm]
    · rw [newPairs, ordered]
      exact (distinct_sublist _).trans List.filter_sublist
  case clear =>
    have acts : exec .nbrClear s = .next (if ¬ s.loop.state.editsNeighbours = true then s.refuse .wrongState
        else ({ s with law := { s.law with neighbours := [] } } : State).reply .done []) := by
      change execNbrClear s = _
      simp [execNbrClear, runMessage_of_hears heard]
    simp only [edits_iff] at acts
    exact ⟨fun h => by rw [acts, if_pos h], fun h => by rw [acts, if_neg (not_not.mpr h)]⟩

end Sys2Proof.Machine

/-! The reports of every block. -/

namespace Sys2Proof.Machine

-- One theorem at a time: each worker thread reserves memory of its own.
set_option Elab.async false

section Reports

variable {s : State} {i : Fin 6} {first count : Nat}

theorem exec_snsStatus_of_hears (heard : s.hears .snsStatus (u16s [i.val]) = true) :
    exec .snsStatus s = .next (s.reply .done (statusFields (s.sensor i))) := by
  change execSnsStatus s = _
  simp only [execSnsStatus, runMessage_of_hears heard, withSensor_eq]

theorem exec_snsExclList_of_hears (heard : s.hears .snsExclList (u16s [i.val]) = true) :
    exec .snsExclList s
      = .next (s.reply .done ([.u16 (s.sensor i).exclusion.length] ++ ((s.sensor i).exclusion.map Field.u16))) := by
  change execSnsExclList s = _
  simp only [execSnsExclList, runMessage_of_hears heard, withSensor_eq]

theorem exec_refRead_of_hears {role : Nat} (hrole : role < 65536) (hfirst : first < 65536) (hcount : count < 65536)
    (heard : s.hears .refRead (u16s [i.val, role, first, count]) = true) :
    exec .refRead s = .next (match (s.sensor i).rolePage role with
      | none => s.refuse .badValue
      | some page =>
        if 2048 < first + count then s.refuse .badValue
        else s.reply .done (((vslice ((s.sensor i).page page) first count).map Field.s16)
          ++ [.u16 page.val, yesNo (s.sensor i).commitPending])) := by
  have read0 : rd16 (u16s [i.val, role, first, count]) 0 = i.val := by simp [fin6_mod]
  have read2 : rd16 (u16s [i.val, role, first, count]) 2 = role := by simp [Nat.mod_eq_of_lt hrole]
  have read4 : rd16 (u16s [i.val, role, first, count]) 4 = first := by simp [Nat.mod_eq_of_lt hfirst]
  have read6 : rd16 (u16s [i.val, role, first, count]) 6 = count := by simp [Nat.mod_eq_of_lt hcount]
  have length : (u16s [i.val, role, first, count]).length = 8 := by simp
  change execRefRead s = _
  simp only [execRefRead, runMessage_of_hears heard, refReadAct, read0, read2, read4, read6, length, toSensor_val, ne_eq,
    not_true_eq_false, if_false] <;> rfl

theorem exec_setStatus_of_hears {n : Fin 4} (heard : s.hears .setStatus (u16s [n.val]) = true) :
    exec .setStatus s = .next (s.reply .done (s.setStatusFields n)) := by
  change execSetStatus s = _
  simp only [execSetStatus, runMessage_of_hears heard, withSet_eq]

/-- The range fields of a read message. -/
theorem rangePayload_reads (hfirst : first < 65536) (hcount : count < 65536) :
    (u16s [first, count]).length = 4 ∧ rd16 (u16s [first, count]) 0 = first ∧ rd16 (u16s [first, count]) 2 = count :=
  ⟨by simp, by simp [Nat.mod_eq_of_lt hfirst], by simp [Nat.mod_eq_of_lt hcount]⟩

theorem exec_degRead_of_hears (hfirst : first < 65536) (positive : 1 ≤ count) (few : count ≤ 64)
    (heard : s.hears .degRead (u16s [first, count]) = true) :
    exec .degRead s = .next (if 64 < first + count then s.refuse .badValue
      else s.reply .done (((List.range count).map fun j => .u16 (setCode (s.degEntry (first + j))))
        ++ [.u16 (sensorMask s.presence), yesNo s.cyc.degraded])) := by
  obtain ⟨length, read0, read2⟩ := rangePayload_reads hfirst (show count < 65536 by omega)
  change execDegRead s = _
  simp only [execDegRead, runMessage_of_hears heard, read0, read2, length]
  rw [if_neg (by omega)]

theorem exec_actRead_of_hears (hfirst : first < 65536) (positive : 1 ≤ count) (hcount : count < 65536)
    (heard : s.hears .actRead (u16s [first, count]) = true) :
    exec .actRead s = .next (if s.mem.nAct < first + count then s.refuse .badValue
      else if 8192 < dataWidth ((List.range count).map fun k => s.actFields (first + k)).flatten then s.refuse .badForm
      else s.reply .done ((List.range count).map fun k => s.actFields (first + k)).flatten) := by
  obtain ⟨length, read0, read2⟩ := rangePayload_reads hfirst hcount
  change execActRead s = _
  simp only [execActRead, runMessage_of_hears heard, read0, read2, length, Config.maxPayload]
  rw [if_neg (by omega)]

theorem exec_nbrRead_of_hears (hfirst : first < 65536) (hcount : count < 65536)
    (heard : s.hears .nbrRead (u16s [first, count]) = true) :
    exec .nbrRead s = .next (if ¬ s.loop.state.editsNeighbours = true then s.refuse .wrongState
      else if s.law.neighbours.length < first + count then s.refuse .badValue
      else if 8192 < dataWidth ([Field.u16 s.law.neighbours.length] ++ pairFields ((s.law.neighbours.drop first).take count)) then
        s.refuse .badForm
      else s.reply .done ([Field.u16 s.law.neighbours.length] ++ pairFields ((s.law.neighbours.drop first).take count))) := by
  obtain ⟨length, read0, read2⟩ := rangePayload_reads hfirst hcount
  change execNbrRead s = _
  simp only [execNbrRead, runMessage_of_hears heard, read0, read2, length, Config.maxPayload, Bool.not_eq_true', Bool.not_eq_true,
    ne_eq, not_true_eq_false, if_false]

end Reports

/-! ## Widths of replies -/

@[simp] theorem dataWidth_nil : dataWidth [] = 0 := rfl

@[simp] theorem dataWidth_cons (f : Field) (l : List Field) : dataWidth (f :: l) = fieldWidth f + dataWidth l := rfl

@[simp] theorem dataWidth_append (a b : List Field) : dataWidth (a ++ b) = dataWidth a + dataWidth b := by
  simp [dataWidth]

theorem dataWidth_flatten_map {α : Type} {f : α → List Field} {w : Nat} (each : ∀ x, dataWidth (f x) = w) (l : List α) :
    dataWidth (l.map f).flatten = w * l.length := by
  induction l with
  | nil => rfl
  | cons x l ih => simp [ih, each]; ring

theorem State.actFields_eq (s : State) (i : Nat) :
    s.actFields i =
      [.s16 (s.act i).lo, .s16 (s.act i).hi, .s16 (s.act i).flat, .u16 (s.act i).gain, .u16 (actModeCode (s.act i).mode),
        .s32 (vget s.law.z i), .u16 (vget s.law.committed i).toNat, .u16 (boolCode (s.law.satFlags.getD i false)),
        .u16 (boolCode (s.law.idlePokes.any fun e => decide (e.1 = i))),
        .s16 (((s.law.idlePokes.find? fun e => decide (e.1 = i)).map Prod.snd).getD 0)] := by
  have found : (s.law.idlePokes.any fun e => decide (e.1 = i)) = (s.law.idlePokes.find? fun e => decide (e.1 = i)).isSome := by
    rw [Bool.eq_iff_iff, List.find?_isSome, List.any_eq_true]
  rw [State.actFields, State.idlePoke, found]
  cases s.law.idlePokes.find? fun e => decide (e.1 = i) <;> rfl

theorem dataWidth_actFields (s : State) (i : Nat) : dataWidth (s.actFields i) = 22 := by
  rw [State.actFields_eq]
  rfl

/-- Pairs of the list from a position onward, as their places in the list. -/
theorem pairFields_drop_take {l : List (Nat × Nat)} {first count : Nat} (inside : first + count ≤ l.length) :
    pairFields ((l.drop first).take count)
      = (List.range count).flatMap fun j => [Field.u16 (l.getD (first + j) (0, 0)).1, .u16 (l.getD (first + j) (0, 0)).2] := by
  have slice : (l.drop first).take count = (List.range count).map fun j => l.getD (first + j) (0, 0) := by
    refine List.ext_getElem (by simp; omega) fun k hk _ => ?_
    have within : first + k < l.length := by simp at hk; omega
    simp [within]
  rw [pairFields, slice, List.map_map, List.flatMap_def]
  rfl

theorem dataWidth_pairFields (l : List (Nat × Nat)) : dataWidth (pairFields l) = 4 * l.length :=
  dataWidth_flatten_map (f := fun q : Nat × Nat => [Field.u16 q.1, .u16 q.2]) (fun _ => rfl) l

/-- Settles O59: each report's fields are those of its rule, and each refusal a branch of its act. -/
theorem tableReportsGiveTheTables : Obligations.TableReportsGiveTheTables := by
  refine ⟨fun s i => ?sensors, fun s => ?sets, fun s first count hfirst positive hcount => ?tables⟩
  case sensors =>
    intro x
    refine ⟨fun heard => ?_, fun heard => ?_, fun role first count hrole hfirst hcount heard => ?_⟩
    · rw [exec_snsStatus_of_hears heard]
      simp [statusFields, configFields, yesNo, x]
    · rw [exec_snsExclList_of_hears heard]
      rfl
    · intro page
      have acts := exec_refRead_of_hears hrole hfirst hcount heard
      refine ⟨?_, fun low inside => ?_⟩
      · rintro (large | beyond)
        · have no_page : (s.sensor i).rolePage role = none := by
            match role, large with
            | role + 2, _ => rfl
          rw [acts, no_page]
        · rw [acts]
          split
          · rfl
          · rw [if_pos beyond]
      · have role_page : (s.sensor i).rolePage role = some page := by
          rcases (show role = 0 ∨ role = 1 by omega) with rfl | rfl <;> rfl
        rw [acts, role_page]
        simp only [if_neg (Nat.not_lt.mpr inside), vslice, List.map_map]
        rfl
  case sets =>
    intro index entry
    have index_eq : sensorMask s.presence = index := s.sensorMask_presence
    refine ⟨fun n heard => ?_, fun first count hfirst positive few heard => ⟨fun beyond => ?_, fun inside => ?_⟩⟩
    · intro r
      have current : s.currentEntry = entry index := congrArg s.degEntry index_eq
      have bound : s.setBound n = s.cyc.cycles.countP fun k => decide (k.set = some n) := by
        rw [State.setBound, List.countP_eq_length_filter]
      rw [exec_setStatus_of_hears heard]
      simp only [State.setStatusFields, participationFields, yesNo, current, bound]
      simp only [List.flatten_cons, List.flatten_nil, List.append_assoc, List.cons_append, List.nil_append, List.append_nil]
      rfl
    · rw [exec_degRead_of_hears hfirst positive few heard, if_pos beyond]
    · have code (e : SetId) : setCode e = match e with | some n => n.val | none => 4 := by cases e <;> rfl
      rw [exec_degRead_of_hears hfirst positive few heard, if_neg (Nat.not_lt.mpr inside), index_eq]
      simp only [code]
      rfl
  case tables =>
    refine ⟨fun heard => ?_, fun heard => ?_⟩
    · have acts := exec_actRead_of_hears hfirst positive hcount heard
      have width : dataWidth ((List.range count).map fun k => s.actFields (first + k)).flatten = 22 * count := by
        rw [dataWidth_flatten_map (fun k => dataWidth_actFields s (first + k)), List.length_range]
      rw [width] at acts
      refine ⟨fun beyond => by rw [acts, if_pos beyond], fun inside long => by rw [acts, if_neg (by omega), if_pos long],
        fun inside short => ?_⟩
      rw [acts, if_neg (by omega), if_neg (by omega), List.flatMap_def]
      simp only [State.actFields_eq]
    · intro edits
      have acts := exec_nbrRead_of_hears hfirst hcount heard
      have edits_iff : s.loop.state.editsNeighbours = true ↔ edits := LoopState.editsNeighbours_iff _
      simp only [edits_iff] at acts
      refine ⟨fun h => by rw [acts, if_pos h], fun h beyond => by rw [acts, if_neg (not_not.mpr h), if_pos beyond],
        fun h inside long => ?_, fun h inside short => ?_⟩
      all_goals
        have width : dataWidth ([Field.u16 s.law.neighbours.length] ++ pairFields ((s.law.neighbours.drop first).take count))
            = 2 + 4 * count := by
          have taken : ((s.law.neighbours.drop first).take count).length = count := by simp; omega
          rw [dataWidth_append, dataWidth_pairFields, taken]
          rfl
        rw [acts, width, if_neg (not_not.mpr h), if_neg (by omega)]
      · rw [if_pos long]
      · rw [if_neg (by omega), pairFields_drop_take inside]
        rfl

/-! ## The states of the blocks (02 R52, 06 R133, 07 R147, 08 R163, 09 R167) -/

theorem optFn_eq (fn : Option Half) : optFn fn = match fn with | none => [.u16 0, .u16 0] | some f => [.u16 1, .u16 f.toNat] := by
  cases fn <;> rfl

/-- The free value that CYC.STATUS draws for a bank's timer. -/
def State.bankTime (s : State) (b : Bank) : Nat := Config.timeRemaining (s.freeCount + bankCode b)

/-- The free value that DRV.STATUS draws for a link's timer. -/
def State.linkTime (s : State) (d : Fin 4) : Nat := Config.timeRemaining (s.freeCount + d.val)

theorem State.cycleFields_eq (s : State) (k : Cycle) : s.cycleFields k = List.flatten
    [ [.u16 k.fn.toNat, .u16 (bankCode k.bank), .u16 (cycleCode k.state), .u16 (setCode k.set)],
      allSensors.map fun i => .u16 k.binding[i].val,
      [.u16 (sensorMask k.expected), .u16 (sensorMask k.presence)],
      allSensors.map fun i => .u16 (settlementCode k.settlement[i]),
      allSensors.map fun i => .u16 (boolCode k.settlement[i].isExcused),
      [.u16 (boolCode k.calMark)],
      match k.closeReason with | none => [.u16 0, .u16 0] | some r => [.u16 1, .u16 (closeCode r)],
      match k.deadline with | none => [.u16 0, .u32 0] | some d => [.u16 1, .u32 (min d (s.bankTime k.bank))],
      [.u16 k.outstanding, .u16 (boolCode k.abandoned)] ] := by
  have reason : optField .u16 (k.closeReason.map closeCode)
      = match k.closeReason with | none => [.u16 0, .u16 0] | some r => [.u16 1, .u16 (closeCode r)] := by
    cases k.closeReason <;> rfl
  have timer : optField .u32 (k.deadline.map fun started => s.timeLeft (bankCode k.bank) started)
      = match k.deadline with | none => [.u16 0, .u32 0] | some d => [.u16 1, .u32 (min d (s.bankTime k.bank))] := by
    cases k.deadline <;> rfl
  rw [State.cycleFields, reason, timer]
  rfl

theorem State.linkFields_eq (s : State) (d : Fin 4) : s.linkFields d = List.flatten
    [ [.u16 (linkCode (s.driveLink d).state), .u16 (768 * d.val), .u16 (min 768 (s.mem.nAct - 768 * d.val)),
        .u16 (s.driveLink d).seq.toNat],
      match (s.driveLink d).lastAccepted with | none => [.u16 0, .u16 0] | some a => [.u16 1, .u16 a.toNat],
      [.u16 (boolCode (s.driveLink d).waiting), .u16 (boolCode (s.driveLink d).upToDate), .u16 (s.driveLink d).failCount],
      match (s.driveLink d).timer with | none => [.u16 0, .u32 0] | some a => [.u16 1, .u32 (min a (s.linkTime d))] ] := by
  have accepted : optField .u16 ((s.driveLink d).lastAccepted.map BitVec.toNat)
      = match (s.driveLink d).lastAccepted with | none => [.u16 0, .u16 0] | some a => [.u16 1, .u16 a.toNat] := by
    cases (s.driveLink d).lastAccepted <;> rfl
  have timer : optField .u32 ((s.driveLink d).timer.map fun started => s.timeLeft d.val started)
      = match (s.driveLink d).timer with | none => [.u16 0, .u32 0] | some a => [.u16 1, .u32 (min a (s.linkTime d))] := by
    cases (s.driveLink d).timer <;> rfl
  simp only [State.linkFields, accepted, timer]
  rfl

/-- The effective hold by its sources (06 R125). -/
theorem State.effectiveHold_eq (s : State) :
    s.effectiveHold = (s.loop.command || s.cyc.degraded || s.loop.diverge
      || (decide (s.loop.params.exclusivity = .shared) && (s.loop.holdnLow || s.loop.inband))) := by
  cases h : s.loop.params.exclusivity <;>
    simp [State.effectiveHold, HoldSet.any, State.holding, HoldSet.inter, State.sources, counting, h]
  cases s.loop.command <;> cases s.cyc.degraded <;> cases s.loop.diverge <;> simp

/-- Settles O60: each report's fields are those of its rule. -/
theorem statusReportsGiveTheState : Obligations.StatusReportsGiveTheState := by
  refine ⟨fun s heard => ⟨s.bankTime, ?cycles⟩, fun s heard => ?loop, fun s heard => ⟨s.linkTime, ?links⟩, fun s heard => ?cal,
    fun s heard => ?stat⟩
  case cycles =>
    intro record marked
    have last_set : optField .u16 (s.cyc.lastSet.map setCode)
        = match s.cyc.lastSet with | none => [.u16 0, .u16 0] | some n => [.u16 1, .u16 (setCode n)] := by
      cases s.cyc.lastSet <;> rfl
    have selection : selectionFields s.cyc.selection
        = match s.cyc.selection with | .auto => [.u16 0, .u16 0] | .fixed n => [.u16 1, .u16 n.val] := by
      cases s.cyc.selection <;> rfl
    have records : s.cycleFields = record := funext s.cycleFields_eq
    change execCycStatus s = _
    simp only [execCycStatus, runMessage_of_hears heard, State.cycStatusFields, records, optFn_eq, last_set, selection, yesNo,
      List.length_nil, ne_eq, not_true_eq_false, if_false]
    rfl
  case loop =>
    intro shared yes q
    have last_set : optField .u16 (s.cyc.lastSet.map setCode)
        = match s.cyc.lastSet with | none => [.u16 0, .u16 0] | some n => [.u16 1, .u16 (setCode n)] := by
      cases s.cyc.lastSet <;> rfl
    have run : runFields s.law.inProgress
        = match s.law.inProgress with
          | none => [.u16 0, .u16 0, .u16 0]
          | some run => [.u16 1, .u16 run.fn.toNat, .u16 (lawModeCode run.mode)] := by
      cases s.law.inProgress <;> rfl
    have counts : counting s.loop.params.exclusivity
        = { command := true, pin := shared, inband := shared, degraded := true, diverge := true } := by
      dsimp only [shared]
      cases s.loop.params.exclusivity <;> rfl
    change execLoopStatus s = _
    simp only [execLoopStatus, runMessage_of_hears heard, noPayload, State.loopStatusFields, counts, optFn_eq, last_set, run,
      s.effectiveHold_eq, List.length_nil, ne_eq, not_true_eq_false, if_false]
    rfl
  case links =>
    intro report
    have reports : s.linkFields = report := funext s.linkFields_eq
    change execDrvStatus s = _
    simp only [execDrvStatus, runMessage_of_hears heard, reports, List.length_nil, ne_eq, not_true_eq_false, if_false]
    rfl
  case cal =>
    intro c opt
    have reason : optField .u16 (c.endReason.map endCode)
        = match c.endReason with | none => [.u16 0, .u16 0] | some r => [.u16 1, .u16 (endCode r)] := by
      cases c.endReason <;> rfl
    have phase : (c.phase.map phaseCode).getD 0 = match c.phase with | some p => phaseCode p | none => 0 := by
      cases c.phase <;> rfl
    have complete : (c.records.filter fun r => r.complete).length = c.records.countP fun r => r.complete := by
      rw [List.countP_eq_length_filter]
    change execCalStatus s = _
    simp only [execCalStatus, runMessage_of_hears heard, calStatusFields, runningFields, sensorFields,
      List.length_nil, ne_eq, not_true_eq_false, if_false, List.flatMap_def]
    change Host.Outcome.next (s.reply .done _) = Host.Outcome.next (s.reply .done _)
    rw [reason, phase, complete]
    simp only [List.flatten_cons, List.cons_append, List.nil_append]
    rfl
  case stat =>
    intro perSensor perLink
    change execStatRead s = _
    simp only [execStatRead, runMessage_of_hears heard, List.length_nil, ne_eq, not_true_eq_false, if_false]
    rfl

end Sys2Proof.Machine

/-! Commits, rest requests and what the loop, drive and calibration messages do through them. -/

namespace Sys2Proof.Machine

-- One theorem at a time: each worker thread reserves memory of its own.
set_option Elab.async false

/-! ## The output vector and its commit (05 R99, R100; 07 R136 to R138) -/

theorem roundHalfUp_eight (x : Int) : roundHalfUp x 8 = (x + 128) / 256 := by
  simp [roundHalfUp]

theorem roundHalfUp_mul_256 (x : Int) : roundHalfUp (256 * x) 8 = x := by
  rw [roundHalfUp_eight]
  omega

theorem clampInt_code (x : Int) : clampInt 0 65535 x = max 0 (min 65535 x) := clampInt_eq_max_min (by decide) x

/-- The codes depend on the actuators, the integrators, the pokes and the loop state alone. -/
theorem State.outputValue_congr {s t : State} (actuators : t.law.actuators = s.law.actuators) (z : t.law.z = s.law.z)
    (idle : t.law.idlePokes = s.law.idlePokes) (cal : t.law.calPoke = s.law.calPoke) (loop : t.loop.state = s.loop.state) :
    t.outputValue = s.outputValue := by
  funext i
  simp only [State.outputValue, State.act, State.pokeInForce, actuators, z, idle, cal, loop] <;> rfl

theorem State.codeOf_congr {s t : State} (actuators : t.law.actuators = s.law.actuators) (z : t.law.z = s.law.z)
    (idle : t.law.idlePokes = s.law.idlePokes) (cal : t.law.calPoke = s.law.calPoke) (loop : t.loop.state = s.loop.state) :
    t.codeOf = s.codeOf := by
  funext i
  simp only [State.codeOf, State.outputValue_congr actuators z idle cal loop, State.act, actuators]

theorem State.codeOf_commitVector (s : State) : s.commitVector.codeOf = s.codeOf := State.codeOf_congr rfl rfl rfl rfl rfl

theorem State.committed_commitVector (s : State) :
    s.commitVector.law = { s.law with committed := (List.range s.mem.nAct).map s.commitVector.codeOf } := by
  rw [State.codeOf_commitVector]
  rfl

@[simp] theorem State.driveLink_handToLinks (s : State) (d : Fin 4) :
    s.handToLinks.driveLink d = linkCommit s.drive.tAck d (linkCodes s.law.committed s.mem.nAct d) (s.driveLink d) := by
  simp [State.driveLink, State.handToLinks]

theorem State.driveLink_commitVector (s : State) (d : Fin 4) :
    s.commitVector.driveLink d
      = linkCommit s.drive.tAck d (linkCodes s.commitVector.law.committed s.mem.nAct d) (s.driveLink d) :=
  State.driveLink_handToLinks _ d

theorem State.foreignCommit_of_not_measuring {s : State} (idle : s.cal.measuring = false) : s.foreignCommit = s := by
  simp [State.foreignCommit, idle]

theorem State.commit_of_not_measuring {s : State} (idle : s.cal.measuring = false) : s.commit = s.commitVector :=
  State.foreignCommit_of_not_measuring idle

theorem Calibration.measuring_of_not_running {c : Calibration} (idle : c.running = false) : c.measuring = false := by
  simp [Calibration.measuring, idle]

/-- A foreign commit changes the calibration unit alone (08 R157). -/
theorem State.foreignCommit_eq (s : State) : s.foreignCommit = { s with cal := s.foreignCommit.cal } := by
  unfold State.foreignCommit
  split
  · split <;> rfl
  · rfl

/-- Settles O38: the codes by the definitions with their clamps as bounds; each link by the state it is in. -/
theorem commitFormsCodesAndReachesLinks : Obligations.CommitFormsCodesAndReachesLinks := by
  refine ⟨fun s => ?codes, fun s d => ?link⟩
  case codes =>
    intro t poke value codes
    have poke_eq : s.pokeInForce = poke := by
      funext i
      dsimp only [State.pokeInForce, poke]
      cases s.loop.state with
      | opened =>
        cases h : s.law.calPoke with
        | none => simp
        | some e =>
          by_cases named : e.1 = i
          · simp only [Option.filter, decide_eq_true named, if_pos named, if_true]
            rfl
          · simp [Option.filter, named]
      | _ => rfl
    have value_eq : s.outputValue = value := by
      funext i
      have bounded (v : Int) : clampInt (s.act i).lo (s.act i).hi v = if v < (s.act i).lo then (s.act i).lo else min (s.act i).hi v := by
        unfold clampInt
        split
        · rfl
        · split <;> omega
      simp only [State.outputValue, poke_eq, value, roundHalfUp_eight, bounded]
      rfl
    have formed : s.formVector = codes := by
      refine List.map_congr_left fun i _ => ?_
      rw [State.codeOf, clampInt_code, value_eq]
    refine ⟨?_, rfl, rfl, rfl, rfl, rfl, rfl, rfl, rfl, rfl, rfl⟩
    rw [← formed]
    rfl
  case link =>
    intro l t codes
    have reached : t = linkCommit s.drive.tAck d codes l := State.driveLink_handToLinks s d
    refine ⟨fun state => ?_, fun state => ?_, fun state idle => ?_, fun state waiting => ?_, fun state => ?_⟩
    all_goals rw [reached, linkCommit, state]
    · rfl
    · rw [if_neg (by simp [idle])]
    · rw [if_pos waiting]

/-! ## Rest requests (05 R96) -/

/-- The rest value in CU, 0 for a DEAD actuator. -/
def ActRecord.rest (a : ActRecord) : Int := if a.mode = .dead then 0 else if 0 < a.lo then a.lo else if a.hi < 0 then a.hi else 0

theorem restIntegrator_eq (a : ActRecord) : restIntegrator a = 256 * a.rest := by
  unfold restIntegrator ActRecord.rest restValue
  split <;> rfl

theorem State.vget_integratorReset (s : State) (i : Nat) :
    vget s.integratorReset.law.z i = if i < s.mem.nAct then 256 * (s.act i).rest else vget s.law.z i := by
  rw [← restIntegrator_eq]
  exact vget_vfill ..

theorem getD_replicate_false (n i : Nat) : (List.replicate n false).getD i false = false := by
  simp only [List.getD_eq_getElem?_getD, List.getElem?_replicate]
  split <;> rfl

theorem State.restCommit_eq_foreignCommit (s : State) : s.restCommit = s.integratorReset.clearPokes.commitVector.foreignCommit := rfl

theorem State.restCommit_of_not_measuring {s : State} (idle : s.cal.measuring = false) :
    s.restCommit = s.integratorReset.clearPokes.commitVector :=
  State.commit_of_not_measuring idle

theorem State.law_restCommit (s : State) : s.restCommit.law = s.integratorReset.clearPokes.commitVector.law := by
  rw [State.restCommit_eq_foreignCommit, State.foreignCommit_eq]

/-- The code of an actuator at rest with no poke. -/
theorem State.codeOf_clearPokes (s : State) {i : Nat} (served : i < s.mem.nAct) :
    s.integratorReset.clearPokes.codeOf i = max 0 (min 65535 ((s.act i).rest + (s.act i).flat + 32768)) := by
  have value : s.integratorReset.clearPokes.outputValue i = (s.act i).rest := by
    have no_poke : s.integratorReset.clearPokes.pokeInForce i = none := by
      unfold State.pokeInForce
      split <;> rfl
    have z : vget s.integratorReset.clearPokes.law.z i = 256 * (s.act i).rest := by
      rw [← if_pos (c := i < s.mem.nAct) served (t := 256 * (s.act i).rest) (e := vget s.law.z i)]
      exact s.vget_integratorReset i
    rw [State.outputValue, no_poke, z]
    by_cases dead : (s.act i).mode = .dead
    · rw [ActRecord.rest, if_pos dead]
      exact if_pos dead
    · exact (if_neg dead).trans (roundHalfUp_mul_256 _)
  rw [State.codeOf, value, clampInt_code]
  rfl

theorem State.committed_restCommit (s : State) :
    s.restCommit.law.committed
      = (List.range s.mem.nAct).map fun i => max 0 (min 65535 ((s.act i).rest + (s.act i).flat + 32768)) := by
  rw [State.law_restCommit]
  exact List.map_congr_left fun i hi => s.codeOf_clearPokes (List.mem_range.mp hi)

/-- Settles O39: an integrator reset by its definition; a rest commit adds the cleared pokes and the vector of rest codes. -/
theorem restRequests : Obligations.RestRequests := by
  intro s idle rest cleared
  have reset : cleared s.integratorReset :=
    ⟨fun i => s.vget_integratorReset i, getD_replicate_false _, rfl, rfl, rfl, rfl, rfl, rfl, rfl, rfl, rfl, rfl, rfl, rfl, rfl, rfl,
      rfl, rfl, rfl⟩
  refine ⟨reset, rfl, rfl, rfl, ?_, ?_, ?_, s.committed_restCommit⟩
  all_goals rw [State.restCommit_of_not_measuring idle]
  · exact reset
  · rfl
  · rfl

/-! ## LOOP.OPEN and LOOP.CLOSE (06 R118, R119) -/

theorem State.linkFailed_iff_exists (s : State) :
    s.linkFailed = true ↔ ∃ d : Fin 4, 768 * d.val < s.mem.nAct ∧ (s.driveLink d).state = .failed := by
  have serves (d : Fin 4) : 0 < serviceCount s.mem.nAct d ↔ 768 * d.val < s.mem.nAct := by
    simp only [serviceCount, Config.linkSpan]
    omega
  simp only [State.linkFailed, List.any_eq_true, mem_allLinks, true_and, Bool.and_eq_true, decide_eq_true_eq, serves]

theorem State.canClose_iff (s : State) :
    s.canClose = true ↔ ∃ n : Fin 4, (s.setRec n).state = .complete ∧ (s.cyc.selection = .fixed n
      ∨ (s.cyc.selection = .auto
        ∧ (s.cyc.degTable[(allSensors.map fun i => if (s.sensor i).mode = .active then 2 ^ i.val else 0).sum]?).getD none
          = some n)) := by
  rw [← s.sensorMask_presence]
  change _ ↔ ∃ n : Fin 4, (s.setRec n).state = .complete ∧ (s.cyc.selection = .fixed n
      ∨ (s.cyc.selection = .auto ∧ s.currentEntry = some n))
  unfold State.canClose
  cases s.cyc.selection with
  | fixed m => simp
  | auto => cases s.currentEntry <;> simp

theorem State.effectiveHold_iff (s : State) :
    s.effectiveHold = true ↔ s.loop.command = true ∨ s.cyc.degraded = true ∨ s.loop.diverge = true
      ∨ (s.loop.params.exclusivity = .shared ∧ (s.loop.holdnLow = true ∨ s.loop.inband = true)) := by
  rw [s.effectiveHold_eq]
  simp [or_assoc]

theorem State.setLoop_of_ne {s : State} {l : LoopState} (other : s.loop.state ≠ l) :
    s.setLoop l = ({ s with loop := { s.loop with state := l } } : State).raise .loopState := by
  rw [State.setLoop, if_neg other]

/-- Settles O40: the refusals by the branches; the loop's new state over a rest commit or an integrator reset. -/
theorem loopOpenAndClose : Obligations.LoopOpenAndClose := by
  refine ⟨fun s heard => ?opening, fun s heard => ?closing⟩
  case opening =>
    intro failed from_
    have failed_iff : s.linkFailed = true ↔ failed := s.linkFailed_iff_exists
    have from_iff : (s.loop.state = .opened ∨ s.loop.state = .safe) ↔ ¬ from_ := by
      dsimp only [from_]
      cases s.loop.state <;> simp
    have acts : exec .loopOpen s = .next (if s.loop.state = .opened ∨ s.loop.state = .safe then s.refuse .wrongState
        else if s.mem.nAct = 0 ∨ s.linkFailed then s.refuse .notReady
        else ((s.setLoop .opened).restCommit).reply .done []) := by
      change execLoopOpen s = _
      simp only [execLoopOpen, runMessage_of_hears heard, noPayload, List.length_nil, ne_eq, not_true_eq_false, if_false]
    simp only [from_iff, failed_iff] at acts
    refine ⟨fun out => by rw [acts, if_pos out], fun inside unready => by rw [acts, if_neg (not_not.mpr inside), if_pos unready],
      fun inside geometry working idle => ?_⟩
    have other : s.loop.state ≠ .opened := fun opened => not_not.mpr inside (from_iff.mp (.inl opened))
    let u := (s.setLoop .opened)
    have u_eq : u = ({ s with loop := { s.loop with state := .opened } } : State).raise .loopState := State.setLoop_of_ne other
    have reset : u.restCommit = u.integratorReset.clearPokes.commitVector :=
      State.restCommit_of_not_measuring (by rw [u_eq]; exact Calibration.measuring_of_not_running idle)
    refine ⟨u.restCommit, by rw [acts, if_neg (not_not.mpr inside), if_neg (not_or.mpr ⟨geometry, working⟩)], ?_⟩
    rw [reset]
    refine ⟨by rw [u_eq]; rfl, by rw [u_eq]; rfl, fun i hi => ?_, rfl, rfl, ?_, by rw [u_eq]; rfl, fun d => ?_, by rw [u_eq]; rfl,
      by rw [u_eq]; rfl, by rw [u_eq]; rfl, by rw [u_eq]; rfl, by rw [u_eq]; rfl, by rw [u_eq]; rfl⟩
    · have z := s.vget_integratorReset i
      rw [if_pos hi, ActRecord.rest] at z
      refine Eq.trans ?_ (z.trans ?_)
      · rw [u_eq]
        rfl
      · split <;> rfl
    · rw [State.codeOf_commitVector, u_eq]
      rfl
    · rw [u_eq]
      exact State.driveLink_commitVector _ d
  case closing =>
    intro index usable
    have usable_iff : s.canClose = true ↔ usable := s.canClose_iff
    have acts : exec .loopClose s = .next (if s.loop.state ≠ .opened then s.refuse .wrongState
        else if s.cal.running = true then s.refuse .busy
        else if ¬ s.canClose = true then s.refuse .notReady
        else s.closeLoop.reply .done [.u16 (loopCode s.closeLoop.loop.state)]) := by
      change execLoopClose s = _
      simp [execLoopClose, runMessage_of_hears heard, noPayload]
    simp only [usable_iff] at acts
    refine ⟨fun other => by rw [acts, if_pos other], fun opened running => by rw [acts, if_neg (not_not.mpr opened), if_pos running],
      fun opened idle unusable => by rw [acts, if_neg (not_not.mpr opened), if_neg (by simp [idle]), if_pos unusable],
      fun opened idle ready => ⟨s.closeLoop, ?_⟩⟩
    intro held
    rw [acts, if_neg (not_not.mpr opened), if_neg (by simp [idle]), if_neg (not_not.mpr ready)]
    let u := ({ s.integratorReset with loop := { s.loop with runCount := 0 } } : State)
    have closes : s.closeLoop = if u.effectiveHold = true then (u.setLoop .held).raise .holdChange else u.setLoop .closed := rfl
    have held_iff : u.effectiveHold = true ↔ held := u.effectiveHold_iff
    have z (i : Nat) (hi : i < s.mem.nAct) : vget u.law.z i = if (s.act i).mode = .dead then 0
        else 256 * if 0 < (s.act i).lo then (s.act i).lo else if (s.act i).hi < 0 then (s.act i).hi else 0 := by
      have z := s.vget_integratorReset i
      rw [if_pos hi, ActRecord.rest] at z
      refine z.trans ?_
      split <;> rfl
    by_cases holds : held
    · rw [if_pos (held_iff.mpr holds), State.setLoop_of_ne (by rw [show u.loop.state = .opened from opened]; decide)] at closes
      simp only [if_pos holds, closes]
      exact ⟨rfl, rfl, rfl, z, rfl, rfl, rfl, rfl, rfl, rfl, rfl, rfl⟩
    · rw [if_neg (fun h => holds (held_iff.mp h)), State.setLoop_of_ne (by rw [show u.loop.state = .opened from opened]; decide)]
        at closes
      simp only [if_neg holds, closes]
      exact ⟨rfl, rfl, rfl, z, rfl, rfl, rfl, rfl, rfl, rfl, rfl, rfl⟩

end Sys2Proof.Machine

/-! The geometry, the drive and calibration messages, and the law's arithmetic. -/

namespace Sys2Proof.Machine

-- One theorem at a time: each worker thread reserves memory of its own.
set_option Elab.async false

/-! ## DEV.GEOM (03 R65, R66) -/

theorem linkCodes_replicate (n : Nat) (d : Fin 4) (x : Int) :
    linkCodes (List.replicate n x) n d = List.replicate (min 768 (n - 768 * d.val)) x := by
  refine List.ext_getElem (by simp [linkCodes, vslice, serviceCount, Config.linkSpan]) fun k hk _ => ?_
  have within : k < min 768 (n - 768 * d.val) := by simpa [linkCodes, vslice, serviceCount, Config.linkSpan] using hk
  simp only [linkCodes, vslice, List.getElem_map, List.getElem_range, vget_replicate, List.getElem_replicate, Config.linkSpan]
  rw [if_pos (by omega)]

/-- What DEV.GEOM has set before its rest commit. -/
def State.geometrySet (s : State) (n : Nat) : State :=
  { s with
    mem := { s.mem with nAct := n }
    law := { s.law with
      actuators := List.replicate Config.maxActuators ActRecord.reset
      neighbours := [] }
    cal := { s.cal with pokeList := [], records := [], tallies := [], entry := 0, phase := none }
    drive := { s.drive with
      links := Vector.ofFn fun d => linkGeometry (decide (0 < serviceCount n d)) s.drive.links[d] } }

theorem State.setGeometry_eq (s : State) (n : Nat) : s.setGeometry n = (s.geometrySet n).restCommit := rfl

theorem State.act_geometrySet (s : State) (n i : Nat) : (s.geometrySet n).act i = ActRecord.reset := by
  simp only [State.act, State.geometrySet, List.getD_eq_getElem?_getD, List.getElem?_replicate]
  split <;> rfl

theorem State.driveLink_geometrySet (s : State) (n : Nat) (d : Fin 4) :
    (s.geometrySet n).driveLink d = linkGeometry (decide (0 < serviceCount n d)) (s.driveLink d) := by
  simp [State.driveLink, State.geometrySet]

theorem ActRecord.rest_reset : ActRecord.reset.rest = 0 := by decide

theorem State.committed_setGeometry (s : State) (n : Nat) : (s.setGeometry n).law.committed = List.replicate n 32768 := by
  rw [State.setGeometry_eq, State.committed_restCommit]
  simp only [State.act_geometrySet, ActRecord.rest_reset]
  exact List.map_const' ..  |>.trans (by simp [State.geometrySet, ActRecord.reset])

/-- Settles O29: the refusals by the branches; the new geometry by the rest commit over the records at their power-on values. -/
theorem geometryClearsWhatDependsOnIt : Obligations.GeometryClearsWhatDependsOnIt := by
  intro s n hn heard kept
  have acts : exec .devGeom s = .next (if 3072 < n then s.refuse .badValue
      else if s.loop.state ≠ .idle then s.refuse .wrongState
      else if (s.mem.sets.toList.any fun r => decide (r.state ≠ .empty)) = true then s.refuse .inUse
      else if s.cyc.cycles ≠ [] then s.refuse .busy
      else (s.setGeometry n).reply .done []) := by
    have read : rd16 (u16s [n]) 0 = n := by simp [Nat.mod_eq_of_lt hn]
    have length : (u16s [n]).length = 2 := by simp
    change execDevGeom s = _
    simp only [execDevGeom, runMessage_of_hears heard, read, length, Config.maxActuators]
    rw [if_neg (by omega)]
  have kept_iff : (s.mem.sets.toList.any fun r => decide (r.state ≠ .empty)) = true ↔ kept := by
    rw [List.any_eq_true, exists_mem_sets]
    simp only [decide_eq_true_eq]
    rfl
  simp only [kept_iff] at acts
  refine ⟨fun large => by rw [acts, if_pos large], fun small other => by rw [acts, if_neg (Nat.not_lt.mpr small), if_pos other],
    fun small idle inUse => by rw [acts, if_neg (Nat.not_lt.mpr small), if_neg (not_not.mpr idle), if_pos inUse],
    fun small idle free live => by
      rw [acts, if_neg (Nat.not_lt.mpr small), if_neg (not_not.mpr idle), if_neg free, if_pos live],
    fun small idle free retired stopped => ⟨s.setGeometry n, by
      rw [acts, if_neg (Nat.not_lt.mpr small), if_neg (not_not.mpr idle), if_neg free, if_neg (not_not.mpr retired)], ?_⟩⟩
  have committed := s.committed_setGeometry n
  have commits : s.setGeometry n = (s.geometrySet n).integratorReset.clearPokes.commitVector :=
    State.restCommit_of_not_measuring (Calibration.measuring_of_not_running stopped)
  rw [commits] at committed ⊢
  refine ⟨rfl, fun i => s.act_geometrySet n i, fun i hi => ?_, rfl, rfl, rfl, committed, rfl, fun d => ?_, rfl, rfl, rfl, rfl, rfl, rfl⟩
  · have z := (s.geometrySet n).vget_integratorReset i
    rw [if_pos (show i < (s.geometrySet n).mem.nAct from hi), State.act_geometrySet, ActRecord.rest_reset] at z
    exact z
  · have reached : (s.geometrySet n).integratorReset.clearPokes.commitVector.driveLink d
        = linkCommit s.drive.tAck d (List.replicate (min 768 (n - 768 * d.val)) 32768)
          (linkGeometry (decide (0 < serviceCount n d)) (s.driveLink d)) := by
      rw [State.driveLink_commitVector, committed, ← State.driveLink_geometrySet, ← linkCodes_replicate]
      rfl
    have serves : 0 < serviceCount n d ↔ 768 * d.val < n := by
      simp only [serviceCount, Config.linkSpan]
      omega
    rw [reached]
    by_cases served : 768 * d.val < n
    · rw [decide_eq_true (serves.mpr served), if_pos served]
      rfl
    · rw [decide_eq_false (fun h => served (serves.mp h)), if_neg served]
      rfl

/-! ## DRV.PARAM, DRV.POKE and DRV.RESTART (07 R144 to R146) -/

/-- A run of pairs with a signed second field reads back as itself. -/
theorem rdPairs_s16s (l : List (Nat × Int)) (a b : List Byte) (fits : ∀ e ∈ l, e.1 < 65536 ∧ -32768 ≤ e.2 ∧ e.2 ≤ 32767) :
    rdPairs rdS16 (a ++ ((l.flatMap fun e => u16s [e.1] ++ s16s [e.2]) ++ b)) a.length l.length = l := by
  induction l generalizing a with
  | nil => rfl
  | cons e l ih =>
    obtain ⟨fit1, low, high⟩ := fits e (List.mem_cons_self ..)
    have rest := ih (a ++ (beBytes 2 e.1 ++ beBytesInt 2 e.2)) fun m hm => fits m (List.mem_cons_of_mem _ hm)
    have first := rd16_append a (beBytes 2 e.1 ++ (beBytesInt 2 e.2 ++ ((l.flatMap fun e => u16s [e.1] ++ s16s [e.2]) ++ b))) 0
    have second := rdS16_append a (beBytes 2 e.1 ++ (beBytesInt 2 e.2 ++ ((l.flatMap fun e => u16s [e.1] ++ s16s [e.2]) ++ b))) 2
    have skip := rdS16_skip16 e.1 (beBytesInt 2 e.2 ++ ((l.flatMap fun e => u16s [e.1] ++ s16s [e.2]) ++ b)) 0
    rw [Nat.zero_add] at skip
    rw [rd16_beBytes] at first
    rw [skip, rdS16_beBytesInt e.2 _ low high] at second
    rw [rdPairs, List.length_cons, List.range_succ_eq_map, List.map_cons, List.map_map]
    refine List.cons_eq_cons.2 ⟨?_, ?_⟩
    · simp only [List.flatMap_cons, u16s_cons, u16s_nil, s16s_cons, s16s_nil, List.append_nil, List.append_assoc, Nat.mul_zero,
        Nat.add_zero] at first second ⊢
      rw [first, second, Nat.mod_eq_of_lt fit1]
    · conv_rhs => rw [← rest]
      apply List.map_congr_left
      intro k _
      simp [Function.comp, Nat.mul_add, Nat.add_assoc, Nat.add_comm, Nat.add_left_comm]

/-- A stored poke is found for its actuator, and every other one as before. -/
theorem find?_storePoke (pokes : List (Nat × Int)) (e : Nat × Int) (i : Nat) :
    (storePoke pokes e).find? (fun q => decide (q.1 = i)) = if e.1 = i then some e else pokes.find? fun q => decide (q.1 = i) := by
  rw [storePoke, List.find?_append, List.find?_filter]
  by_cases named : e.1 = i
  · subst named
    have gone : (pokes.find? fun q => decide (decide (q.1 ≠ e.1) = true ∧ decide (q.1 = e.1) = true)) = none := by
      rw [List.find?_eq_none]
      simp
    rw [gone]
    simp
  · have same : (fun q : Nat × Int => decide (decide (q.1 ≠ e.1) = true ∧ decide (q.1 = i) = true)) = fun q => decide (q.1 = i) := by
      funext q
      have : q.1 = i → q.1 ≠ e.1 := fun h => by rw [h]; exact fun h => named h.symm
      simpa using this
    rw [same, if_neg named]
    simp [named]

/-- Of two pokes of a message for one actuator the later one stands. -/
theorem find?_foldl_storePoke (given pokes : List (Nat × Int)) (i : Nat) :
    (given.foldl storePoke pokes).find? (fun q => decide (q.1 = i))
      = match given.reverse.find? fun q => decide (q.1 = i) with
        | some e => some e
        | none => pokes.find? fun q => decide (q.1 = i) := by
  induction given generalizing pokes with
  | nil => rfl
  | cons e given ih =>
    rw [List.foldl_cons, ih, List.reverse_cons, List.find?_append, find?_storePoke]
    cases given.reverse.find? fun q => decide (q.1 = i) with
    | some x => rfl
    | none => by_cases named : e.1 = i <;> simp [named]

theorem State.updLink_updLink (s : State) (d : Fin 4) (f g : DriveLink → DriveLink) :
    (s.updLink d f).updLink d g = s.updLink d fun l => g (f l) := by
  simp [State.updLink]

theorem not_exists_of_forall_lt_fst {α : Type} {given : List (Nat × α)} {n : Nat} (inside : ∀ e ∈ given, e.1 < n) :
    ¬ ∃ e ∈ given, n ≤ e.1 := by
  rintro ⟨e, he, beyond⟩
  exact absurd (inside e he) (by omega)

/-- Settles O45: DRV.PARAM whole, DRV.POKE by the stored pokes and the commit, DRV.RESTART by the frame it sends. -/
theorem driveMessages : Obligations.DriveMessages := by
  refine ⟨fun s t f ht hf heard => ?param, fun s given some_given few fits heard => ?poke, fun s d heard => ?restart⟩
  case param =>
    intro t' f'
    have read0 : rd32 (u32s [t, f]) 0 = t := by simp [Nat.mod_eq_of_lt ht]
    have read4 : rd32 (u32s [t, f]) 4 = f := by simp [Nat.mod_eq_of_lt hf]
    have length : (u32s [t, f]).length = 8 := by simp
    change execDrvParam s = _
    simp only [execDrvParam, runMessage_of_hears heard, read0, read4, length, clampNat_eq_min_max (show 20 ≤ 2000 by decide),
      clampNat_eq_min_max (show 1 ≤ 15 by decide)]
    rw [if_neg (by omega), doneOr]
    by_cases same : t' = t ∧ f' = f
    · rw [if_pos same, if_neg (by simpa [t', f'] using same)]
    · rw [if_neg same, if_pos (by simpa [not_and_or] using not_and_or.mp same)]
  case poke =>
    intro limited output clamped
    have some_count : 0 < given.length := List.length_pos_iff.mpr some_given
    have wide : ((given.flatMap fun e => u16s [e.1] ++ s16s [e.2]) : List Byte).length = 4 * given.length := by
      rw [List.length_flatMap]
      simp [Nat.mul_comm]
    have length : (u16s [given.length] ++ given.flatMap fun e => u16s [e.1] ++ s16s [e.2]).length = 2 + 4 * given.length := by
      rw [List.length_append, wide]
      simp
    have count : rd16 (u16s [given.length] ++ given.flatMap fun e => u16s [e.1] ++ s16s [e.2]) 0 = given.length := by
      simp [Nat.mod_eq_of_lt (show given.length < 65536 by omega)]
    have pairs : rdPairs rdS16 (u16s [given.length] ++ given.flatMap fun e => u16s [e.1] ++ s16s [e.2]) 2 given.length = given := by
      simpa using rdPairs_s16s given (u16s [given.length]) [] fits
    have clamped_iff : (given.any fun e => pokeClamped (s.act e.1) e.2) = true ↔ clamped := by
      rw [List.any_eq_true]
      simp only [pokeClamped, Bool.and_eq_true, decide_eq_true_eq]
      rfl
    have acts : exec .drvPoke s = .next (if s.loop.state ≠ .idle then s.refuse .wrongState
        else if ∃ e ∈ given, s.mem.nAct ≤ e.1 then s.refuse .badValue
        else (({ s with law := { s.law with idlePokes := given.foldl storePoke s.law.idlePokes } } : State).commit).reply
          (if clamped then .clamped else .done) (given.flatMap fun e => [.u16 e.1, .s16 (output e)])) := by
      change execDrvPoke s = _
      simp only [execDrvPoke, runMessage_of_hears heard, drvPokeAct, length, count, pairs, doneOr, clamped_iff, List.any_eq_true,
        decide_eq_true_eq]
      rw [if_neg (by omega)]
      rfl
    refine ⟨fun other => by rw [acts, if_pos other], fun idle beyond => by rw [acts, if_neg (not_not.mpr idle), if_pos beyond],
      fun idle inside still => ?_⟩
    let u : State := { s with law := { s.law with idlePokes := given.foldl storePoke s.law.idlePokes } }
    have commits : u.commit = u.commitVector := State.commit_of_not_measuring still
    refine ⟨u.commitVector, ?_, fun i => find?_foldl_storePoke given s.law.idlePokes i, ?_, rfl, fun d => u.driveLink_commitVector d,
      rfl, rfl, rfl, rfl, rfl, rfl, rfl, rfl⟩
    · rw [acts, if_neg (not_not.mpr idle), if_neg (not_exists_of_forall_lt_fst inside), ← commits]
    · rw [State.codeOf_commitVector]
      rfl
  case restart =>
    intro codes
    have acts : exec .drvRestart s = .next (if (s.driveLink d).state ≠ .failed then s.refuse .wrongState
        else ((s.updLink d fun l => { l with failCount := 0 }).sendOn d).reply .done []) := by
      have read : rd16 (u16s [d.val]) 0 = d.val := by simp [fin4_mod]
      have length : (u16s [d.val]).length = 2 := by simp
      change execDrvRestart s = _
      simp only [execDrvRestart, runMessage_of_hears heard, read, length, toLink_val, ne_eq, not_true_eq_false, if_false]
    refine ⟨fun other => by rw [acts, if_pos other], fun failed => ?_⟩
    rw [acts, if_neg (not_not.mpr failed), State.sendOn, State.updLink_updLink]
    rfl

end Sys2Proof.Machine

/-! The calibration messages, the integrator step and the neighbour pass. -/

namespace Sys2Proof.Machine

-- One theorem at a time: each worker thread reserves memory of its own.
set_option Elab.async false

/-! ## CAL.LOAD, CAL.START and CAL.STOP (08 R150 to R152, R161, R162) -/

theorem modifyAt_eq_set {α : Type} (f : α → α) {l : List α} {i : Nat} {x : α} (named : l[i]? = some x) : modifyAt f l i = l.set i (f x) := by
  induction l generalizing i with
  | nil => cases named
  | cons y l ih =>
    cases i with
    | zero =>
      obtain rfl : y = x := by simpa using named
      rfl
    | succ i => exact congrArg (y :: ·) (ih (by simpa using named))

theorem find?_eq_of_mem {α : Type} [DecidableEq α] {l : List α} {a : α} (mem : a ∈ l) : l.find? (fun x => decide (x = a)) = some a := by
  have found : (l.find? fun x => decide (x = a)).isSome = true := by
    rw [List.find?_isSome]
    exact ⟨a, mem, decide_eq_true rfl⟩
  obtain ⟨b, hb⟩ := Option.isSome_iff_exists.mp found
  rw [hb, of_decide_eq_true (List.find?_some (p := fun x => decide (x = a)) hb)]

/-- The calibration sensors hold the ACTIVE sensors with their n_sub (08 R151). -/
theorem State.find?_activeSensors (s : State) (i : Fin 6) :
    s.activeSensors.find? (fun e => decide (e.1 = i))
      = if (s.sensor i).mode = .active then some (i, (s.sensor i).config.nSub) else none := by
  rw [State.activeSensors, List.find?_map]
  by_cases active : (s.sensor i).mode = .active
  · have mem : i ∈ allSensors.filter fun j => s.isActive j := List.mem_filter.mpr ⟨mem_allSensors i, (s.isActive_iff i).mpr active⟩
    rw [if_pos active]
    refine (congrArg (Option.map _) (find?_eq_of_mem mem)).trans rfl
  · rw [if_neg active, Option.map_eq_none_iff, List.find?_eq_none]
    intro j hj named
    have same : j = i := of_decide_eq_true named
    exact active ((s.isActive_iff i).mp (same ▸ (List.mem_filter.mp hj).2))

theorem State.activeSensors_eq_nil_iff (s : State) : s.activeSensors = [] ↔ ∀ i, (s.sensor i).mode ≠ .active := by
  simp only [State.activeSensors, List.map_eq_nil_iff, List.filter_eq_nil_iff, State.isActive_iff]
  exact ⟨fun h i => h i (mem_allSensors i), fun h i _ => h i⟩

/-- The poke that a phase puts in force (08 R152). -/
def State.poked (s : State) (phase : Phase) (r : ResponseRecord) : State :=
  { s with law := { s.law with calPoke := some (r.actuator, if phase = .push then (r.amplitude : Int) else -r.amplitude) } }

/-- The run with other records. -/
def Calibration.withRecords (c : Calibration) (records : List ResponseRecord) : Calibration := { c with records := records }

section PhaseCommit

variable {s : State} {phase : Phase} {r : ResponseRecord}

/-- A phase begins with its commit (08 R152), once the record of its entry is known. -/
theorem State.phaseCommit_of_record (named : s.cal.records[s.cal.entry]? = some r) :
    s.phaseCommit phase = { (s.poked phase r).commitVector with
      cal := ((({ s.cal with
          serial := s.cal.serial + 1, settle := 0, measure := 0, voids := 0, phase := some phase } : Calibration).clearSums
        phase).updRecord (recordOutput phase ((s.poked phase r).commitVector.outputValue r.actuator))) } := by
  rw [State.phaseCommit, named]
  rfl

theorem State.phaseCommit_frame (named : s.cal.records[s.cal.entry]? = some r) :
    (s.phaseCommit phase).intake = s.intake ∧ (s.phaseCommit phase).cyc = s.cyc ∧ (s.phaseCommit phase).mem = s.mem
      ∧ (s.phaseCommit phase).recon = s.recon ∧ (s.phaseCommit phase).loop = s.loop ∧ (s.phaseCommit phase).mon = s.mon
      ∧ (s.phaseCommit phase).link = s.link := by
  rw [State.phaseCommit_of_record named]
  exact ⟨rfl, rfl, rfl, rfl, rfl, rfl, rfl⟩

theorem State.law_phaseCommit (named : s.cal.records[s.cal.entry]? = some r) :
    (s.phaseCommit phase).law = { s.law with
      calPoke := some (r.actuator, if phase = .push then (r.amplitude : Int) else -r.amplitude)
      committed := (List.range s.mem.nAct).map (s.phaseCommit phase).codeOf } := by
  have codes : (s.phaseCommit phase).codeOf = (s.poked phase r).codeOf := by
    rw [State.phaseCommit_of_record named]
    exact State.codeOf_congr rfl rfl rfl rfl rfl
  rw [codes, State.phaseCommit_of_record named]
  rfl

theorem State.driveLink_phaseCommit (named : s.cal.records[s.cal.entry]? = some r) (d : Fin 4) :
    (s.phaseCommit phase).driveLink d
      = linkCommit s.drive.tAck d (linkCodes (s.phaseCommit phase).law.committed s.mem.nAct d) (s.driveLink d) := by
  rw [State.phaseCommit_of_record named]
  exact State.driveLink_commitVector (s.poked phase r) d

theorem State.cal_phaseCommit (named : s.cal.records[s.cal.entry]? = some r) :
    (s.phaseCommit phase).cal =
      { ({ s.cal with serial := s.cal.serial + 1, settle := 0, measure := 0, voids := 0, phase := some phase } :
          Calibration).clearSums phase with
        records := s.cal.records.set s.cal.entry (recordOutput phase ((s.phaseCommit phase).outputValue r.actuator) r) } := by
  have value : (s.phaseCommit phase).outputValue = (s.poked phase r).commitVector.outputValue := by
    rw [State.phaseCommit_of_record named]
    exact State.outputValue_congr rfl rfl rfl rfl rfl
  rw [value, State.phaseCommit_of_record named, Calibration.updRecord]
  cases phase with
  | push => exact congrArg (Calibration.withRecords _) (modifyAt_eq_set _ named)
  | pull => exact congrArg (Calibration.withRecords _) (modifyAt_eq_set _ named)
  | storing => exact congrArg (Calibration.withRecords _) (modifyAt_eq_set _ named)

end PhaseCommit

/-- The end of a run in OPEN: the poke is cleared and the vector committed (08 Table 8.4). -/
theorem State.law_endRun (s : State) (reason : EndReason) :
    (s.endRun reason).law
      = { s.law with calPoke := none, committed := (List.range s.mem.nAct).map (s.endRun reason).codeOf } := by
  have codes : (s.endRun reason).codeOf = ({ s with law := { s.law with calPoke := none } } : State).codeOf :=
    State.codeOf_congr rfl rfl rfl rfl rfl
  rw [codes]
  rfl

theorem Arbiter.calibration_notMem_dropCalibration (a : Arbiter) : .calibration ∉ a.dropCalibration.waiting := by
  simp [Arbiter.dropCalibration]

/-- What CAL.START does once its payload is read. -/
theorem exec_calStart_of_hears {s : State} {nS nM : Nat} (hS : nS < 4294967296) (hM : nM < 4294967296)
    (heard : s.hears .calStart (u32s [nS, nM]) = true) :
    exec .calStart s = .next (if s.loop.state ≠ .opened then s.refuse .wrongState
      else if s.cal.running = true then s.refuse .busy
      else if s.cal.pokeList = [] ∨ s.activeSensors = [] then s.refuse .notReady
      else (s.startRun (min 15 nS) (min 64 (max 1 nM))).reply
        (doneOr (decide (min 15 nS ≠ nS) || decide (min 64 (max 1 nM) ≠ nM)))
        ([.u32 (min 15 nS), .u32 (min 64 (max 1 nM))] ++ sensorFields s.activeSensors)) := by
  have read0 : rd32 (u32s [nS, nM]) 0 = nS := by simp [Nat.mod_eq_of_lt hS]
  have read4 : rd32 (u32s [nS, nM]) 4 = nM := by simp [Nat.mod_eq_of_lt hM]
  have length : (u32s [nS, nM]).length = 8 := by simp
  change execCalStart s = _
  simp only [execCalStart, runMessage_of_hears heard, read0, read4, length, clampNat_eq_min_max (show 0 ≤ 15 by decide),
    clampNat_eq_min_max (show 1 ≤ 64 by decide), Nat.zero_max]
  rw [if_neg (by omega)]

/-- Settles O46: CAL.LOAD and CAL.STOP by the branches, CAL.START by its first phase commit. -/
theorem calibrationRun : Obligations.CalibrationRun := by
  refine ⟨fun s given few fits heard => ?load, fun s nS nM hS hM heard => ?start, fun s heard => ?stop⟩
  case load =>
    intro stored
    have count : rd16 (u16s (given.length :: given.flatMap fun e => [e.1, e.2])) 0 = given.length := by
      simp [Nat.mod_eq_of_lt (show given.length < 65536 by omega)]
    have length : (u16s (given.length :: given.flatMap fun e => [e.1, e.2])).length = 2 + 4 * given.length := by simp; omega
    have pairs : rdPairs rd16 (u16s (given.length :: given.flatMap fun e => [e.1, e.2])) 2 given.length = given := by
      simpa using rdPairs_u16s given (beBytes 2 given.length) [] fits
    have acts : exec .calLoad s = .next (if s.cal.running = true then s.refuse .busy
        else if ∃ e ∈ given, s.mem.nAct ≤ e.1 then s.refuse .badValue
        else ({ s with cal := { s.cal with pokeList := stored } } : State).reply (doneOr (decide (stored ≠ given)))
          (if decide (stored ≠ given) = true then (stored.map fun e => [Field.u16 e.1, .u16 e.2]).flatten else [])) := by
      change execCalLoad s = _
      simp only [execCalLoad, runMessage_of_hears heard, count, length, pairs, clampNat_eq_min_max (show 1 ≤ 32767 by decide),
        List.any_eq_true, decide_eq_true_eq]
      rw [if_neg (by omega)]
    refine ⟨fun running => by rw [acts, if_pos running], fun idle beyond => by rw [acts, if_neg (by simp [idle]), if_pos beyond],
      fun idle inside => ?_⟩
    rw [acts, if_neg (by simp [idle]), if_neg (not_exists_of_forall_lt_fst inside), List.flatMap_def]
    by_cases same : stored = given
    · rw [decide_eq_false (not_not.mpr same), if_pos same, if_pos same]
      rfl
    · rw [decide_eq_true (p := stored ≠ given) same, if_neg same, if_neg same]
      rfl
  case start =>
    intro nS' nM' sensors
    have acts := exec_calStart_of_hears hS hM heard
    refine ⟨fun other => by rw [acts, if_pos other], fun opened running => by rw [acts, if_neg (not_not.mpr opened), if_pos running],
      fun opened idle unready => ?_, fun e rest opened idle list some_active => ?_⟩
    · rw [← s.activeSensors_eq_nil_iff] at unready
      rw [acts, if_neg (not_not.mpr opened), if_neg (by simp [idle]), if_pos unready]
    · have ready : ¬ (s.cal.pokeList = [] ∨ s.activeSensors = []) := by
        rw [s.activeSensors_eq_nil_iff, list]
        obtain ⟨i, active⟩ := some_active
        simp only [reduceCtorEq, false_or]
        exact fun none => none i active
      rw [if_neg (not_not.mpr opened), if_neg (by simp [idle]), if_neg ready] at acts
      have status : doneOr (decide (min 15 nS ≠ nS) || decide (min 64 (max 1 nM) ≠ nM))
          = if nS ≤ 15 ∧ 1 ≤ nM ∧ nM ≤ 64 then .done else .clamped := by
        by_cases inside : nS ≤ 15 ∧ 1 ≤ nM ∧ nM ≤ 64
        · rw [if_pos inside, decide_eq_false (by omega), decide_eq_false (by omega)]
          rfl
        · rw [if_neg inside, doneOr, if_pos]
          rw [Bool.or_eq_true, decide_eq_true_eq, decide_eq_true_eq]
          omega
      let begun : State := { s with cal := { s.cal with
        running := true, endReason := none, nS := nS', nM := nM', sensors := s.activeSensors, entry := 0,
        tallies := [], storing := [], records := s.cal.pokeList.map freshRecord } }
      have record : begun.cal.records[begun.cal.entry]? = some (freshRecord e) := by simp [begun, list]
      have sums (i : Fin 6) : begun.cal.slopesOf i = if (s.sensor i).mode = .active then 2 * (s.sensor i).config.nSub else 0 := by
        have found : begun.cal.sensors.find? (fun e => decide (e.1 = i)) = _ := s.find?_activeSensors i
        rw [Calibration.slopesOf, found]
        split <;> rfl
      have zero : begun.cal.zeroSums = Vector.ofFn fun i =>
          List.replicate (if (s.sensor i).mode = .active then 2 * (s.sensor i).config.nSub else 0) 0 := by
        simp only [Calibration.zeroSums, sums]
      have cal := State.cal_phaseCommit (phase := .push) record
      have records : begun.cal.records = freshRecord e :: rest.map freshRecord := by simp [begun, list]
      rw [records] at cal
      refine ⟨begun.phaseCommit .push, by rw [acts, status, List.flatMap_def]; rfl, ?_, State.law_phaseCommit record,
        State.driveLink_phaseCommit record, State.phaseCommit_frame record⟩
      rw [cal, ← zero]
      rfl
  case stop =>
    have acts : exec .calStop s = .next (if ¬ s.cal.running = true then s.refuse .wrongState
        else (s.endRun .stopped).reply .done []) := by
      change execCalStop s = _
      simp [execCalStop, runMessage_of_hears heard]
    refine ⟨fun idle => by rw [acts, if_pos (by simp [idle])], fun running => ⟨s.endRun .stopped, by rw [acts, if_neg (by simp [running])], ?_⟩⟩
    exact ⟨rfl, s.law_endRun _, rfl, Arbiter.calibration_notMem_dropCalibration _, rfl, rfl, rfl, rfl, rfl, rfl, rfl⟩

/-! ## The integrator step and the neighbour pass (05 R94 to R98) -/

theorem clampIntegrator_eq {a : ActRecord} (ordered : a.lo ≤ a.hi) (x : Int) :
    clampIntegrator a x = max (256 * a.lo) (min (256 * a.hi) x) := clampInt_eq_max_min (by omega) x

theorem clampIntegrator_bounds {a : ActRecord} (ordered : a.lo ≤ a.hi) (x : Int) :
    256 * a.lo ≤ clampIntegrator a x ∧ clampIntegrator a x ≤ 256 * a.hi := by
  rw [clampIntegrator_eq ordered]
  omega

section MoveMember

variable (act : Nat → ActRecord) (i : Nat) (delta : Int) (p : PassState)

theorem vget_moveMember (j : Nat) : vget (moveMember act i delta p).scratch j
    = if j = i then clampIntegrator (act i) (vget p.scratch i + delta) else vget p.scratch j := vget_vput ..

theorem length_flags_moveMember : (moveMember act i delta p).flags.length = p.flags.length := by
  unfold moveMember
  dsimp only
  split <;> simp

/-- A move sets its own member's flag, exactly when the limits change the value (05 R98). -/
theorem flag_moveMember_iff {j : Nat} (held : i < p.flags.length) : (moveMember act i delta p).flags.getD j false = true
    ↔ p.flags.getD j false = true
      ∨ j = i ∧ clampIntegrator (act i) (vget p.scratch i + delta) ≠ vget p.scratch i + delta := by
  unfold moveMember
  dsimp only
  split
  · next same => simp [same]
  · next differ =>
    by_cases named : j = i
    · subst named
      simp [differ, held]
    · simp [List.getD_eq_getElem?_getD, List.getElem?_set_ne (Ne.symm named), named]

theorem flag_moveMember_of_flag {j : Nat} (set : p.flags.getD j false = true) :
    (moveMember act i delta p).flags.getD j false = true := by
  unfold moveMember
  dsimp only
  split
  · exact set
  · simp only [List.getD_eq_getElem?_getD, List.getElem?_set] at set ⊢
    split
    · split
      · rfl
      · next named outside =>
        subst named
        simp [outside] at set
    · exact set

theorem flags_moveMember_of_ne {j : Nat} (other : j ≠ i) :
    (moveMember act i delta p).flags.getD j false = p.flags.getD j false := by
  unfold moveMember
  dsimp only
  split
  · rfl
  · simp [List.getD_eq_getElem?_getD, List.getElem?_set_ne (Ne.symm other)]

variable {act i delta p}

theorem moveMember_reaches (ordered : (act i).lo ≤ (act i).hi) (held : i < p.flags.length) {w : Int} (sum : vget p.scratch i + delta = w) :
    vget (moveMember act i delta p).scratch i = max (256 * (act i).lo) (min (256 * (act i).hi) w)
      ∧ ((moveMember act i delta p).flags.getD i false = true
        ↔ p.flags.getD i false = true ∨ max (256 * (act i).lo) (min (256 * (act i).hi) w) ≠ w) := by
  subst sum
  rw [← clampIntegrator_eq ordered]
  exact ⟨(vget_moveMember ..).trans (if_pos rfl),
    (flag_moveMember_iff act i delta p held).trans (or_congr Iff.rfl (and_iff_right rfl))⟩

theorem flags_moveMember_of_inside (ordered : (act i).lo ≤ (act i).hi) {w : Int} (sum : vget p.scratch i + delta = w)
    (inside : max (256 * (act i).lo) (min (256 * (act i).hi) w) = w) : (moveMember act i delta p).flags = p.flags := by
  subst sum
  rw [← clampIntegrator_eq ordered] at inside
  exact if_pos inside

end MoveMember

/-- What moves of NORMAL members, at most `n` adjustments, leave of a pass. -/
structure PassState.Moved (act : Nat → ActRecord) (n : Nat) (p q : PassState) : Prop where
  limits : ∀ i, (act i).mode = .normal → 256 * (act i).lo ≤ vget p.scratch i → vget p.scratch i ≤ 256 * (act i).hi →
    256 * (act i).lo ≤ vget q.scratch i ∧ vget q.scratch i ≤ 256 * (act i).hi
  others : ∀ i, (act i).mode ≠ .normal → vget q.scratch i = vget p.scratch i
  atLeast : p.adjustments ≤ q.adjustments
  atMost : q.adjustments ≤ p.adjustments + n
  length : q.flags.length = p.flags.length
  flags : ∀ i, p.flags.getD i false = true → q.flags.getD i false = true

namespace PassState.Moved

variable {act : Nat → ActRecord} {m n : Nat} {p q r : PassState}

theorem refl : Moved act n p p where
  limits := fun _ _ low high => ⟨low, high⟩
  others := fun _ _ => rfl
  atLeast := Nat.le_refl _
  atMost := Nat.le_add_right ..
  length := rfl
  flags := fun _ set => set

theorem trans (first : Moved act m p q) (second : Moved act n q r) : Moved act (m + n) p r where
  limits := fun i normal low high =>
    have between := first.limits i normal low high
    second.limits i normal between.1 between.2
  others := fun i other => (second.others i other).trans (first.others i other)
  atLeast := first.atLeast.trans second.atLeast
  atMost := by
    have := first.atMost
    have := second.atMost
    omega
  length := second.length.trans first.length
  flags := fun i set => second.flags i (first.flags i set)

theorem member (ordered : ∀ i, (act i).lo ≤ (act i).hi) {i : Nat} (normal : (act i).mode = .normal) (delta : Int) :
    Moved act 0 p (moveMember act i delta p) where
  limits := fun j _ low high => by
    rw [vget_moveMember]
    split
    · next same =>
      subst same
      exact clampIntegrator_bounds (ordered j) _
    · exact ⟨low, high⟩
  others := fun j other => by
    rw [vget_moveMember, if_neg (fun same : j = i => other (same ▸ normal))]
  atLeast := Nat.le_refl _
  atMost := Nat.le_refl _
  length := length_flags_moveMember ..
  flags := fun _ => flag_moveMember_of_flag _ _ _ _

theorem counted (moved : Moved act 0 p q) : Moved act 1 p { q with adjustments := q.adjustments + 1 } where
  limits := moved.limits
  others := moved.others
  atLeast := moved.atLeast.trans (Nat.le_succ _)
  atMost := Nat.succ_le_succ moved.atMost
  length := moved.length
  flags := moved.flags

end PassState.Moved

section PassPair

variable {act : Nat → ActRecord} {limit : Int} {p : PassState} {a b : Nat}

theorem passPair_of_le (inside : ((vget p.scratch a - vget p.scratch b).natAbs : Int) ≤ limit) : passPair act limit p (a, b) = p :=
  if_pos (by dsimp only; omega)

theorem passPair_of_other (first : (act a).mode ≠ .normal) (second : (act b).mode ≠ .normal) : passPair act limit p (a, b) = p := by
  unfold passPair
  dsimp only
  split
  · rfl
  · rw [decide_eq_false first, decide_eq_false second]

/-- Two NORMAL members move by the halves of the excess. -/
theorem passPair_of_both (beyond : limit < (vget p.scratch a - vget p.scratch b).natAbs) (first : (act a).mode = .normal)
    (second : (act b).mode = .normal) :
    passPair act limit p (a, b) =
      (let x := (vget p.scratch a - vget p.scratch b).natAbs - limit
      let q := moveMember act b (if vget p.scratch b < vget p.scratch a then x / 2 else -((x + 1) / 2))
        (moveMember act a (if vget p.scratch b < vget p.scratch a then -((x + 1) / 2) else x / 2) p)
      { q with adjustments := q.adjustments + 1 }) := by
  rw [passPair]
  dsimp only
  rw [if_neg (by omega), decide_eq_true first, decide_eq_true second]

theorem passPair_of_first (beyond : limit < (vget p.scratch a - vget p.scratch b).natAbs) (first : (act a).mode = .normal)
    (second : (act b).mode ≠ .normal) :
    passPair act limit p (a, b) =
      (let x := (vget p.scratch a - vget p.scratch b).natAbs - limit
      let q := moveMember act a (-((if vget p.scratch b < vget p.scratch a then 1 else -1) * x)) p
      { q with adjustments := q.adjustments + 1 }) := by
  rw [passPair]
  dsimp only
  rw [if_neg (by omega), decide_eq_true first, decide_eq_false second]

theorem passPair_of_second (beyond : limit < (vget p.scratch a - vget p.scratch b).natAbs) (first : (act a).mode ≠ .normal)
    (second : (act b).mode = .normal) :
    passPair act limit p (a, b) =
      (let x := (vget p.scratch a - vget p.scratch b).natAbs - limit
      let q := moveMember act b ((if vget p.scratch b < vget p.scratch a then 1 else -1) * x) p
      { q with adjustments := q.adjustments + 1 }) := by
  rw [passPair]
  dsimp only
  rw [if_neg (by omega), decide_eq_false first, decide_eq_true second]

theorem passPair_moved (ordered : ∀ i, (act i).lo ≤ (act i).hi) : PassState.Moved act 1 p (passPair act limit p (a, b)) := by
  by_cases beyond : limit < (vget p.scratch a - vget p.scratch b).natAbs
  · by_cases first : (act a).mode = .normal
    · by_cases second : (act b).mode = .normal
      · rw [passPair_of_both beyond first second]
        exact ((PassState.Moved.member ordered first _).trans (PassState.Moved.member ordered second _)).counted
      · rw [passPair_of_first beyond first second]
        exact (PassState.Moved.member ordered first _).counted
    · by_cases second : (act b).mode = .normal
      · rw [passPair_of_second beyond first second]
        exact (PassState.Moved.member ordered second _).counted
      · rw [passPair_of_other first second]
        exact .refl
  · rw [passPair_of_le (Int.not_lt.mp beyond)]
    exact .refl

theorem passPair_stays {i : Nat} (other_a : i ≠ a) (other_b : i ≠ b) : vget (passPair act limit p (a, b)).scratch i = vget p.scratch i
    ∧ (passPair act limit p (a, b)).flags.getD i false = p.flags.getD i false := by
  have move {k : Nat} (delta : Int) (r : PassState) (other : i ≠ k) : vget (moveMember act k delta r).scratch i = vget r.scratch i
      ∧ (moveMember act k delta r).flags.getD i false = r.flags.getD i false :=
    ⟨(vget_moveMember ..).trans (if_neg other), flags_moveMember_of_ne act k delta r other⟩
  by_cases beyond : limit < (vget p.scratch a - vget p.scratch b).natAbs
  · by_cases first : (act a).mode = .normal
    · by_cases second : (act b).mode = .normal
      · rw [passPair_of_both beyond first second]
        obtain ⟨scratch_b, flag_b⟩ := move (if vget p.scratch b < vget p.scratch a then
          ((vget p.scratch a - vget p.scratch b).natAbs - limit) / 2
          else -(((vget p.scratch a - vget p.scratch b).natAbs - limit + 1) / 2)) _ other_b
        obtain ⟨scratch_a, flag_a⟩ := move _ p other_a
        exact ⟨scratch_b.trans scratch_a, flag_b.trans flag_a⟩
      · rw [passPair_of_first beyond first second]
        exact move _ p other_a
    · by_cases second : (act b).mode = .normal
      · rw [passPair_of_second beyond first second]
        exact move _ p other_b
      · rw [passPair_of_other first second]
        exact ⟨rfl, rfl⟩
  · rw [passPair_of_le (Int.not_lt.mp beyond)]
    exact ⟨rfl, rfl⟩

end PassPair

theorem foldl_passPair_moved {act : Nat → ActRecord} (ordered : ∀ i, (act i).lo ≤ (act i).hi) (limit : Int) (pairs : List (Nat × Nat))
    (p : PassState) : PassState.Moved act pairs.length p (pairs.foldl (passPair act limit) p) := by
  induction pairs generalizing p with
  | nil => exact .refl
  | cons pair pairs ih =>
    have whole := (passPair_moved (p := p) (limit := limit) (a := pair.1) (b := pair.2) ordered).trans (ih _)
    rwa [Nat.add_comm] at whole

/-- Settles O33: the pass is a walk of moves of NORMAL members, and a scan. -/
theorem neighbourPassKeepsLimits : Obligations.NeighbourPassKeepsLimits := by
  intro act dMax pairs p ordered q
  have moved : PassState.Moved act pairs.length p q.1 := by
    dsimp only [q]
    unfold neighbourPass
    split
    · exact .refl
    · exact foldl_passPair_moved ordered _ pairs p
  refine ⟨fun off => if_pos off, moved.limits, moved.others, moved.atLeast, moved.atMost, moved.length, moved.flags, fun on => ?_⟩
  have walked : q = _ := if_neg on
  rw [walked]
  refine congrArg List.length (List.filter_congr fun e _ => decide_eq_decide.mpr ?_)
  dsimp only
  omega

/-- A member stands where its limits bring `w`, its flag set exactly when they change it (05 R98). -/
def PassState.Reaches (act : Nat → ActRecord) (p q : PassState) (i : Nat) (w : Int) : Prop :=
  vget q.scratch i = max (256 * (act i).lo) (min (256 * (act i).hi) w)
    ∧ (q.flags.getD i false = true ↔ p.flags.getD i false = true ∨ max (256 * (act i).lo) (min (256 * (act i).hi) w) ≠ w)

section PairEnds

variable {act : Nat → ActRecord} {limit : Int} {p : PassState} {a b : Nat}

/-- Two members moved in turn, each counted once. -/
theorem moveMember_both (ordered : ∀ i, (act i).lo ≤ (act i).hi) (differ : a ≠ b) (held_a : a < p.flags.length)
    (held_b : b < p.flags.length) {da db : Int} {w w' : Int} (sum_a : vget p.scratch a + da = w) (sum_b : vget p.scratch b + db = w') :
    PassState.Reaches act p (moveMember act b db (moveMember act a da p)) a w
      ∧ PassState.Reaches act p (moveMember act b db (moveMember act a da p)) b w'
      ∧ (max (256 * (act a).lo) (min (256 * (act a).hi) w) = w → max (256 * (act b).lo) (min (256 * (act b).hi) w') = w' →
        (moveMember act b db (moveMember act a da p)).flags = p.flags) := by
  have scratch_b : vget (moveMember act a da p).scratch b = vget p.scratch b := (vget_moveMember ..).trans (if_neg differ.symm)
  have flag_b : (moveMember act a da p).flags.getD b false = p.flags.getD b false := flags_moveMember_of_ne act a _ p differ.symm
  have first := moveMember_reaches (ordered a) held_a sum_a
  have sum_b' : vget (moveMember act a da p).scratch b + db = w' := by rw [scratch_b, sum_b]
  have second := moveMember_reaches (ordered b) (p := moveMember act a da p) (by rwa [length_flags_moveMember]) sum_b'
  rw [flag_b] at second
  refine ⟨⟨(vget_moveMember ..).trans ((if_neg differ).trans first.1), ?_⟩, second, fun inside_a inside_b => ?_⟩
  · rw [← first.2, ← flags_moveMember_of_ne act b db (moveMember act a da p) differ]
  · exact (flags_moveMember_of_inside (ordered b) sum_b' inside_b).trans (flags_moveMember_of_inside (ordered a) sum_a inside_a)

theorem moveMember_stays {i k : Nat} (delta : Int) (other : i ≠ k) : vget (moveMember act k delta p).scratch i = vget p.scratch i
    ∧ (moveMember act k delta p).flags.getD i false = p.flags.getD i false :=
  ⟨(vget_moveMember ..).trans (if_neg other), flags_moveMember_of_ne act k delta p other⟩

/-- A pass with one more adjustment. -/
def PassState.counted (p : PassState) : PassState := { p with adjustments := p.adjustments + 1 }

theorem passPair_both_reaches (ordered : ∀ i, (act i).lo ≤ (act i).hi) (differ : a ≠ b) (held_a : a < p.flags.length)
    (held_b : b < p.flags.length) (beyond : limit < (vget p.scratch a - vget p.scratch b).natAbs) (first : (act a).mode = .normal)
    (second : (act b).mode = .normal) {x w w' : Int} (hx : x = (vget p.scratch a - vget p.scratch b).natAbs - limit)
    (hw : w = if vget p.scratch b < vget p.scratch a then vget p.scratch a - (x + 1) / 2 else vget p.scratch a + x / 2)
    (hw' : w' = if vget p.scratch b < vget p.scratch a then vget p.scratch b + x / 2 else vget p.scratch b - (x + 1) / 2) :
    ∃ r : PassState, passPair act limit p (a, b) = r.counted ∧ r.adjustments = p.adjustments ∧ PassState.Reaches act p r a w
      ∧ PassState.Reaches act p r b w' ∧ (max (256 * (act a).lo) (min (256 * (act a).hi) w) = w →
        max (256 * (act b).lo) (min (256 * (act b).hi) w') = w' → r.flags = p.flags) := by
  subst hx
  exact ⟨_, passPair_of_both beyond first second, rfl,
    moveMember_both ordered differ held_a held_b (by rw [hw]; split <;> omega) (by rw [hw']; split <;> omega)⟩

theorem passPair_first_reaches (ordered : ∀ i, (act i).lo ≤ (act i).hi) (differ : a ≠ b) (held : a < p.flags.length)
    (beyond : limit < (vget p.scratch a - vget p.scratch b).natAbs) (first : (act a).mode = .normal)
    (second : (act b).mode ≠ .normal) {x w : Int} (hx : x = (vget p.scratch a - vget p.scratch b).natAbs - limit)
    (hw : w = if vget p.scratch b < vget p.scratch a then vget p.scratch a - x else vget p.scratch a + x) :
    ∃ r : PassState, passPair act limit p (a, b) = r.counted ∧ r.adjustments = p.adjustments ∧ PassState.Reaches act p r a w
      ∧ vget r.scratch b = vget p.scratch b ∧ r.flags.getD b false = p.flags.getD b false
      ∧ (max (256 * (act a).lo) (min (256 * (act a).hi) w) = w → r.flags = p.flags) := by
  subst hx
  have sum : vget p.scratch a + (-((if vget p.scratch b < vget p.scratch a then 1 else -1)
      * (((vget p.scratch a - vget p.scratch b).natAbs : Int) - limit))) = w := by rw [hw]; split <;> omega
  obtain ⟨stays, flag⟩ := moveMember_stays (act := act) (p := p) (-((if vget p.scratch b < vget p.scratch a then 1 else -1)
      * (((vget p.scratch a - vget p.scratch b).natAbs : Int) - limit))) differ.symm
  exact ⟨_, passPair_of_first beyond first second, rfl, moveMember_reaches (ordered a) held sum, stays, flag,
    flags_moveMember_of_inside (ordered a) sum⟩

theorem passPair_second_reaches (ordered : ∀ i, (act i).lo ≤ (act i).hi) (differ : a ≠ b) (held : b < p.flags.length)
    (beyond : limit < (vget p.scratch a - vget p.scratch b).natAbs) (first : (act a).mode ≠ .normal)
    (second : (act b).mode = .normal) {x w : Int} (hx : x = (vget p.scratch a - vget p.scratch b).natAbs - limit)
    (hw : w = if vget p.scratch b < vget p.scratch a then vget p.scratch b + x else vget p.scratch b - x) :
    ∃ r : PassState, passPair act limit p (a, b) = r.counted ∧ r.adjustments = p.adjustments ∧ PassState.Reaches act p r b w
      ∧ vget r.scratch a = vget p.scratch a ∧ r.flags.getD a false = p.flags.getD a false
      ∧ (max (256 * (act b).lo) (min (256 * (act b).hi) w) = w → r.flags = p.flags) := by
  subst hx
  have sum : vget p.scratch b + ((if vget p.scratch b < vget p.scratch a then 1 else -1)
      * (((vget p.scratch a - vget p.scratch b).natAbs : Int) - limit)) = w := by rw [hw]; split <;> omega
  obtain ⟨stays, flag⟩ := moveMember_stays (act := act) (p := p) ((if vget p.scratch b < vget p.scratch a then 1 else -1)
      * (((vget p.scratch a - vget p.scratch b).natAbs : Int) - limit)) differ
  exact ⟨_, passPair_of_second beyond first second, rfl, moveMember_reaches (ordered b) held sum, stays, flag,
    flags_moveMember_of_inside (ordered b) sum⟩

end PairEnds

/-- Settles O32: the step by its mode; a pair by which of its members are NORMAL. -/
theorem actuatorSteps : Obligations.ActuatorSteps := by
  refine ⟨fun a gain leak z r ordered => ?step, fun act limit p a b differ => ?pair⟩
  case step =>
    intro t y
    refine ⟨fun normal => ?_, fun frozen => by simp [y, integratorStep, frozen], fun dead => by simp [y, integratorStep, dead]⟩
    have y_eq : y = (clampIntegrator a (roundHalfUp t 15), decide (clampIntegrator a (roundHalfUp t 15) ≠ roundHalfUp t 15)) := by
      simp [y, integratorStep, normal, t]
    have rounded : roundHalfUp t 15 = (t + 16384) / 32768 := by simp [roundHalfUp]
    have clamped := clampIntegrator_eq ordered (roundHalfUp t 15)
    refine ⟨roundHalfUp t 15, by omega, by omega, by rw [y_eq]; exact clamped, ?_, ?_⟩
    · rw [y_eq, decide_eq_true_eq, clamped]
      omega
    · rw [y_eq]
      exact clampIntegrator_bounds ordered _
  case pair =>
    intro u v q x lim moved stays ends
    refine ⟨passPair_of_le, passPair_of_other, fun beyond positive ordered held_a held_b => ⟨fun first second => ?_,
      fun first second => ?_, fun first second => ?_⟩, fun i other_a other_b => ?_⟩
    · intro w w'
      obtain ⟨r, walked, count, reach_a, reach_b, flags⟩ :=
        passPair_both_reaches (w := w) (w' := w') ordered differ held_a held_b beyond first second rfl rfl rfl
      have q_eq : q = r.counted := walked
      clear_value q
      subst q_eq
      refine ⟨reach_a, reach_b, congrArg (· + 1) count, fun inside_a inside_b => ⟨?_, flags inside_a inside_b⟩⟩
      have end_a : vget r.scratch a = w := reach_a.1.trans inside_a
      have end_b : vget r.scratch b = w' := reach_b.1.trans inside_b
      change ((vget r.scratch a - vget r.scratch b).natAbs : Int) = limit
      rw [end_a, end_b]
      dsimp only [w, w']
      split <;> omega
    · intro w
      obtain ⟨r, walked, count, reach_a, stay_b, flag_b, flags⟩ :=
        passPair_first_reaches (w := w) ordered differ held_a beyond first second rfl rfl
      have q_eq : q = r.counted := walked
      clear_value q
      subst q_eq
      refine ⟨reach_a, ⟨stay_b, flag_b⟩, congrArg (· + 1) count, fun inside => ⟨?_, flags inside⟩⟩
      have end_a : vget r.scratch a = w := reach_a.1.trans inside
      change ((vget r.scratch a - vget r.scratch b).natAbs : Int) = limit
      rw [end_a, stay_b]
      dsimp only [w]
      split <;> omega
    · intro w
      obtain ⟨r, walked, count, reach_b, stay_a, flag_a, flags⟩ :=
        passPair_second_reaches (w := w) ordered differ held_b beyond first second rfl rfl
      have q_eq : q = r.counted := walked
      clear_value q
      subst q_eq
      refine ⟨⟨stay_a, flag_a⟩, reach_b, congrArg (· + 1) count, fun inside => ⟨?_, flags inside⟩⟩
      have end_b : vget r.scratch b = w := reach_b.1.trans inside
      change ((vget r.scratch a - vget r.scratch b).natAbs : Int) = limit
      rw [end_b, stay_a]
      dsimp only [w]
      split <;> omega
    · exact passPair_stays other_a other_b

end Sys2Proof.Machine

/-! The memory's words, the arbiter with nothing else to do, and the transfers of the control link and the calibration unit
(03 section 3.6, 08 section 8.3). -/

namespace Sys2Proof.Machine
-- One theorem at a time: each worker thread reserves memory of its own.
set_option Elab.async false

/-! ## The arbiter with no job to serve (03 R67, R69) -/

/-- No job is in flight, none waits and no transfer is under way. -/
structure State.ArbiterFree (s : State) : Prop where
  current : s.mem.arbiter.current = none
  inFlight : s.recon.inFlight = none
  queue : s.recon.queue = []

theorem State.grant_of_waiting {s : State} (free : s.ArbiterFree) {c : Client} {rest : List Client}
    (waiting : s.mem.arbiter.waiting = c :: rest) :
    s.grant = s.setArbiter { current := s.transferOf c, waiting := rest } := by
  simp only [State.grant, free.current, free.inFlight, free.queue, waiting]

theorem State.grant_of_none_waiting {s : State} (free : s.ArbiterFree) (waiting : s.mem.arbiter.waiting = []) : s.grant = s := by
  simp only [State.grant, free.current, free.inFlight, free.queue, waiting]

theorem State.request_grant {s : State} (free : s.ArbiterFree) (waiting : s.mem.arbiter.waiting = []) (c : Client) :
    (s.request c).grant = s.setArbiter { current := s.transferOf c, waiting := [] } := by
  have asked : s.request c = s.setArbiter { s.mem.arbiter with waiting := [c] } := by simp [State.request, waiting]
  have freed : (s.setArbiter { s.mem.arbiter with waiting := [c] }).ArbiterFree := ⟨free.current, free.inFlight, free.queue⟩
  rw [asked, State.grant_of_waiting freed rfl]
  rfl

/-- The arbiter alone moves by a request and a grant. -/
theorem State.grant_eq (s : State) : ∃ a, s.grant = s.setArbiter a := by
  unfold State.grant
  split
  · exact ⟨_, rfl⟩
  · split
    · split
      · exact ⟨_, rfl⟩
      · split
        · exact ⟨_, rfl⟩
        · exact ⟨_, rfl⟩
    · split <;> exact ⟨_, rfl⟩

theorem State.request_eq (s : State) (c : Client) : ∃ a, s.request c = s.setArbiter a := by
  unfold State.request
  split
  · exact ⟨_, rfl⟩
  · exact ⟨_, rfl⟩

theorem State.request_grant_eq (s : State) (c : Client) : ∃ a, (s.request c).grant = s.setArbiter a := by
  obtain ⟨a, asked⟩ := s.request_eq c
  obtain ⟨b, granted⟩ := (s.request c).grant_eq
  exact ⟨b, by rw [granted, asked]; rfl⟩

/-! ## SET.LOAD (03 R58) -/

theorem flatten_slices (l : List Int) (n : Nat) : ∀ count, count * n ≤ l.length →
    ((List.range count).map fun r => (l.drop (r * n)).take n).flatten = l.take (count * n) := by
  intro count
  induction count with
  | zero => simp
  | succ count ih =>
    intro inside
    rw [Nat.succ_mul] at inside ⊢
    rw [List.range_succ, List.map_append, List.flatten_append, ih (by omega)]
    simp [List.take_add]

theorem s16s_append (a b : List Int) : s16s (a ++ b) = s16s a ++ s16s b := by simp [s16s]

theorem rdS16s_slice {coeffs : List Int} (fits : fitsS16 coeffs = true) (a : List Byte) {r k : Nat} (inside : r + k ≤ coeffs.length) :
    rdS16s (a ++ s16s coeffs) (a.length + 2 * r) k = (coeffs.drop r).take k := by
  have cut : coeffs = coeffs.take r ++ ((coeffs.drop r).take k ++ (coeffs.drop r).drop k) := by
    rw [List.take_append_drop, List.take_append_drop]
  have length : ((coeffs.drop r).take k).length = k := by simp; omega
  have read := rdS16s_s16s ((coeffs.drop r).take k) (a ++ s16s (coeffs.take r)) (s16s ((coeffs.drop r).drop k))
    fun x mem => (fitsS16_iff coeffs).mp fits x (List.mem_of_mem_drop (List.mem_of_mem_take mem))
  rw [length, List.length_append, length_s16s, List.length_take, min_eq_left (by omega), List.append_assoc, ← s16s_append,
    ← s16s_append, ← cut] at read
  exact read

/-- The rows of a SET.LOAD are slices of its coefficients. -/
theorem rdRows_payload {coeffs : List Int} (fits : fitsS16 coeffs = true) {a : List Byte} (head : a.length = 8) {count nSub : Nat}
    (long : coeffs.length = count * (2 * nSub)) :
    rdRows (a ++ s16s coeffs) count nSub = (List.range count).map fun r => (coeffs.drop (r * (2 * nSub))).take (2 * nSub) := by
  refine List.map_congr_left fun r named => ?_
  have inside : r * (2 * nSub) + 2 * nSub ≤ coeffs.length := by
    rw [long, ← Nat.succ_mul]
    exact Nat.mul_le_mul_right _ (List.mem_range.1 named)
  rw [show r * (4 * nSub) = 2 * (r * (2 * nSub)) by ring, ← head]
  exact rdS16s_slice fits a inside

theorem State.transferOf_loading {s : State} {c : Execution} (executing : s.link.executing = some c) (n : Fin 4) (i : Fin 6)
    (row : Nat) (rows : List (List Int)) : (s.setProgress (.loading n i row rows)).transferOf .controlLink = some .loadRow := by
  simp [State.transferOf, State.setProgress, executing]

/-- Settles O26: the rows that SET.LOAD reads are the slices of its coefficients. -/
theorem setLoadTaken : Obligations.SetLoadTaken := by
  intro s n i first count coeffs hfirst hcount fits heard
  let head := u16s [n.val, i.val, first, count]
  have set : rd16 (head ++ s16s coeffs) 0 = n.val := by simp [head, fin4_mod]
  have sensor : rd16 (head ++ s16s coeffs) 2 = i.val := by simp [head, fin6_mod]
  have first_eq : rd16 (head ++ s16s coeffs) 4 = first := by simp [head, Nat.mod_eq_of_lt hfirst]
  have count_eq : rd16 (head ++ s16s coeffs) 6 = count := by simp [head, Nat.mod_eq_of_lt hcount]
  have length : (head ++ s16s coeffs).length = 8 + 2 * coeffs.length := by simp [head]; omega
  have acts : exec .setLoad s = .next (setLoadAct (head ++ s16s coeffs) s) := runMessage_of_hears heard _
  simp only [setLoadAct, set, sensor, first_eq, count_eq, length, toSet_val, toSensor_val] at acts
  rw [if_neg (by omega)] at acts
  refine ⟨fun other => by rw [acts, if_pos other], fun loading unnamed => ?_, fun nSub loading named => ⟨?_, ?_, ?_⟩⟩
  · rw [acts, if_neg (not_not.2 loading), (SetRecord.nSubOf_eq_none_iff ..).2 unnamed]
  all_goals
    rw [if_neg (not_not.2 loading), named] at acts
    simp only [show 8 + 2 * coeffs.length - 8 = 2 * coeffs.length by omega,
      show count * (4 * nSub) = 2 * (count * (2 * nSub)) by ring] at acts
  · intro bad
    rw [acts, if_pos (by omega)]
  · intro some_rows long beyond
    rw [acts, if_neg (by omega), if_pos beyond]
  · intro some_rows long inside
    rw [if_neg (by omega), if_neg (by omega), rdRows_payload fits (by simp [head]) long] at acts
    obtain ⟨c, executing, -⟩ := (hears_iff s .setLoad _).1 heard
    refine ⟨(List.range count).map fun r => (coeffs.drop (r * (2 * nSub))).take (2 * nSub), _, acts, by simp, ?_, ?_, ?_⟩
    · rw [flatten_slices coeffs _ _ long.ge, ← long, List.take_length]
    · intro v mem
      obtain ⟨r, named, rfl⟩ := List.mem_map.1 mem
      have inside : r * (2 * nSub) + 2 * nSub ≤ coeffs.length := by
        rw [long, ← Nat.succ_mul]
        exact Nat.mul_le_mul_right _ (List.mem_range.1 named)
      simp; omega
    · obtain ⟨a, asked⟩ := State.request_grant_eq (s.setProgress (.loading n i first
        ((List.range count).map fun r => (coeffs.drop (r * (2 * nSub))).take (2 * nSub)))) .controlLink
      refine ⟨by rw [asked]; rfl, by rw [asked]; rfl, by rw [asked]; rfl, by rw [asked]; rfl, by rw [asked]; rfl, by rw [asked]; rfl,
        by rw [asked]; rfl, by rw [asked]; rfl, by rw [asked]; rfl, by rw [asked]; rfl, by rw [asked]; rfl, ?_⟩
      intro idle inFlight queue
      rw [State.request_grant (s := s.setProgress _) ⟨congrArg Arbiter.current idle, inFlight, queue⟩ (congrArg Arbiter.waiting idle),
        State.transferOf_loading executing]
      rfl

/-! ## A slot written (03 R55, section 3.6) -/

theorem toInt_ofInt_of_fits {x : Int} (lo : -32768 ≤ x) (hi : x ≤ 32767) : (BitVec.ofInt 16 x).toInt = x := by
  rw [BitVec.toInt_ofInt, Int.bmod_def]
  omega

theorem vget_padded (values : List Int) (j : Nat) : vget (padded values) j = vget values j := by
  rw [padded, vget_append]
  split
  · rfl
  · rw [vget_replicate, vget_of_length_le (by omega), ite_self]

section
variable {d : Dram} {values : List Int} (wf : d.wf = true) (slot : Nat)
include wf

theorem toInt_read_writeSlot (fits : fitsS16 values = true) {j : Nat} (inside : j < values.length) :
    ((d.writeSlot slot values).read (slot + j)).toInt = vget values j := by
  have bounds := (fitsS16_iff values).1 fits (vget values j) (by
    rw [vget_eq_getElem inside]
    exact List.getElem_mem inside)
  rw [read_writeSlot d slot _ values wf, if_pos (by rw [wordsOf]; omega), Nat.add_sub_cancel_left, vget_padded,
    toInt_ofInt_of_fits bounds.1 bounds.2]

theorem read_writeSlot_rest {j : Nat} (beyond : values.length ≤ j) (inside : j < 4 * ((values.length + 3) / 4)) :
    (d.writeSlot slot values).read (slot + j) = 0 := by
  rw [read_writeSlot d slot _ values wf, if_pos (by rw [wordsOf]; omega), Nat.add_sub_cancel_left, vget_padded,
    vget_of_length_le beyond]
  rfl

theorem read_writeSlot_other {place : Nat} (outside : place < slot ∨ slot + 4 * ((values.length + 3) / 4) ≤ place) :
    (d.writeSlot slot values).read place = d.read place := by
  rw [read_writeSlot d slot _ values wf, if_neg (by rw [wordsOf]; omega)]

end

theorem tableGet_tableErase {α β : Type} (d : β) (f : α → β) (t : List (Nat × α)) (keep : Nat → Bool) (a : Nat) :
    tableGet d ((tableErase t keep).map fun e => (e.1, f e.2)) a
      = if keep a then tableGet d (t.map fun e => (e.1, f e.2)) a else d := by
  induction t with
  | nil => simp [tableErase, tableGet]
  | cons e t ih =>
    simp only [tableErase] at ih
    by_cases kept : keep e.1 = true <;> by_cases key : a = e.1
    · subst key
      simp [tableErase, tableGet, kept]
    · simp [tableErase, tableGet, kept, key, ih]
    · subst key
      simp [tableErase, kept, ih]
    · simp [tableErase, tableGet, kept, key, ih]

/-- The words written are clean, every other word is as it was (03 section 3.6). -/
theorem wordError_writeSlot (d : Dram) (slot : Nat) (values : List Int) (w : Nat) :
    (d.writeSlot slot values).wordError w
      = if slot / 4 ≤ w ∧ w < slot / 4 + (values.length + 3) / 4 then none else d.wordError w := by
  have erased := tableGet_tableErase none some d.errors
    (fun w => decide (w < wordOf slot) || decide (wordOf slot + wordsOf values.length ≤ w)) w
  have kept : (decide (w < wordOf slot) || decide (wordOf slot + wordsOf values.length ≤ w)) = true
      ↔ ¬ (slot / 4 ≤ w ∧ w < slot / 4 + (values.length + 3) / 4) := by
    simp only [Bool.or_eq_true, decide_eq_true_eq]
    simp only [wordOf, wordsOf]
    omega
  refine erased.trans ?_
  by_cases inside : slot / 4 ≤ w ∧ w < slot / 4 + (values.length + 3) / 4
  · rw [if_pos inside, if_neg fun keep => kept.1 keep inside]
  · rw [if_neg inside, if_pos (kept.2 inside), Dram.wordError]

/-! ## SET_LOAD_ROW_WRITE (03 R59) -/

section
variable (r : SetRecord) (i : Fin 6) (row : Nat)

theorem SetRecord.mark_frame : (r.mark i row).state = r.state ∧ (r.mark i row).participation = r.participation
    ∧ (r.mark i row).rowsRequired = r.rowsRequired := by
  unfold SetRecord.mark
  split <;> exact ⟨rfl, rfl, rfl⟩

theorem SetRecord.rowsLoaded_mark : (r.mark i row).rowsLoaded = if row ∉ r.marks[i] then r.rowsLoaded + 1 else r.rowsLoaded := by
  unfold SetRecord.mark
  split <;> rfl

theorem SetRecord.mem_marks_mark (x : Nat) : x ∈ (r.mark i row).marks[i] ↔ x = row ∨ x ∈ r.marks[i] := by
  unfold SetRecord.mark
  split
  · next marked => exact ⟨.inr, fun h => h.elim (fun e => e ▸ marked) id⟩
  · simp [mem_insertRising]

end

section
variable (s : State) (n : Fin 4) (i : Fin 6) (row : Nat) (values : List Int)

/-- The state in which the write of a row has ended. -/
def State.rowWritten : State := (s.writeRow n i row values).endTransfer

theorem State.setRec_rowWritten : (s.rowWritten n i row values).setRec n = (s.setRec n).mark i row :=
  State.setRec_updSet (s.setDram (s.mem.dram.writeSlot (coefficientSlot n i row) values)) n fun r => r.mark i row

theorem State.setRec_rowWritten_ne {m : Fin 4} (other : m ≠ n) : (s.rowWritten n i row values).setRec m = s.setRec m :=
  State.setRec_updSet_ne (s.setDram (s.mem.dram.writeSlot (coefficientSlot n i row) values)) (fun r => r.mark i row) other

end

/-- The set after the last row of a SET.LOAD, and the reply (03 R59). -/
theorem State.finishLoad_eq (t : State) (n : Fin 4) :
    let state := if (t.setRec n).rowsLoaded = (t.setRec n).rowsRequired then .complete else (t.setRec n).state
    t.finishLoad n = { t.updSet n fun r => { r with state := state } with
      link := ((if (t.setRec n).rowsLoaded = (t.setRec n).rowsRequired then t.raise .setReady else t).reply .done
        [.u16 (setStateCode state), .u32 (t.setRec n).rowsLoaded]).link } := by
  intro state
  by_cases full : (t.setRec n).rowsLoaded = (t.setRec n).rowsRequired
  · have completed : t.completeSet n = (t.updSet n fun r => { r with state := .complete }).raise .setReady := if_pos full
    have record : ((t.updSet n fun r => { r with state := .complete }).raise .setReady).setRec n = { t.setRec n with state := .complete } :=
      State.setRec_updSet t n fun r => { r with state := .complete }
    simp only [State.finishLoad, completed, record, state, full, if_true]
    rfl
  · have completed : t.completeSet n = t := if_neg full
    have record : (t.updSet n fun r => { r with state := (t.setRec n).state }) = t := by
      have same : t.mem.sets.set n (t.mem.sets[n]) = t.mem.sets := Vector.set_getElem_self _
      have sets : (t.updSet n fun r => { r with state := (t.setRec n).state })
        = { t with mem := { t.mem with sets := t.mem.sets.set n (t.mem.sets[n]) } } := rfl
      rw [sets, same]
    simp only [State.finishLoad, completed, state, full, if_false]
    rw [record]
    rfl

/-- SET_LOAD_ROW_WRITE of the last row: the set as it then is, the reply, and nothing left to transfer (03 R59). -/
theorem exec_setLoadRowWrite_last {s : State} {n : Fin 4} {i : Fin 6} {row : Nat} {values : List Int}
    (current : s.mem.arbiter.current = some .loadRow) (loading : s.link.progress = some (.loading n i row [values]))
    (inFlight : s.recon.inFlight = none) (queue : s.recon.queue = []) (waiting : s.mem.arbiter.waiting = []) :
    exec .setLoadRowWrite s = .next ((s.rowWritten n i row values).finishLoad n) := by
  change execSetLoadRowWrite s = _
  have ends : ((s.rowWritten n i row values).finishLoad n).grant = (s.rowWritten n i row values).finishLoad n := by
    rw [State.finishLoad_eq]
    exact State.grant_of_none_waiting ⟨rfl, inFlight, queue⟩ waiting
  simp only [execSetLoadRowWrite, current, loading]
  exact congrArg _ ends

/-- SET_LOAD_ROW_WRITE of a row that others follow: the next row's transfer begins (03 R59). -/
theorem exec_setLoadRowWrite_more {s : State} {n : Fin 4} {i : Fin 6} {row : Nat} {values next : List Int} {rest : List (List Int)}
    (current : s.mem.arbiter.current = some .loadRow) (loading : s.link.progress = some (.loading n i row (values :: next :: rest)))
    (inFlight : s.recon.inFlight = none) (queue : s.recon.queue = []) (waiting : s.mem.arbiter.waiting = []) :
    exec .setLoadRowWrite s = .next (((s.rowWritten n i row values).setProgress (.loading n i (row + 1) (next :: rest))).setArbiter
      { current := some .loadRow, waiting := [] }) := by
  change execSetLoadRowWrite s = _
  obtain ⟨c, executing, -⟩ := Option.map_eq_some_iff.1 loading
  simp only [execSetLoadRowWrite, current, loading]
  have free : ((s.rowWritten n i row values).setProgress (.loading n i (row + 1) (next :: rest))).ArbiterFree := ⟨rfl, inFlight, queue⟩
  have granted := State.request_grant free waiting .controlLink
  rw [State.transferOf_loading (s := s.rowWritten n i row values) executing] at granted
  exact congrArg _ granted

/-- What the write of a row makes of its set's record, whatever the state the set is then in (03 R59). -/
theorem SetRecord.of_mark {r r' : SetRecord} {i : Fin 6} {row : Nat} {state : SetState}
    (record : r' = { r.mark i row with state := state }) :
    row ∈ r'.marks[i] ∧ (∀ x, x ≠ row → (x ∈ r'.marks[i] ↔ x ∈ r.marks[i]))
      ∧ r'.rowsLoaded = (if row ∉ r.marks[i] then r.rowsLoaded + 1 else r.rowsLoaded) ∧ r'.rowsRequired = r.rowsRequired
      ∧ r'.participation = r.participation := by
  subst record
  obtain ⟨-, participation, required⟩ := r.mark_frame i row
  exact ⟨(r.mem_marks_mark i row row).2 (.inl rfl), fun x other => (r.mem_marks_mark i row x).trans (or_iff_right other),
    r.rowsLoaded_mark i row, required, participation⟩

/-- Settles O27: the write of the row's slot, its mark, and the end of the load or the next request. -/
theorem setRowWrite : Obligations.SetRowWrite := by
  intro s n i row values rest c wf current executing progress fits _ inFlight queue waiting
  dsimp only
  have loading : s.link.progress = some (.loading n i row (values :: rest)) := by simp [ControlLink.progress, executing, progress]
  have marked : (s.rowWritten n i row values).setRec n = (s.setRec n).mark i row := State.setRec_rowWritten ..
  have others : ∀ m, m ≠ n → (s.rowWritten n i row values).setRec m = s.setRec m := fun m => State.setRec_rowWritten_ne s n i row values
  obtain ⟨state, -, required⟩ := (s.setRec n).mark_frame i row
  have loaded := (s.setRec n).rowsLoaded_mark i row
  cases rest with
  | nil =>
    have finished := (s.rowWritten n i row values).finishLoad_eq n
    rw [marked, required, loaded, state] at finished
    generalize counted : (if row ∉ (s.setRec n).marks[i] then (s.setRec n).rowsLoaded + 1 else (s.setRec n).rowsLoaded) = count at *
    generalize ended : (if count = (s.setRec n).rowsRequired then SetState.complete else (s.setRec n).state) = after at *
    have record := State.setRec_updSet (s.rowWritten n i row values) n fun r => { r with state := after }
    rw [marked] at record
    obtain ⟨own, other_marks, rows, required', participation⟩ := SetRecord.of_mark record
    refine ⟨_, (exec_setLoadRowWrite_last current loading inFlight queue waiting).trans (congrArg _ finished),
      fun _ => toInt_read_writeSlot wf _ fits, fun _ => read_writeSlot_rest wf _, fun _ => read_writeSlot_other wf _,
      fun w lo hi => (wordError_writeSlot ..).trans (if_pos ⟨lo, hi⟩),
      fun w outside => (wordError_writeSlot ..).trans (if_neg (by omega)), own, other_marks, ?_, required', participation, ?_, ?_,
      fun more => absurd rfl more, rfl, rfl, rfl, rfl, rfl, rfl, rfl, rfl⟩
    · exact rows.trans counted
    · exact fun m other => (State.setRec_updSet_ne (s.rowWritten n i row values) (fun r => { r with state := after }) other).trans
        (others m other)
    · refine fun _ => ⟨congrArg SetRecord.state record, ?_, ?_⟩
      · split <;> rfl
      · change { s.mem.arbiter with current := none } = _
        simp [waiting]
  | cons next rest =>
    have record : (s.rowWritten n i row values).setRec n = { (s.setRec n).mark i row with state := (s.setRec n).state } :=
      state ▸ marked
    obtain ⟨own, other_marks, rows, required', participation⟩ := SetRecord.of_mark record
    exact ⟨_, exec_setLoadRowWrite_more current loading inFlight queue waiting,
      fun _ => toInt_read_writeSlot wf _ fits, fun _ => read_writeSlot_rest wf _, fun _ => read_writeSlot_other wf _,
      fun w lo hi => (wordError_writeSlot ..).trans (if_pos ⟨lo, hi⟩),
      fun w outside => (wordError_writeSlot ..).trans (if_neg (by omega)), own, other_marks, rows, required', participation, others,
      nofun, fun _ => ⟨(congrArg SetRecord.state record :), rfl, rfl⟩, rfl, rfl, rfl, rfl, rfl, rfl, rfl, rfl⟩

end Sys2Proof.Machine

/-! The calibration unit's transfers: the responses written and read back (08 sections 8.3 and 8.5). -/

namespace Sys2Proof.Machine
-- One theorem at a time: each worker thread reserves memory of its own.
set_option Elab.async false

/-! ## CAL_RESPONSE_WRITE (08 R160, R161) -/

theorem State.phaseCommit_mem (s : State) (p : Phase) : (s.phaseCommit p).mem = s.mem ∧ (s.phaseCommit p).intake = s.intake
    ∧ (s.phaseCommit p).recon = s.recon ∧ (s.phaseCommit p).loop = s.loop ∧ (s.phaseCommit p).mon = s.mon := by
  cases named : s.cal.records[s.cal.entry]? with
  | none =>
    rw [State.phaseCommit, named]
    exact ⟨rfl, rfl, rfl, rfl, rfl⟩
  | some r =>
    obtain ⟨intake, -, mem, recon, loop, mon, -⟩ := State.phaseCommit_frame (phase := p) named
    exact ⟨mem, intake, recon, loop, mon⟩

/-- The state with another record of the run. -/
def State.withCal (s : State) (c : Calibration) : State := { s with cal := c }

/-- The state in which the transfer of a response has ended. -/
def State.responseWritten (s : State) (e : Nat) (i : Fin 6) (values : List Int) : State :=
  (s.setDram (s.mem.dram.writeSlot (responseSlot e i) values)).endTransfer

theorem exec_calResponseWrite {s : State} {e : Nat} {i : Fin 6} {values : List Int} {live : Bool}
    (current : s.mem.arbiter.current = some (.calWrite e i values live)) :
    exec .calResponseWrite s = .next (if live then (s.responseWritten e i values).nextResponse else s.responseWritten e i values).grant := by
  change execCalResponseWrite s = _
  simp only [execCalResponseWrite, current]
  rfl

/-- The run with the current entry COMPLETE and nothing left to store (08 R160). -/
def Calibration.entryDone (c : Calibration) : Calibration :=
  { c with storing := [], records := modifyAt (fun r => { r with complete := true }) c.records c.entry }

theorem State.nextResponse_more {s : State} {i j : Fin 6} {rest : List (Fin 6)} (storing : s.cal.storing = i :: j :: rest) :
    s.nextResponse = (s.withCal { s.cal with storing := j :: rest }).request .calibration := by
  simp [State.nextResponse, storing]
  rfl

theorem State.nextResponse_last {s : State} {i : Fin 6} (storing : s.cal.storing = [i]) (last : s.cal.records.length ≤ s.cal.entry + 1) :
    s.nextResponse = (s.withCal s.cal.entryDone).endRun .done := by
  have none_left : ¬ s.cal.entry + 1 < s.cal.records.length := by omega
  simp [State.nextResponse, storing, State.completeEntry, none_left]
  rfl

theorem State.nextResponse_next {s : State} {i : Fin 6} (storing : s.cal.storing = [i]) (more : s.cal.entry + 1 < s.cal.records.length) :
    s.nextResponse = (s.withCal { s.cal.entryDone with entry := s.cal.entry + 1 }).phaseCommit .push := by
  simp [State.nextResponse, storing, State.completeEntry, more]
  rfl

/-- What the run's going on after a transfer leaves unchanged (08 R160). -/
theorem State.nextResponse_frame (s : State) : s.nextResponse.mem.dram = s.mem.dram ∧ s.nextResponse.mem.sets = s.mem.sets
    ∧ s.nextResponse.intake = s.intake ∧ s.nextResponse.cyc = s.cyc ∧ s.nextResponse.recon = s.recon
    ∧ s.nextResponse.loop = s.loop ∧ s.nextResponse.mon = s.mon := by
  rcases storing : s.cal.storing with _ | ⟨i, _ | ⟨j, rest⟩⟩
  · simp [State.nextResponse, storing]
  · by_cases more : s.cal.entry + 1 < s.cal.records.length
    · obtain ⟨mem, intake, recon, loop, mon⟩ :=
        (s.withCal { s.cal.entryDone with entry := s.cal.entry + 1 }).phaseCommit_mem .push
      rw [State.nextResponse_next storing more, mem]
      exact ⟨rfl, rfl, intake, State.cyc_phaseCommit _ _, recon, loop, mon⟩
    · rw [State.nextResponse_last storing (by omega)]
      exact ⟨rfl, rfl, rfl, rfl, rfl, rfl, rfl⟩
  · obtain ⟨a, asked⟩ := (s.withCal { s.cal with storing := j :: rest }).request_eq .calibration
    rw [State.nextResponse_more storing, asked]
    exact ⟨rfl, rfl, rfl, rfl, rfl, rfl, rfl⟩

/-- Settles O48: the slot by the rules of a slot written, the run by the case of what is left to store. -/
theorem responseWrite : Obligations.ResponseWrite := by
  intro s e i values live wf current fits _ waiting inFlight queue
  dsimp only
  let w := s.responseWritten e i values
  have free : w.ArbiterFree := ⟨rfl, inFlight, queue⟩
  have arbiter : w.mem.arbiter = { current := none, waiting := [] } := by
    change { s.mem.arbiter with current := none } = _
    simp [waiting]
  let u := if live then w.nextResponse else w
  have acts : exec .calResponseWrite s = .next u.grant := exec_calResponseWrite current
  have frame : u.mem.dram = w.mem.dram ∧ u.mem.sets = w.mem.sets ∧ u.intake = w.intake ∧ u.cyc = w.cyc ∧ u.recon = w.recon
      ∧ u.loop = w.loop ∧ u.mon = w.mon := by
    cases live with
    | true => exact w.nextResponse_frame
    | false => exact ⟨rfl, rfl, rfl, rfl, rfl, rfl, rfl⟩
  obtain ⟨a, granted⟩ := u.grant_eq
  obtain ⟨dram, sets, intake, cyc, recon, loop, mon⟩ := frame
  have dram' : u.grant.mem.dram = s.mem.dram.writeSlot (responseSlot e i) values := by rw [granted]; exact dram
  refine ⟨_, acts, ?_⟩
  rw [dram']
  refine ⟨fun _ => toInt_read_writeSlot wf _ fits, fun _ => read_writeSlot_rest wf _, fun _ => read_writeSlot_other wf _,
      fun w lo hi => (wordError_writeSlot ..).trans (if_pos ⟨lo, hi⟩), by rw [granted]; exact sets, by rw [granted]; exact intake,
      by rw [granted]; exact cyc, by rw [granted]; exact recon, by rw [granted]; exact loop, by rw [granted]; exact mon, ?_, ?_, ?_, ?_⟩
  · intro dead
    have still : u.grant = w := by simp only [u, dead, Bool.false_eq_true, if_false]; exact State.grant_of_none_waiting free (congrArg Arbiter.waiting arbiter)
    rw [still]
    exact ⟨rfl, rfl, rfl, rfl, arbiter⟩
  · intro j rest alive storing
    have next : u = (w.withCal { w.cal with storing := j :: rest }).request .calibration := by
      simp only [u, alive, if_true]
      exact State.nextResponse_more storing
    have goes : u.grant = (w.withCal { w.cal with storing := j :: rest }).setArbiter
        { current := some (.calWrite s.cal.entry j (s.responsesOf j) true), waiting := [] } := by
      have freed : (w.withCal { w.cal with storing := j :: rest }).ArbiterFree := ⟨rfl, inFlight, queue⟩
      rw [next, State.request_grant freed (congrArg Arbiter.waiting arbiter)]
      rfl
    rw [goes]
    exact ⟨rfl, rfl, rfl, rfl⟩
  · intro r alive storing named last
    have ends : u = (w.withCal w.cal.entryDone).endRun .done := by
      simp only [u, alive, if_true]
      exact State.nextResponse_last storing last
    rw [granted, ends]
    exact ⟨rfl, rfl, modifyAt_eq_set _ named, rfl, rfl⟩
  · intro r r' alive storing named named'
    have more : s.cal.entry + 1 < s.cal.records.length := (List.getElem?_eq_some_iff.1 named').1
    have begins : u = (w.withCal { w.cal.entryDone with entry := w.cal.entry + 1 }).phaseCommit .push := by
      simp only [u, alive, if_true]
      exact State.nextResponse_next storing more
    have records : w.cal.entryDone.records = s.cal.records.set s.cal.entry { r with complete := true } := modifyAt_eq_set _ named
    have next : w.cal.entryDone.records[s.cal.entry + 1]? = some r' := by
      rw [records, List.getElem?_set_ne (by omega), named']
    have cal := State.cal_phaseCommit (s := w.withCal { w.cal.entryDone with entry := w.cal.entry + 1 }) (phase := .push) next
    have law := State.law_phaseCommit (s := w.withCal { w.cal.entryDone with entry := w.cal.entry + 1 }) (phase := .push) next
    rw [granted, begins]
    refine ⟨by rw [State.setArbiter_cal, cal]; rfl, by rw [State.setArbiter_cal, cal]; rfl, by rw [State.setArbiter_cal, cal]; rfl,
      by rw [State.setArbiter_cal, cal]; rfl, by rw [State.setArbiter_law, law]; rfl, ?_⟩
    rw [State.setArbiter_cal, cal]
    change Option.map _ ((w.cal.entryDone.records.set (s.cal.entry + 1) _)[s.cal.entry]?) = _
    rw [List.getElem?_set_ne (by omega), records, List.getElem?_set_self (List.getElem?_eq_some_iff.1 named).1]
    rfl

/-! ## CAL.READ and CAL_READ_TRANSFER (08 R164, 03 R70, R72) -/

/-- The error classes of n words from a word onward. -/
def Dram.classes (d : Dram) (w n : Nat) : List (Option WordError) := (List.range n).map fun k => d.wordError (w + k)

theorem Dram.classes_succ (d : Dram) (w n : Nat) : d.classes w (n + 1) = d.wordError w :: d.classes (w + 1) n := by
  rw [Dram.classes, List.range_succ_eq_map, List.map_cons, List.map_map]
  refine congrArg (_ :: ·) (List.map_congr_left fun k _ => ?_)
  simp only [Function.comp, Nat.succ_eq_add_one]
  rw [show w + (k + 1) = w + 1 + k by omega]

/-- Single-bit errors of a run of words. -/
def singles (words : List (Option WordError)) : Nat := (words.filter fun x => decide (x = some .single)).length

/-- A read without an uncorrectable word meets every single-bit error of its words (03 R70). -/
theorem Dram.scan_of_correctable (d : Dram) : ∀ n w, some WordError.double ∉ d.classes w n → d.scan w n = (singles (d.classes w n), false) := by
  intro n
  induction n with
  | zero => intro w _; rfl
  | succ n ih =>
    intro w clean
    rw [Dram.classes_succ, List.mem_cons, not_or] at clean
    have rest := ih (w + 1) clean.2
    rw [Dram.classes_succ]
    rcases found : d.wordError w with _ | _ | _
    · simp [Dram.scan, found, rest, singles]
    · simp [Dram.scan, found, rest, singles]
    · exact absurd found.symm clean.1

/-- A read ends at the first uncorrectable word: it has met at most the single-bit errors of its words (03 R71). -/
theorem Dram.scan_of_uncorrectable (d : Dram) : ∀ n w, some WordError.double ∈ d.classes w n →
    (d.scan w n).2 = true ∧ (d.scan w n).1 ≤ singles (d.classes w n) := by
  intro n
  induction n with
  | zero => intro w met; simp [Dram.classes] at met
  | succ n ih =>
    intro w met
    rw [Dram.classes_succ, List.mem_cons] at met
    rw [Dram.classes_succ]
    rcases found : d.wordError w with _ | _ | _
    · have rest := ih (w + 1) (met.resolve_left (by simp [found]))
      simpa [Dram.scan, found, singles] using rest
    · have rest := ih (w + 1) (met.resolve_left (by simp [found]))
      simpa [Dram.scan, found, singles] using rest
    · simp [Dram.scan, found]

theorem toSensor_eq_some {n : Nat} {i : Fin 6} (known : toSensor n = some i) : i.val = n := by
  unfold toSensor at known
  split at known
  · exact congrArg Fin.val (Option.some.inj known).symm
  · cases known

theorem exec_calReadTransfer {s : State} {us : List Upset} {c : Execution} {e first count : Nat} {i : Fin 6}
    (arbiter : s.mem.arbiter = { current := some .calRead, waiting := [] }) (executing : s.link.executing = some c)
    (reading : c.progress = .reading e i first count) (inFlight : s.recon.inFlight = none)
    (queue : s.recon.queue = []) {n : Nat} {failed : Bool}
    (scan : (s.mem.dram.upset (responseSlot e i) us).scan ((responseSlot e i + first) / 4)
      ((responseSlot e i + first + count - 1) / 4 - (responseSlot e i + first) / 4 + 1) = (n, failed)) :
    exec (.calReadTransfer us) s = .next (({ s with mem := { s.mem with
      dram := s.mem.dram.upset (responseSlot e i) us, arbiter := { current := none, waiting := [] }
      correctedErrors := counterAdd s.mem.correctedErrors n } } : State).replyResponses e (responseSlot e i + first) count failed) := by
  let read : State := { s with mem := { s.mem with
      dram := s.mem.dram.upset (responseSlot e i) us, arbiter := { current := none, waiting := [] }
      correctedErrors := counterAdd s.mem.correctedErrors n } }
  have current : s.mem.arbiter.current = some .calRead := congrArg Arbiter.current arbiter
  have progress : s.link.progress = some (.reading e i first count) := by simp [ControlLink.progress, executing, reading]
  have ended : ((s.setDram (s.mem.dram.upset (responseSlot e i) us)).endTransfer).mem.arbiter = read.mem.arbiter := by
    change ({ s.mem.arbiter with current := none } : Arbiter) = _
    rw [arbiter]
  have still : ∀ t : State, t.mem.arbiter = read.mem.arbiter → t.recon = s.recon → t.grant = t := fun t idle recon =>
    State.grant_of_none_waiting ⟨congrArg Arbiter.current idle, by rw [recon, inFlight], by rw [recon, queue]⟩ (congrArg Arbiter.waiting idle)
  have answered : (read.replyResponses e (responseSlot e i + first) count failed).grant
      = read.replyResponses e (responseSlot e i + first) count failed := by
    cases failed <;> exact still _ rfl rfl
  rw [← answered]
  change execCalReadTransfer us s = _
  simp only [execCalReadTransfer, current, progress]
  simp only [wordOf, scan]
  refine congrArg (fun a => Host.Outcome.next (State.grant (State.replyResponses a _ _ _ _))) ?_
  have split_mem : read = { (s.setDram (s.mem.dram.upset (responseSlot e i) us)).endTransfer with
      mem := { (s.setDram (s.mem.dram.upset (responseSlot e i) us)).endTransfer.mem with
        arbiter := read.mem.arbiter
        correctedErrors := counterAdd s.mem.correctedErrors n } } := rfl
  rw [split_mem, ← ended]
  rfl

/-- Settles O49: the two requests by their cases, the transfer by what the scan of its words meets. -/
theorem responseReadout : Obligations.ResponseReadout := by
  constructor
  · intro s e sensor first count he hsensor hfirst hcount hcount' heard
    dsimp only
    have acts : exec .calRead s = .next (calReadAct (u16s [e, sensor, first, count]) s) := runMessage_of_hears heard _
    have entry : rd16 (u16s [e, sensor, first, count]) 0 = e := by simp [Nat.mod_eq_of_lt he]
    have sensor_eq : rd16 (u16s [e, sensor, first, count]) 2 = sensor := by simp [Nat.mod_eq_of_lt hsensor]
    have first_eq : rd16 (u16s [e, sensor, first, count]) 4 = first := by simp [Nat.mod_eq_of_lt hfirst]
    have count_eq : rd16 (u16s [e, sensor, first, count]) 6 = count := by simp [Nat.mod_eq_of_lt (show count < 65536 by omega)]
    simp only [calReadAct, entry, sensor_eq, first_eq, count_eq] at acts
    rw [if_neg (by simp; omega)] at acts
    refine ⟨?_, ?_⟩
    · rintro (beyond | unnamed)
      · rw [acts, List.getElem?_eq_none beyond]
      · rcases named : s.cal.records[e]? with _ | r
        · rw [named] at acts
          exact acts
        · rcases known : toSensor sensor with _ | i
          · rw [named, known] at acts
            exact acts
          · have value : i.val = sensor := toSensor_eq_some known
            have absent : s.cal.nSubOf i = none := by
              rw [Calibration.nSubOf, Option.map_eq_none_iff, List.find?_eq_none]
              exact fun x mem same => unnamed x mem (by rw [of_decide_eq_true same, value])
            rw [named, known] at acts
            simp only [absent] at acts
            exact acts
    · intro r i n named sensor_named found
      subst sensor_named
      have nSub : s.cal.nSubOf i = some n := by simp [Calibration.nSubOf, found]
      simp only [named, toSensor_val, nSub] at acts
      refine ⟨fun beyond => by rw [acts, if_pos beyond], fun inside incomplete => ?_, fun inside complete idle inFlight queue => ?_⟩
      · rw [acts, if_neg (by omega), incomplete]; rfl
      · obtain ⟨c, executing, -⟩ := (hears_iff s .calRead _).1 heard
        have free : (s.setProgress (.reading e i first count)).ArbiterFree := ⟨congrArg Arbiter.current idle, inFlight, queue⟩
        rw [if_neg (by omega), complete, State.request_grant free (congrArg Arbiter.waiting idle)] at acts
        have asks : (s.setProgress (.reading e i first count)).transferOf .controlLink = some .calRead := by
          simp [State.transferOf, State.setProgress, executing]
        rw [asks] at acts
        exact acts
  · intro s us c r e first count i arbiter executing reading named _ inFlight queue
    dsimp only
    let d := s.mem.dram.upset (responseSlot e i) us
    let w := (responseSlot e i + first) / 4
    let n := (responseSlot e i + first + count - 1) / 4 - w + 1
    have data : ∀ place, d.read place = s.mem.dram.read place := fun place => congrArg (tableGet 0 · place) (upset_data ..)
    refine ⟨fun clean => ?_, fun met => ?_⟩
    · rw [exec_calReadTransfer arbiter executing reading inFlight queue (d.scan_of_correctable n w clean)]
      simp only [State.replyResponses, named, Dram.readRun, List.map_map, Function.comp_def, ← data]
      rfl
    · obtain ⟨failed, few⟩ := d.scan_of_uncorrectable n w met
      refine ⟨(d.scan w n).1, ?_, few⟩
      have scan : d.scan w n = ((d.scan w n).1, true) := Prod.ext rfl failed
      rw [exec_calReadTransfer arbiter executing reading inFlight queue scan]
      rfl

end Sys2Proof.Machine

/-! Acknowledgements and failures of the drive links (07 sections 7.3 and 7.4), and what the entry to IDLE or SAFE leaves to a
FAILED link. -/

namespace Sys2Proof.Machine
-- One theorem at a time: each worker thread reserves memory of its own.
set_option Elab.async false

/-! ## What the entry to IDLE or SAFE does not touch (06 R116) -/

/-- The loop stays, and so does every link that is FAILED and not up to date: a commit sends it nothing (07 R137). -/
structure State.StaysDown (s t : State) : Prop where
  loop : t.loop = s.loop
  failed : ∀ d, (s.driveLink d).state = .failed → (s.driveLink d).upToDate = false → t.driveLink d = s.driveLink d

namespace State.StaysDown

variable {s t u : State}

theorem refl (s : State) : StaysDown s s := ⟨rfl, fun _ _ _ => rfl⟩

theorem trans (first : StaysDown s t) (second : StaysDown t u) : StaysDown s u where
  loop := second.loop.trans first.loop
  failed d down stale := by
    have same := first.failed d down stale
    exact (second.failed d (by rw [same, down]) (by rw [same, stale])).trans same

theorem of_same (loop : t.loop = s.loop) (drive : t.drive = s.drive) : StaysDown s t :=
  ⟨loop, fun d _ _ => by rw [State.driveLink, State.driveLink, drive]⟩

theorem ite {c : Prop} [Decidable c] (yes : c → StaysDown s t) (no : ¬ c → StaysDown s u) : StaysDown s (if c then t else u) := by
  split
  · exact yes ‹_›
  · exact no ‹_›

theorem after_same (second : StaysDown t u) (loop : t.loop = s.loop) (drive : t.drive = s.drive) : StaysDown s u :=
  (of_same loop drive).trans second

theorem then_same (first : StaysDown s t) (loop : u.loop = t.loop) (drive : u.drive = t.drive) : StaysDown s u :=
  first.trans (of_same loop drive)

/-- A commit finds a FAILED link that is not up to date, and leaves it so (07 R137). -/
theorem commitVector (s : State) : StaysDown s s.commitVector where
  loop := rfl
  failed d down stale := by
    rw [State.driveLink_commitVector, linkCommit, down]
    simp only [← stale, ← down]

theorem commit (s : State) : StaysDown s s.commit := by
  refine (commitVector s).trans ?_
  rw [State.commit, State.foreignCommit_eq]
  exact of_same rfl rfl

theorem applyEdit (s : State) (first : Nat) (new : List ActRecord) : StaysDown s (s.applyEdit first new) :=
  ite (fun _ => (commit (s.writeActuators first new)).after_same rfl rfl) fun _ => of_same rfl rfl

theorem applyDeferred (s : State) : StaysDown s s.applyDeferred := by
  unfold State.applyDeferred
  split
  · exact refl s
  · next first new _ =>
    have applied := (applyEdit { s with law := { s.law with deferred := none } } first new).after_same (s := s) rfl rfl
    exact ite (fun _ => applied.then_same rfl rfl) fun _ => applied

theorem discardLaw (s : State) (bank : Bank) : StaysDown s (s.discardLaw bank) :=
  ((applyDeferred { s with law := { s.law with inProgress := none } }).after_same (s := s) rfl rfl).then_same rfl rfl

theorem abandon (s : State) (bank : Bank) : StaysDown s (s.abandon bank true) := by
  unfold State.abandon
  split
  · exact refl s
  · dsimp only
    split
    · exact refl s
    · split
      · exact of_same rfl rfl
      · exact of_same rfl rfl
      · exact (discardLaw _ bank).after_same rfl rfl

theorem abandonAll (s : State) : StaysDown s s.abandonAll := by
  have folded : ∀ (l : List Bank) (s : State), StaysDown s (l.foldl (fun u bank => u.abandon bank true) s) := by
    intro l
    induction l with
    | nil => exact refl
    | cons b l ih => exact fun s => (abandon s b).trans (ih _)
  exact (folded _ s).then_same rfl rfl

theorem abortRun (s : State) : StaysDown s s.abortRun := ite (fun _ => of_same rfl rfl) fun _ => refl _

theorem restCommit (s : State) : StaysDown s s.restCommit := (commit s.integratorReset.clearPokes).after_same rfl rfl

theorem entered (s : State) (rest : Bool) (l : LoopState) : StaysDown (s.setLoop l) (s.entered l rest) := by
  have dropped := (abandonAll (s.setLoop l).entryMarks).after_same (s := s.setLoop l) rfl rfl
  have aborted := (dropped.then_same (u := ((s.setLoop l).entryMarks).abandonAll.invalidateAll) rfl rfl).trans (abortRun _)
  exact (ite (fun _ => aborted.trans (restCommit _)) fun _ => aborted).then_same rfl rfl

end State.StaysDown

/-! ## The follow-ups of the entry -/

/-- No cycle is live and the loop opens none. -/
def State.resting (s : State) : Prop := s.loop.state.closedToCycles = true ∧ ∀ k ∈ s.cyc.cycles, k.abandoned = true

theorem State.drive_takeHead (s : State) (i : Fin 6) (f : Frame) : (s.takeHead i f).drive = s.drive := by
  unfold State.takeHead State.countTaken State.dropOnTake
  split <;> rfl

/-- At rest the offered head is taken at once (02 R30 case 1). -/
theorem State.offerHead_of_closed {s : State} (closed : s.loop.state.closedToCycles = true) (i : Fin 6) :
    (s.offerHead i).1.cyc = s.cyc ∧ (s.offerHead i).1.loop = s.loop ∧ (s.offerHead i).1.drive = s.drive := by
  unfold State.offerHead
  split
  · exact ⟨rfl, rfl, rfl⟩
  · next f _ _ =>
    rw [if_pos closed]
    have corrected : ∀ t : State, (t.correctFrame i (s.sensor i).activePage f).cyc = t.cyc
        ∧ (t.correctFrame i (s.sensor i).activePage f).loop = t.loop ∧ (t.correctFrame i (s.sensor i).activePage f).drive = t.drive := by
      intro t
      unfold State.correctFrame
      split <;> exact ⟨rfl, rfl, rfl⟩
    obtain ⟨cyc, loop, drive⟩ := corrected (s.takeHead i f)
    exact ⟨cyc.trans (s.cyc_takeHead i f), loop.trans (s.loop_takeHead i f), drive.trans (s.drive_takeHead i f)⟩

/-- At rest a cycle that passes is abandoned, and retires (05 R90). -/
theorem State.passToLaw_of_resting {s : State} (rest : s.resting) :
    s.passToLaw.loop = s.loop ∧ s.passToLaw.drive = s.drive ∧ ∀ k ∈ s.passToLaw.cyc.cycles, k.abandoned = true := by
  unfold State.passToLaw
  split
  · exact ⟨rfl, rfl, rest.2⟩
  · next k l cycles =>
    dsimp only
    rw [if_pos (rest.2 k (by simp [cycles]))]
    refine ⟨rfl, rfl, fun k' mem => ?_⟩
    obtain ⟨kept, -⟩ := List.mem_filter.1 mem
    obtain ⟨k'', mem'', rfl⟩ := List.mem_map.1 kept
    have := rest.2 k'' mem''
    split <;> exact this

theorem State.followUp_of_resting : ∀ (n : Nat) (o : Offering) (s : State), s.resting →
    (State.followUp n o s).loop = s.loop ∧ (State.followUp n o s).drive = s.drive := by
  intro n
  induction n with
  | zero => exact fun _ _ _ => ⟨rfl, rfl⟩
  | succ n ih =>
    intro o s rest
    have offered (i : Fin 6) : (s.offerHead i).1.resting ∧ (s.offerHead i).1.loop = s.loop ∧ (s.offerHead i).1.drive = s.drive := by
      obtain ⟨cyc, loop, drive⟩ := State.offerHead_of_closed rest.1 i
      exact ⟨⟨by rw [loop]; exact rest.1, by rw [cyc]; exact rest.2⟩, loop, drive⟩
    unfold State.followUp
    split
    · exact ih _ { s with cyc := { s.cyc with reoffer := false } } rest
    · split
      · obtain ⟨loop, drive, abandoned⟩ := State.passToLaw_of_resting rest
        obtain ⟨loop', drive'⟩ := ih o s.passToLaw ⟨by rw [loop]; exact rest.1, abandoned⟩
        exact ⟨loop'.trans loop, drive'.trans drive⟩
      · split
        · exact ⟨rfl, rfl⟩
        · next i =>
          obtain ⟨rest', loop, drive⟩ := offered i
          obtain ⟨loop', drive'⟩ := ih (if (s.offerHead i).2 then .headOf i else .nothing) _ rest'
          exact ⟨loop'.trans loop, drive'.trans drive⟩
        · split
          · exact ⟨rfl, rfl⟩
          · next i stamp _ =>
            obtain ⟨rest', loop, drive⟩ := offered i
            obtain ⟨loop', drive'⟩ := ih (.heads (stamp :: _)) _ rest'
            exact ⟨loop'.trans loop, drive'.trans drive⟩

theorem State.startJob_frame (s : State) : s.startJob.loop = s.loop ∧ s.startJob.drive = s.drive := by
  unfold State.startJob
  split <;> exact ⟨rfl, rfl⟩

theorem State.settle_of_resting {s : State} (rest : s.resting) (o : Offering) :
    (s.settle o).loop = s.loop ∧ (s.settle o).drive = s.drive := by
  obtain ⟨loop, drive⟩ := State.followUp_of_resting s.followBound o s rest
  obtain ⟨loop', drive'⟩ := (State.followUp s.followBound o s).startJob_frame
  obtain ⟨a, granted⟩ := (State.followUp s.followBound o s).startJob.grant_eq
  rw [State.settle, granted]
  exact ⟨loop'.trans loop, drive'.trans drive⟩

/-- The entry sends nothing to a FAILED link and leaves the loop as it was set (06 R121, 07 R137). -/
theorem State.staysDown_enterRest {s : State} (banked : s.banked) {l : LoopState} (closed : l.closedToCycles = true) (rest : Bool) :
    (s.setLoop l).StaysDown (s.enterRest l rest) := by
  have entered := State.StaysDown.entered s rest l
  have resting : (s.entered l rest).resting := ⟨by rw [entered.loop, State.loop_setLoop, closed], State.entered_abandoned banked l rest⟩
  obtain ⟨loop, drive⟩ := State.settle_of_resting resting (.heads [])
  rw [State.enterRest_eq]
  exact entered.trans (.of_same loop drive)

/-! ## The check of an acknowledgement (10 Table 10.9) -/

theorem ackChecked_iff (d : Fin 4) (b : List Byte) :
    ackChecked d b = true ↔ b.length = 7 ∧ byteAt b 0 = d.val ∧ BitVec.ofNat 32 (rd32 b 3) = crc32 (b.take 3) := by
  simp [ackChecked, and_assoc]

theorem ackChecked_ackBytes (d : Fin 4) (seq verdict : Byte) : ackChecked d (ackBytes d seq verdict) = true := by
  rw [ackChecked_iff]
  refine ⟨by simp [ackBytes], ?_, ?_⟩
  · simp [ackBytes, byteAt]
    omega
  · have sum : rd32 (ackBytes d seq verdict) 3 = (crc32 [BitVec.ofNat 8 d.val, seq, verdict]).toNat := by
      have read := rd32_append [BitVec.ofNat 8 d.val, seq, verdict] (beBytes 4 (crc32 [BitVec.ofNat 8 d.val, seq, verdict]).toNat) 0
      rw [rd32_last] at read
      exact read.trans (Nat.mod_eq_of_lt (BitVec.isLt _))
    rw [sum, BitVec.ofNat_toNat, BitVec.setWidth_eq]
    rfl

theorem exec_acknowledgement (s : State) (d : Fin 4) (seq verdict : Byte) :
    exec (.acknowledgement d (ackBytes d seq verdict)) s = .next (s.takeAck d seq (decide (verdict = 0))) :=
  if_pos (ackChecked_ackBytes d seq verdict)

theorem State.updLink_congr (s : State) {d : Fin 4} {f g : DriveLink → DriveLink} (same : f (s.driveLink d) = g (s.driveLink d)) :
    s.updLink d f = s.updLink d g := by
  have same' : f s.drive.links[d] = g s.drive.links[d] := same
  unfold State.updLink
  rw [same']

/-- Settles O44: the check, the late answer, the ACCEPT, and the failure below and at F_max. -/
theorem acknowledgements : Obligations.Acknowledgements := by
  refine ⟨fun s d seq verdict b => ?_, fun s d c => ?_⟩
  · intro l codes
    refine ⟨fun bad => ?_, fun late => ?_, fun busy same accept idle => ?_, fun busy same accept waiting => ?_⟩
    · refine if_neg fun checked => ?_
      obtain ⟨length, link, sum⟩ := (ackChecked_iff d b).1 checked
      exact bad.elim (· length) fun h => h.elim (· link) (· sum)
    · rw [exec_acknowledgement, State.takeAck, if_neg fun h => late.elim (· h.1) (· h.2.symm)]
    all_goals
      subst same accept
      rw [exec_acknowledgement, State.takeAck, if_pos ⟨busy, rfl⟩, if_pos (decide_eq_true rfl)]
    · have taken : linkAccept s.drive.tAck d (linkCodes s.law.committed s.mem.nAct d) l
          = { l with state := .idle, timer := none, failCount := 0, lastAccepted := some l.seq, upToDate := true } := by
        simp [linkAccept, idle]
      exact congrArg Host.Outcome.next (s.updLink_congr taken)
    · have taken : linkAccept s.drive.tAck d (linkCodes s.law.committed s.mem.nAct d) l
          = { l with timer := some s.drive.tAck, failCount := 0, lastAccepted := some l.seq, waiting := false, seq := l.seq + 1
                     frames := counterInc l.frames, inTransit := driveFrame d (l.seq + 1) codes } := by
        simp [linkAccept, waiting, sendFrame, busy]
        rfl
      exact congrArg Host.Outcome.next (s.updLink_congr taken)
  · intro l codes failed busy caused
    have acts : exec c s = .next (s.failLink d) := by
      rcases caused with ⟨rfl, timer⟩ | ⟨verdict, reject, rfl⟩
      · exact if_pos ⟨busy, Option.isSome_iff_ne_none.2 timer⟩
      · rw [exec_acknowledgement, State.takeAck, if_pos ⟨busy, rfl⟩, decide_eq_false reject]
        rfl
    rw [acts]
    let u := s.updLink d (linkFailure s.drive.tAck s.drive.fMax d (linkCodes s.law.committed s.mem.nAct d))
    have link : u.driveLink d = linkFailure s.drive.tAck s.drive.fMax d (linkCodes s.law.committed s.mem.nAct d) l :=
      State.driveLink_updLink ..
    refine ⟨fun below => ?_, fun reached rest => ?_, fun reached not_idle not_safe banked => ?_⟩
    · have sends : linkFailure s.drive.tAck s.drive.fMax d (linkCodes s.law.committed s.mem.nAct d) l
          = { l with timer := some s.drive.tAck, failCount := l.failCount + 1, failures := counterInc l.failures, waiting := false
                     seq := l.seq + 1, frames := counterInc l.frames, inTransit := driveFrame d (l.seq + 1) codes } := by
        simp [linkFailure, below, sendFrame, busy]
        rfl
      have running : (u.driveLink d).state ≠ .failed := by rw [link, sends]; simp [l, busy]
      have stays : s.failLink d = u := if_neg running
      rw [stays]
      exact congrArg Host.Outcome.next (s.updLink_congr sends)
    all_goals
      have fails : linkFailure s.drive.tAck s.drive.fMax d (linkCodes s.law.committed s.mem.nAct d) l
          = { l with state := .failed, timer := none, waiting := false, upToDate := false, failCount := l.failCount + 1
                     failures := counterInc l.failures } := by
        rw [linkFailure, if_neg (by omega)]
      have same : u = failed := s.updLink_congr fails
      have reports : s.failLink d = u.reportFailure := if_pos (by rw [link, fails])
      rw [reports, same]
    · exact congrArg Host.Outcome.next (if_pos ((LoopState.closedToCycles_iff _).2 rest))
    · have open_loop : ¬ (failed.raise .driveFail).loop.state.closedToCycles = true := fun closed =>
        ((LoopState.closedToCycles_iff _).1 closed).elim not_idle not_safe
      have enters : failed.reportFailure = (failed.raise .driveFail).enterRest .safe true := if_neg open_loop
      rw [enters]
      have down := State.staysDown_enterRest (s := failed.raise .driveFail) banked (l := .safe) rfl true
      have keeps := (failed.raise .driveFail).keeps_enterRest (free := fun a => a = .bound ∨ a = .resting) (.inl rfl) (.inr rfl) .safe true
      have record : failed.driveLink d = { l with state := .failed, timer := none, waiting := false, upToDate := false
                                                  failCount := l.failCount + 1, failures := counterInc l.failures } :=
        State.driveLink_updLink ..
      refine ⟨_, rfl, ?_, ?_, ?_, ?_⟩
      · rw [down.loop, State.loop_setLoop]
      · exact keeps.aspect .notices (by simp) _ (State.isPending_raise _ _)
      · have set : ((failed.raise .driveFail).setLoop .safe).driveLink d = failed.driveLink d := by
          unfold State.setLoop
          split <;> rfl
        exact (down.failed d (by rw [set, record]) (by rw [set, record])).trans set
      · refine keeps.aspect .restful (by simp) banked (fun closed => absurd closed open_loop) ?_
        rw [down.loop, State.loop_setLoop]
        rfl

end Sys2Proof.Machine

/-! What the calibration unit and a deferred edit leave unchanged when they act inside another block's step, and the hold
sources (06 sections 6.3 to 6.5). -/

namespace Sys2Proof.Machine
-- One theorem at a time: each worker thread reserves memory of its own.
set_option Elab.async false

/-! ## What a commit and a judgement leave unchanged (05 R100, 08 R155) -/

/-- Only the committed vector, the pokes, the drive links, the calibration unit, the arbiter and the notices may differ. -/
structure State.Aside (s t : State) : Prop where
  pending : t.pending = s.pending
  intake : t.intake = s.intake
  cyc : t.cyc = s.cyc
  mem : t.mem = { s.mem with arbiter := t.mem.arbiter }
  recon : t.recon = s.recon
  law : t.law = { s.law with committed := t.law.committed, calPoke := t.law.calPoke }
  loop : t.loop = s.loop
  mon : t.mon = s.mon
  link : t.link = { s.link with notices := t.link.notices }
  freeCount : t.freeCount = s.freeCount

namespace State.Aside

variable {s t u : State}

theorem refl (s : State) : Aside s s := ⟨rfl, rfl, rfl, rfl, rfl, rfl, rfl, rfl, rfl, rfl⟩

theorem trans (first : Aside s t) (second : Aside t u) : Aside s u where
  pending := second.pending.trans first.pending
  intake := second.intake.trans first.intake
  cyc := second.cyc.trans first.cyc
  mem := by rw [second.mem, first.mem]
  recon := second.recon.trans first.recon
  law := by rw [second.law, first.law]
  loop := second.loop.trans first.loop
  mon := second.mon.trans first.mon
  link := by rw [second.link, first.link]
  freeCount := second.freeCount.trans first.freeCount

theorem withCal (s : State) (c : Calibration) : Aside s (s.withCal c) := ⟨rfl, rfl, rfl, rfl, rfl, rfl, rfl, rfl, rfl, rfl⟩

theorem ite {c : Prop} [Decidable c] (yes : c → Aside s t) (no : ¬ c → Aside s u) : Aside s (if c then t else u) := by
  split
  · exact yes ‹_›
  · exact no ‹_›

theorem raise (s : State) (n : Notice) : Aside s (s.raise n) := ⟨rfl, rfl, rfl, rfl, rfl, rfl, rfl, rfl, rfl, rfl⟩

theorem commitVector (s : State) : Aside s s.commitVector := ⟨rfl, rfl, rfl, rfl, rfl, rfl, rfl, rfl, rfl, rfl⟩

theorem foreignCommit (s : State) : Aside s s.foreignCommit := by
  rw [State.foreignCommit_eq]
  exact withCal s _

theorem commit (s : State) : Aside s s.commit := (commitVector s).trans (foreignCommit _)

theorem phaseCommit (s : State) (p : Phase) : Aside s (s.phaseCommit p) := by
  cases named : s.cal.records[s.cal.entry]? with
  | none =>
    rw [State.phaseCommit, named]
    exact refl s
  | some r =>
    rw [State.phaseCommit_of_record named]
    exact ⟨rfl, rfl, rfl, rfl, rfl, rfl, rfl, rfl, rfl, rfl⟩

theorem request (s : State) (c : Client) : Aside s (s.request c) := by
  obtain ⟨a, asked⟩ := s.request_eq c
  rw [asked]
  exact ⟨rfl, rfl, rfl, rfl, rfl, rfl, rfl, rfl, rfl, rfl⟩

theorem endRun (s : State) (r : EndReason) : Aside s (s.endRun r) := ⟨rfl, rfl, rfl, rfl, rfl, rfl, rfl, rfl, rfl, rfl⟩

theorem endPhase (s : State) : Aside s s.endPhase := by
  unfold State.endPhase
  split
  · exact phaseCommit s _
  · exact (withCal s _).trans (request _ _)
  · exact refl s

theorem countVoidCycle (s : State) : Aside s s.countVoidCycle :=
  ite (fun _ => (withCal s _).trans (endRun _ _)) fun _ => withCal s _

theorem countCycle (s : State) (t : Tally) : Aside s (s.countCycle t) :=
  ite (fun _ => withCal s _) fun _ => ite (fun _ => (withCal s _).trans (endPhase _)) fun _ => withCal s _

theorem judgeTally (s : State) (bank : Bank) (abandoned : Bool) : Aside s (s.judgeTally bank abandoned) := by
  unfold State.judgeTally
  split
  · exact refl s
  · exact ite (fun _ => ite (fun _ => (withCal s _).trans (countVoidCycle _)) fun _ => (withCal s _).trans (countCycle _ _))
      fun _ => withCal s _

end State.Aside

/-! ## What an abandonment leaves to the loop supervisor -/

theorem State.loop_applyEdit (s : State) (first : Nat) (new : List ActRecord) : (s.applyEdit first new).loop = s.loop := by
  unfold State.applyEdit
  split
  · exact (State.Aside.commit _).loop
  · rfl

theorem State.loop_applyDeferred (s : State) : s.applyDeferred.loop = s.loop := by
  unfold State.applyDeferred
  split
  · rfl
  · dsimp only
    split <;> exact State.loop_applyEdit _ _ _

@[simp] theorem State.loop_abandon (s : State) (bank : Bank) (entry : Bool) : (s.abandon bank entry).loop = s.loop := by
  unfold State.abandon
  split
  · rfl
  · dsimp only
    split
    · rfl
    · split
      · split
        · rfl
        · split
          · exact (State.Aside.judgeTally _ _ _).loop
          · rfl
      · rfl
      · exact State.loop_applyDeferred _

@[simp] theorem State.loop_abandonLaw (s : State) : s.abandonLaw.loop = s.loop := by
  unfold State.abandonLaw
  split
  · rfl
  · exact State.loop_abandon _ _ _

/-! ## The hold sources (06 R125, R126, R128) -/

/-- The loop supervisor's record replaced. -/
def State.withLoop (s : State) (l : LoopSupervisor) : State := { s with loop := l }

theorem State.effectiveHold_holding (s : State) : s.effectiveHold = s.holding.any := rfl

/-- The sources that count are as before: nothing moves. -/
theorem State.holdsChanged_of_same {s : State} {before : HoldSet} (same : s.holding = before) : s.holdsChanged before = s := by
  have effective : s.effectiveHold = before.any := by rw [State.effectiveHold_holding, same]
  unfold State.holdsChanged
  split
  · rw [effective]
    cases before.any <;> rfl
  · rw [effective, if_pos same]
    cases before.any <;> rfl
  · rfl

theorem State.holdsChanged_of_outside {s : State} (open_loop : s.loop.state ≠ .closed) (free : s.loop.state ≠ .held) (before : HoldSet) :
    s.holdsChanged before = s := by
  unfold State.holdsChanged
  split
  · exact absurd ‹_› open_loop
  · exact absurd ‹_› free
  · rfl

theorem State.holdsChanged_onset {s : State} {before : HoldSet} (closed : s.loop.state = .closed) (none_before : before.any = false)
    (hold : s.effectiveHold = true) : s.holdsChanged before = s.onset := by
  unfold State.holdsChanged
  rw [closed]
  simp only [none_before, hold]
  rfl

theorem State.holdsChanged_release {s : State} {before : HoldSet} (held : s.loop.state = .held) (some_before : before.any = true)
    (no_hold : s.effectiveHold = false) : s.holdsChanged before = s.release := by
  unfold State.holdsChanged
  rw [held]
  simp only [some_before, no_hold]
  rfl

theorem State.holdsChanged_stays {s : State} {before : HoldSet} (held : s.loop.state = .held) (hold : s.effectiveHold = true)
    (other : s.holding ≠ before) : s.holdsChanged before = s.raise .holdChange := by
  unfold State.holdsChanged
  rw [held]
  simp only [hold, if_neg other]
  simp

theorem State.holding_eq (s : State) : s.holding =
    { command := s.loop.command
      pin := s.loop.holdnLow && decide (s.loop.params.exclusivity = .shared)
      inband := s.loop.inband && decide (s.loop.params.exclusivity = .shared)
      degraded := s.cyc.degraded
      diverge := s.loop.diverge } := by
  unfold State.holding
  cases s.loop.params.exclusivity <;> simp [State.sources, HoldSet.inter, counting]

theorem State.markOnset_of_not_armed {s : State} (idle : s.mon.snapState ≠ .armed) : s.markOnset = s := if_neg fun h => idle h.1

/-- An onset at the boundary with no armed store moves the loop state and raises the two notices (06 R126). -/
theorem State.onset_atBoundary {s : State} (closed : s.loop.state = .closed) (timing : s.loop.params.timing = .atBoundary)
    (idle : s.mon.snapState ≠ .armed) :
    s.onset = ((s.withLoop { s.loop with state := .held }).raise .loopState).raise .holdChange := by
  have moves : s.setLoop .held = (s.withLoop { s.loop with state := .held }).raise .loopState := if_neg (by simp [closed])
  have marks : ((s.setLoop .held).raise .holdChange).markOnset = (s.setLoop .held).raise .holdChange := by
    rw [moves]
    exact State.markOnset_of_not_armed idle
  have boundary : ((s.setLoop .held).raise .holdChange).loop.params.timing = .atBoundary := by rw [moves]; exact timing
  have stays : s.onset = (s.setLoop .held).raise .holdChange := by
    unfold State.onset
    simp only [marks, boundary]
  rw [stays, moves]

theorem State.release_eq {s : State} (held : s.loop.state = .held) :
    s.release = ((s.withLoop { s.loop with state := .closed, runCount := 0 }).raise .loopState).raise .holdChange := by
  have moves : s.setLoop .closed = (s.withLoop { s.loop with state := .closed }).raise .loopState := if_neg (by simp [held])
  unfold State.release
  rw [moves]
  rfl

theorem State.loop_onset (s : State) : s.onset.loop = { s.loop with state := .held } := by
  have moved : (s.setLoop .held).loop = { s.loop with state := .held } := by
    unfold State.setLoop
    split
    · next held => rw [← held]
    · rfl
  have marked : ((s.setLoop .held).raise .holdChange).markOnset.loop = { s.loop with state := .held } := by
    unfold State.markOnset
    split <;> exact moved
  unfold State.onset
  dsimp only
  split
  · rw [State.loop_abandonLaw, marked]
  · exact marked

theorem State.isPending_onset {s : State} (closed : s.loop.state = .closed) :
    s.onset.isPending .loopState = true ∧ s.onset.isPending .holdChange = true := by
  have moves : s.setLoop .held = (s.withLoop { s.loop with state := .held }).raise .loopState := if_neg (by simp [closed])
  let t := (s.setLoop .held).raise .holdChange
  have loop_state : t.isPending .loopState = true := by
    simp only [t, moves]
    exact State.isPending_raise_of _ _ _ (State.isPending_raise _ _)
  have keeps : t.Keeps (fun _ => False) s.onset := by
    have marked := t.keeps_markOnset (free := fun _ => False)
    unfold State.onset
    dsimp only
    split
    · exact marked.trans (State.keeps_abandonLaw _)
    · exact marked
  exact ⟨keeps.aspect .notices id _ loop_state, keeps.aspect .notices id _ (State.isPending_raise _ _)⟩

/-- The latches stay when the holds are evaluated again; a release clears the run count (06 R128). -/
theorem State.latches_holdsChanged (s : State) (before : HoldSet) : (s.holdsChanged before).loop.diverge = s.loop.diverge
    ∧ ((s.holdsChanged before).loop.runCount = s.loop.runCount ∨ (s.holdsChanged before).loop.runCount = 0) := by
  unfold State.holdsChanged
  split
  · split
    · rw [State.loop_onset]
      exact ⟨rfl, .inl rfl⟩
    · exact ⟨rfl, .inl rfl⟩
  · next held =>
    split
    · rw [State.release_eq held]
      exact ⟨rfl, .inr rfl⟩
    · split <;> exact ⟨rfl, .inl rfl⟩
  · exact ⟨rfl, .inl rfl⟩

/-! ## Steps that nothing follows -/

/-- Whether something follows a step is a question of the cycles, the jobs, the arbiter and the law in progress alone. -/
theorem State.quiet_congr {s t : State} (cyc : t.cyc = s.cyc) (recon : t.recon = s.recon) (arbiter : t.mem.arbiter = s.mem.arbiter)
    (law : t.law.inProgress = s.law.inProgress) : t.quiet = s.quiet := by
  unfold State.quiet State.canPass
  rw [cyc, recon, arbiter, law]

theorem State.settle_of_quiet_congr {s t : State} (quiet : s.quiet = true) (cyc : t.cyc = s.cyc) (recon : t.recon = s.recon)
    (arbiter : t.mem.arbiter = s.mem.arbiter) (law : t.law.inProgress = s.law.inProgress) : t.settle .nothing = t :=
  settle_of_quiet ((State.quiet_congr cyc recon arbiter law).trans quiet)

/-! ## LOOP.PARAM and the divergence monitor (06 R129, R131, R132) -/

theorem HoldSet.any_iff (x : HoldSet) : x.any = true ↔ x.command = true ∨ x.pin = true ∨ x.inband = true ∨ x.degraded = true
    ∨ x.diverge = true := by
  simp [HoldSet.any, or_assoc]

theorem clampNat_zero (hi x : Nat) : clampNat 0 hi x = min hi x := by rw [clampNat_eq_min_max (Nat.zero_le _), Nat.zero_max]

theorem exec_loopParam_of_hears {s : State} {g l d r n : Nat} {src : GainSource} {timing : HoldTiming} {excl : Exclusivity} {gate : Bool}
    (hg : g < 4294967296) (hl : l < 4294967296) (hd : d < 4294967296) (hr : r < 4294967296) (hn : n < 4294967296)
    (heard : s.hears .loopParam (u32s [g, l] ++ u16s [gainSourceCode src] ++ u32s [d]
      ++ u16s [timingCode timing, exclusivityCode excl, gateCode gate] ++ u32s [r, n]) = true) :
    let q : LoopParams := { gGlob := min 65535 g, leak := min 32768 l, gainSource := src, dMax := min 65535 d,
                            timing := timing, exclusivity := excl, flagGate := gate, rDiv := min 32767 r,
                            nDiv := min 255 (max 1 n) }
    exec .loopParam s = .next (((s.storeParams q).settle .nothing).reply
      (if g ≤ 65535 ∧ l ≤ 32768 ∧ d ≤ 65535 ∧ r ≤ 32767 ∧ 1 ≤ n ∧ n ≤ 255 then .done else .clamped) (paramFields q)) := by
  intro q
  obtain ⟨length, g_eq, l_eq, src_eq, d_eq, timing_eq, excl_eq, gate_eq, r_eq, n_eq⟩ := loopPayload_reads g l (gainSourceCode src) d
    (timingCode timing) (exclusivityCode excl) (gateCode gate) r n
  let p := u32s [g, l] ++ u16s [gainSourceCode src] ++ u32s [d] ++ u16s [timingCode timing, exclusivityCode excl, gateCode gate]
    ++ u32s [r, n]
  let given : LoopParams := { gGlob := g, leak := l, gainSource := src, dMax := d, timing := timing, exclusivity := excl,
                              flagGate := gate, rDiv := r, nDiv := n }
  have small : ∀ m : Nat, m < 2 → m % 65536 = m := fun m few => Nat.mod_eq_of_lt (by omega)
  have read : rdLoopParams p = some given := by
    simp only [rdLoopParams, p, g_eq, l_eq, src_eq, d_eq, timing_eq, excl_eq, gate_eq, r_eq, n_eq, Nat.mod_eq_of_lt hg,
      Nat.mod_eq_of_lt hl, Nat.mod_eq_of_lt hd, Nat.mod_eq_of_lt hr, Nat.mod_eq_of_lt hn]
    rw [small _ (by cases src <;> decide), small _ (by cases timing <;> decide), small _ (by cases excl <;> decide),
      small _ (by cases gate <;> decide), toGainSource_gainSourceCode, toTiming_timingCode, toExclusivity_exclusivityCode,
      toGate_gateCode]
  have ranged : given.inRange = q := by
    simp only [LoopParams.inRange, clampNat_zero, clampNat_eq_min_max (show 1 ≤ 255 by decide)]
    rfl
  have as_given : q = given ↔ g ≤ 65535 ∧ l ≤ 32768 ∧ d ≤ 65535 ∧ r ≤ 32767 ∧ 1 ≤ n ∧ n ≤ 255 := by
    simp only [q, given, LoopParams.mk.injEq, true_and]
    omega
  change execLoopParam s = _
  rw [execLoopParam, runMessage_of_hears heard, if_neg (not_not.2 length), read]
  have status : doneOr (decide (given.inRange ≠ given))
      = if g ≤ 65535 ∧ l ≤ 32768 ∧ d ≤ 65535 ∧ r ≤ 32767 ∧ 1 ≤ n ∧ n ≤ 255 then .done else .clamped := by
    rw [ranged, doneOr]
    simp only [ne_eq, as_given, decide_not, Bool.not_eq_true', decide_eq_false_iff_not, ite_not]
  change Host.Outcome.next (((s.storeParams given.inRange).settle .nothing).reply (doneOr (decide (given.inRange ≠ given)))
    (paramFields given.inRange)) = _
  rw [status, ranged]

/-- Settles O43: LOOP.PARAM by the sources that count before and after, the monitor by its four cases. -/
theorem loopParameters : Obligations.LoopParameters := by
  refine ⟨fun s g l d r n src timing excl gate hg hl hd hr hn quiet heard => ?_, fun s q => ?_⟩
  · intro q asGiven count stored data status line other
    have acts := exec_loopParam_of_hears hg hl hd hr hn heard
    have stores : s.storeParams q = (s.withLoop stored).holdsChanged s.holding := rfl
    have before := s.holding_eq
    have after := (s.withLoop stored).holding_eq
    have settles (t : State) (cyc : t.cyc = s.cyc) (recon : t.recon = s.recon) (arbiter : t.mem.arbiter = s.mem.arbiter)
        (law : t.law.inProgress = s.law.inProgress) (moved : s.storeParams q = t) :
        exec .loopParam s = .next (t.reply status data) := by
      rw [acts]
      change Host.Outcome.next (((s.storeParams q).settle .nothing).reply status data) = _
      rw [moved, State.settle_of_quiet_congr quiet cyc recon arbiter law]
    have moves (differs : excl ≠ s.loop.params.exclusivity) (some_line : line) : (s.withLoop stored).holding ≠ s.holding := by
      intro same
      rw [before, after] at same
      obtain ⟨-, pin, inband, -, -⟩ := HoldSet.mk.inj same
      have other : decide (excl = .shared) = !decide (s.loop.params.exclusivity = .shared) := by
        cases excl <;> cases old : s.loop.params.exclusivity <;> simp_all
      change (s.loop.holdnLow && decide (excl = .shared)) = _ at pin
      change (s.loop.inband && decide (excl = .shared)) = _ at inband
      rw [other] at pin inband
      rcases some_line with low | active
      · rw [low] at pin
        exact absurd pin (by cases decide (s.loop.params.exclusivity = .shared) <;> decide)
      · rw [active] at inband
        exact absurd inband (by cases decide (s.loop.params.exclusivity = .shared) <;> decide)
    refine ⟨fun same => ?_, fun held differs some_line => ⟨fun stays => ?_, fun alone none_other => ?_⟩,
      fun closed free some_line shared boundary idle => ?_⟩
    · refine settles _ rfl rfl rfl rfl (stores.trans ?_)
      rcases same with ⟨open_loop, not_held⟩ | same | no_line
      · exact State.holdsChanged_of_outside (s := s.withLoop stored) open_loop not_held _
      · refine State.holdsChanged_of_same ?_
        rw [before, after]
        simp [State.withLoop, stored, q, same]
      · refine State.holdsChanged_of_same ?_
        rw [before, after]
        simp only [line, not_or, Bool.not_eq_true] at no_line
        simp [State.withLoop, stored, no_line]
    · have hold : (s.withLoop stored).effectiveHold = true := by
        rw [State.effectiveHold_holding, after, HoldSet.any_iff]
        rcases stays with shared | other
        · simpa [State.withLoop, stored, q, shared] using or_iff_not_imp_left.2 fun _ => by tauto
        · simp only [State.withLoop, stored]
          tauto
      exact settles _ rfl rfl rfl rfl (stores.trans (State.holdsChanged_stays held hold (moves differs some_line)))
    · have no_hold : (s.withLoop stored).effectiveHold = false := by
        rw [Bool.eq_false_iff, ne_eq, State.effectiveHold_holding, after, HoldSet.any_iff]
        simp only [State.withLoop, stored, q, alone]
        simp only [other, not_or, Bool.not_eq_true] at none_other
        simp [none_other]
      have some_before : s.holding.any = true := by
        have shared : s.loop.params.exclusivity = .shared := by
          rw [alone] at differs
          cases old : s.loop.params.exclusivity
          · rfl
          · exact absurd old.symm differs
        rw [before, HoldSet.any_iff, shared]
        exact .inr (some_line.elim (fun low => .inl (by simp [low])) fun active => .inr (.inl (by simp [active])))
      exact settles _ rfl rfl rfl rfl (stores.trans ((State.holdsChanged_release (s := s.withLoop stored) held some_before no_hold).trans
        (State.release_eq held)))
    · have hold : (s.withLoop stored).effectiveHold = true := by
        rw [State.effectiveHold_holding, after, HoldSet.any_iff]
        simp only [State.withLoop, stored, q, shared, decide_true, Bool.and_true]
        tauto
      exact settles _ rfl rfl rfl rfl (stores.trans ((State.holdsChanged_onset (s := s.withLoop stored) closed free hold).trans
        (State.onset_atBoundary closed boundary idle)))
  · intro p t
    have square : (256 * p.rDiv) ^ 2 = 256 * p.rDiv * (256 * p.rDiv) := sq _
    refine ⟨fun off => if_pos off, fun on small => ?_, fun on large few => ?_, fun on large reached => ?_⟩
    · change s.takeQ q = _
      rw [State.takeQ, if_neg on, if_neg (by rw [square]; omega)]
    · change s.takeQ q = _
      rw [State.takeQ, if_neg on, if_pos (by rw [square]; omega), if_neg (by change ¬ p.nDiv ≤ _; omega)]
    · have latches : t = ((s.withLoop { s.loop with runCount := 0, diverge := true }).raise .diverge).holdsChanged s.holding := by
        change s.takeQ q = _
        rw [State.takeQ, if_neg on, if_pos (by rw [square]; omega), if_pos reached]
        rfl
      let u := (s.withLoop { s.loop with runCount := 0, diverge := true }).raise .diverge
      have hold : u.effectiveHold = true := by
        rw [State.effectiveHold_holding, State.holding_eq, HoldSet.any_iff]
        exact .inr (.inr (.inr (.inr rfl)))
      have keeps := u.keeps_holdsChanged (free := fun _ => False) s.holding
      rw [latches]
      obtain ⟨diverge, runCount⟩ := u.latches_holdsChanged s.holding
      refine ⟨diverge, runCount.elim id id, keeps.aspect .notices id _ (State.isPending_raise _ _), fun closed free => ?_, fun held => ?_⟩
      · have onset : u.holdsChanged s.holding = u.onset := State.holdsChanged_onset closed free hold
        obtain ⟨loop_state, hold_change⟩ := State.isPending_onset (s := u) closed
        rw [onset]
        exact ⟨by rw [State.loop_onset], hold_change, loop_state⟩
      · by_cases same : u.holding = s.holding
        · rw [State.holdsChanged_of_same same]
          exact held
        · rw [State.holdsChanged_stays (s := u) held hold same]
          exact held

end Sys2Proof.Machine

/-! Hold onsets and releases by the commands and by HOLDN (06 sections 6.3 and 6.4). -/

namespace Sys2Proof.Machine
-- One theorem at a time: each worker thread reserves memory of its own.
set_option Elab.async false

/-! ## Follow-ups with empty intake queues -/

/-- No job waits to start and the arbiter has nothing to grant. -/
def State.jobsQuiet (s : State) : Bool :=
  (s.recon.inFlight.isSome || s.recon.queue.isEmpty)
    && (s.mem.arbiter.current.isSome
      || (match s.recon.inFlight with
        | none => s.mem.arbiter.waiting.isEmpty
        | some f => match f.job.kind with
          | .substitution => true
          | .contribution _ => decide (f.nAct ≤ f.nextRow)))

theorem State.quiet_iff (s : State) : s.quiet = true ↔ s.cyc.reoffer = false ∧ s.canPass = false ∧ s.jobsQuiet = true := by
  have split : s.quiet = (!s.cyc.reoffer && !s.canPass && s.jobsQuiet) := by
    unfold State.quiet State.jobsQuiet
    rw [Bool.and_assoc (!s.cyc.reoffer && !s.canPass)] <;> rfl
  rw [split]
  simp [and_assoc]

theorem State.jobsQuiet_congr {s t : State} (recon : t.recon = s.recon) (arbiter : t.mem.arbiter = s.mem.arbiter) :
    t.jobsQuiet = s.jobsQuiet := by
  unfold State.jobsQuiet
  rw [recon, arbiter]

/-- The heads have been offered again. -/
def State.offeredAgain (s : State) : State := { s with cyc := { s.cyc with reoffer := false } }

theorem State.nextHead_of_empty {s : State} (empty : ∀ i, (s.sensor i).queue = []) (considered : List Nat) :
    s.nextHead considered = none := by
  have folded : ∀ l : List (Fin 6), l.foldl (fun best i =>
      match (s.sensor i).queue with
      | [] => best
      | f :: _ =>
        if f.stamp ∈ considered then best
        else match best with
          | none => some (i, f.stamp)
          | some b => if f.stamp < b.2 then some (i, f.stamp) else best) none = none := by
    intro l
    induction l with
    | nil => rfl
    | cons i l ih => rw [List.foldl_cons, empty i]; exact ih
  exact folded allSensors

theorem State.followBound_large (s : State) : ∃ n, s.followBound = n + 3 := by
  have large : 3 * 6 ≤ s.followBound := Nat.mul_le_mul (by omega) (by omega)
  exact ⟨s.followBound - 3, by omega⟩

/-- With empty queues and no cycle that can pass, the follow-ups end when the heads have been offered again. -/
theorem State.followUp_of_empty {s : State} (empty : ∀ i, (s.sensor i).queue = []) (no_pass : s.canPass = false) (n : Nat) :
    State.followUp (n + 2) .nothing s = s.offeredAgain := by
  have none_waits : s.offeredAgain.nextHead [] = none := State.nextHead_of_empty empty []
  have no_pass' : s.offeredAgain.canPass = false := no_pass
  rw [State.followUp]
  by_cases reoffer : s.cyc.reoffer = true
  · rw [if_pos reoffer]
    change State.followUp (n + 1) (.heads []) s.offeredAgain = _
    rw [State.followUp, if_neg (by simp [State.offeredAgain]), no_pass', none_waits]
    rfl
  · rw [if_neg reoffer, no_pass]
    rw [Bool.not_eq_true] at reoffer
    have same : s.offeredAgain = s := by
      unfold State.offeredAgain
      rw [← reoffer]
    exact same.symm

theorem State.settle_of_empty {s : State} (empty : ∀ i, (s.sensor i).queue = []) (quiet : s.offeredAgain.quiet = true) :
    s.settle .nothing = s.offeredAgain := by
  have no_pass : s.offeredAgain.canPass = false := ((State.quiet_iff _).1 quiet).2.1
  obtain ⟨n, bound⟩ := s.followBound_large
  have followed : State.followUp s.followBound .nothing s = s.offeredAgain := by rw [bound]; exact State.followUp_of_empty empty no_pass _
  have still : State.followUp s.offeredAgain.followBound .nothing s.offeredAgain = s.offeredAgain := followUp_of_still rfl no_pass _
  have settled := settle_of_quiet quiet
  rw [State.settle, still] at settled
  rw [State.settle, followed, settled]

/-! ## Abandonment of the cycle whose law is in progress (02 R49, 06 R127) -/

theorem State.removeJobs_of_none {s : State} {b : Bank} (none_queued : ∀ j ∈ s.recon.queue, j.bank ≠ b) : s.removeJobs b = s := by
  have removed : (s.recon.queue.filter fun j => decide (j.bank = b)) = [] := by simpa using none_queued
  have kept : (s.recon.queue.filter fun j => decide (j.bank ≠ b)) = s.recon.queue := by simpa using none_queued
  have subs : (Vector.ofFn fun i : Fin 6 => s.cyc.pendingSubs[i] - 0) = s.cyc.pendingSubs := Vector.ofFn_getElem ..
  have cycles : (s.cyc.cycles.map fun k => if k.bank = b then { k with outstanding := k.outstanding - 0 } else k) = s.cyc.cycles := by
    simp
  unfold State.removeJobs
  simp only [removed, kept]
  change ({ s with
      recon := { s.recon with queue := s.recon.queue }
      cyc := { s.cyc with
        pendingSubs := Vector.ofFn fun i : Fin 6 => s.cyc.pendingSubs[i] - 0
        cycles := s.cyc.cycles.map fun k => if k.bank = b then { k with outstanding := k.outstanding - 0 } else k } } : State) = s
  rw [subs, cycles]

/-- What is changed of a cycle does not matter once it has retired. -/
theorem filter_updCycle (cycles : List Cycle) (b : Bank) (f : Cycle → Cycle) (same : ∀ k, (f k).bank = k.bank) :
    ((cycles.map fun k => if k.bank = b then f k else k).filter fun k => decide (k.bank ≠ b))
      = cycles.filter fun k => decide (k.bank ≠ b) := by
  induction cycles with
  | nil => rfl
  | cons k l ih =>
    rw [List.map_cons, List.filter_cons, List.filter_cons, ih]
    by_cases own : k.bank = b
    · simp [own, same]
    · simp [own]

/-- With no deferred edit the law in progress is gone and its cycle retired (05 R93). -/
theorem State.abandon_law {s : State} {b : Bank} {k : Cycle} (bound : s.cycleAt b = some k) (live : k.abandoned = false)
    (in_law : k.state = .law) (none_deferred : s.law.deferred = none) (none_queued : ∀ j ∈ s.recon.queue, j.bank ≠ b) (entry : Bool) :
    s.abandon b entry = { s with
      law := { s.law with inProgress := none }
      cyc := { s.cyc with
        abandonedCount := counterInc s.cyc.abandonedCount, cycles := s.cyc.cycles.filter fun k => decide (k.bank ≠ b), reoffer := true } } := by
  let counted := ({ s with cyc := { s.cyc with abandonedCount := counterInc s.cyc.abandonedCount } } : State).updCycle b
    fun k => { k with abandoned := true }
  have removed : counted.removeJobs b = counted := State.removeJobs_of_none none_queued
  have no_edit : ({ counted with law := { counted.law with inProgress := none } } : State).applyDeferred
      = { counted with law := { counted.law with inProgress := none } } := by
    unfold State.applyDeferred
    simp only [counted, State.updCycle_law, none_deferred]
  have abandoned : s.abandon b entry = counted.discardLaw b := by
    unfold State.abandon
    simp only [bound, live, in_law]
    exact congrArg (State.discardLaw · b) removed
  have gone : counted.discardLaw b = ({ counted with law := { counted.law with inProgress := none } } : State).retire b :=
    congrArg (State.retire · b) no_edit
  rw [abandoned, gone]
  unfold State.retire
  have cycles := filter_updCycle s.cyc.cycles b (fun k => { k with abandoned := true }) fun _ => rfl
  simp only [counted, State.updCycle, cycles]

/-! ## The obligation -/

theorem State.onset_immediate {s : State} (closed : s.loop.state = .closed) (timing : s.loop.params.timing = .immediate)
    (idle : s.mon.snapState ≠ .armed) :
    s.onset = (((s.withLoop { s.loop with state := .held }).raise .loopState).raise .holdChange).abandonLaw := by
  have moves : s.setLoop .held = (s.withLoop { s.loop with state := .held }).raise .loopState := if_neg (by simp [closed])
  have marks : ((s.setLoop .held).raise .holdChange).markOnset = (s.setLoop .held).raise .holdChange := by
    rw [moves]
    exact State.markOnset_of_not_armed idle
  have immediate : ((s.setLoop .held).raise .holdChange).loop.params.timing = .immediate := by rw [moves]; exact timing
  have discards : s.onset = ((s.setLoop .held).raise .holdChange).abandonLaw := by
    unfold State.onset
    simp only [marks, immediate]
  rw [discards, moves]

/-- The supervisor's record with the line at a level, with LOOP.HOLD's latch set, and with both latches clear (06 R123, R124). -/
def LoopSupervisor.lineAt (l : LoopSupervisor) (low : Bool) : LoopSupervisor := { l with holdnLow := low }

def LoopSupervisor.commanded (l : LoopSupervisor) : LoopSupervisor := { l with command := true }

def LoopSupervisor.released (l : LoopSupervisor) : LoopSupervisor := { l with command := false, diverge := false }

section
variable {s t : State}

theorem State.holding_lineAt (low : Bool) : (s.withLoop (s.loop.lineAt low)).holding
    = { s.holding with pin := low && decide (s.loop.params.exclusivity = .shared) } := by
  rw [State.holding_eq, State.holding_eq]
  rfl

theorem State.holding_commanded : (s.withLoop s.loop.commanded).holding = { s.holding with command := true } := by
  rw [State.holding_eq, State.holding_eq]
  rfl

theorem State.holding_released : (s.withLoop s.loop.released).holding = { s.holding with command := false, diverge := false } := by
  rw [State.holding_eq, State.holding_eq]
  rfl

theorem exec_holdnChange_of {low : Bool} (moved : (s.withLoop (s.loop.lineAt low)).holdsChanged s.holding = t)
    (still : t.settle .nothing = t) : exec (.holdnChange low) s = .next t := by
  change Host.Outcome.next (((s.withLoop (s.loop.lineAt low)).holdsChanged s.holding).settle .nothing) = _
  rw [moved, still]

theorem exec_loopHold_of (heard : s.hears .loopHold [] = true)
    (moved : (s.withLoop s.loop.commanded).holdsChanged s.holding = t) (still : t.settle .nothing = t) :
    exec .loopHold s = .next (t.reply .done []) := by
  have acts : exec .loopHold s = .next ((((s.withLoop s.loop.commanded).holdsChanged s.holding).settle .nothing).reply .done []) := by
    change execLoopHold s = _
    rw [execLoopHold, runMessage_of_hears heard]
    rfl
  rw [acts, moved, still]

theorem exec_loopRelease_of (heard : s.hears .loopRelease [] = true)
    (moved : (s.withLoop s.loop.released).holdsChanged s.holding = t) : exec .loopRelease s = .next (t.reply .done []) := by
  have acts : exec .loopRelease s = .next (((s.withLoop s.loop.released).holdsChanged s.holding).reply .done []) := by
    change execLoopRelease s = _
    rw [execLoopRelease, runMessage_of_hears heard]
    rfl
  rw [acts, moved]

/-- HOLDN going low discards the law in progress and retires its cycle, with IMMEDIATE timing (06 R127). -/
theorem exec_holdnChange_immediate {run : LawRun} {k : Cycle} (quiet : s.quiet = true) (closed : s.loop.state = .closed)
    (no_hold : s.effectiveHold = false) (idle : s.mon.snapState ≠ .armed) (timing : s.loop.params.timing = .immediate)
    (shared : s.loop.params.exclusivity = .shared) (begun : s.law.inProgress = some run) (one : s.cyc.cycles = [k])
    (bank : k.bank = run.bank) (in_law : k.state = .law) (live : k.abandoned = false) (no_edit : s.law.deferred = none)
    (none_queued : ∀ j ∈ s.recon.queue, j.bank ≠ k.bank) (empty : ∀ i, (s.sensor i).queue = []) :
    exec (.holdnChange true) s = .next { ((s.withLoop { s.loop.lineAt true with state := .held }).raise .loopState).raise .holdChange with
      law := { s.law with inProgress := none }
      cyc := { s.cyc with abandonedCount := counterInc s.cyc.abandonedCount, cycles := [], reoffer := false } } := by
  let u := ((s.withLoop { s.loop.lineAt true with state := .held }).raise .loopState).raise .holdChange
  have hold : (s.withLoop (s.loop.lineAt true)).holding.any = true := by simp [State.holding_lineAt, HoldSet.any, shared]
  have moved : (s.withLoop (s.loop.lineAt true)).holdsChanged s.holding = u.abandonLaw :=
    (State.holdsChanged_onset (s := s.withLoop (s.loop.lineAt true)) closed no_hold hold).trans
      (State.onset_immediate (s := s.withLoop (s.loop.lineAt true)) closed timing idle)
  have bound : u.cycleAt run.bank = some k := by
    rw [← bank]
    exact State.banked_singleton (s := u) one
  have discards : u.abandonLaw = u.abandon run.bank false := by
    unfold State.abandonLaw
    simp only [show u.law.inProgress = some run from begun]
  have gone := State.abandon_law bound live in_law (s := u) no_edit (bank ▸ none_queued) false
  have none_left : (u.cyc.cycles.filter fun k => decide (k.bank ≠ run.bank)) = [] := by
    simp [show u.cyc.cycles = [k] from one, bank]
  rw [none_left] at gone
  change Host.Outcome.next (((s.withLoop (s.loop.lineAt true)).holdsChanged s.holding).settle .nothing) = _
  rw [moved, discards, gone]
  have jobs : s.jobsQuiet = true := ((State.quiet_iff s).1 quiet).2.2
  exact congrArg Host.Outcome.next (State.settle_of_empty empty ((State.quiet_iff _).2 ⟨rfl, rfl, jobs⟩))

end

/-- Settles O41: each command by the sources that count before and after it. -/
theorem holdOnsetsAndReleases : Obligations.HoldOnsetsAndReleases := by
  refine ⟨fun s quiet not_closed not_held => ?_, fun s quiet closed no_hold idle => ?_, fun s quiet held => ?_⟩
  all_goals
    have still (l : LoopSupervisor) : (s.withLoop l).settle .nothing = s.withLoop l :=
      State.settle_of_quiet_congr quiet rfl rfl rfl rfl
  · have stays (l : LoopSupervisor) (same : l.state = s.loop.state) : (s.withLoop l).holdsChanged s.holding = s.withLoop l :=
      State.holdsChanged_of_outside (s := s.withLoop l) (by rw [State.withLoop, same]; exact not_closed)
        (by rw [State.withLoop, same]; exact not_held) _
    exact ⟨fun low => exec_holdnChange_of (stays _ rfl) (still _), fun heard => exec_loopHold_of heard (stays _ rfl) (still _),
      fun heard => exec_loopRelease_of heard (stays _ rfl)⟩
  · intro onset
    have moves (l : LoopSupervisor) (same : l.state = s.loop.state) (timing : l.params.timing = .atBoundary)
        (hold : (s.withLoop l).holding.any = true) : (s.withLoop l).holdsChanged s.holding = onset l :=
      (State.holdsChanged_onset (s := s.withLoop l) (same.trans closed) no_hold hold).trans
        (State.onset_atBoundary (same.trans closed) timing idle)
    refine ⟨fun timing shared => ?_, fun only => ?_, fun timing heard => ?_, fun run k timing shared begun one bank in_law live
      no_edit none_queued empty => ?_⟩
    · refine exec_holdnChange_of (moves (s.loop.lineAt true) rfl timing ?_) (State.settle_of_quiet_congr quiet rfl rfl rfl rfl)
      rw [State.holding_lineAt, HoldSet.any_iff]
      exact .inr (.inl (by simp [shared]))
    · refine exec_holdnChange_of (State.holdsChanged_of_same ?_) (still _)
      rw [State.holding_lineAt, State.holding_eq]
      simp [only]
    · refine exec_loopHold_of heard (moves s.loop.commanded rfl timing ?_) (State.settle_of_quiet_congr quiet rfl rfl rfl rfl)
      rw [State.holding_commanded, HoldSet.any_iff]
      exact .inl rfl
    · exact ⟨_, exec_holdnChange_immediate quiet closed no_hold idle timing shared begun one bank in_law live no_edit none_queued empty,
        rfl, rfl, rfl, rfl, State.isPending_raise_of _ _ _ (State.isPending_raise _ _), State.isPending_raise _ _, rfl, rfl, rfl, rfl⟩
  · intro free sharing
    dsimp only [sharing]
    clear sharing
    have before := s.holding_eq
    have releases (l : LoopSupervisor) (same : l.state = s.loop.state) (some_before : s.holding.any = true)
        (none_after : (s.withLoop l).holding.any = false) : (s.withLoop l).holdsChanged s.holding = free l :=
      (State.holdsChanged_release (s := s.withLoop l) (same.trans held) some_before none_after).trans (State.release_eq (same.trans held))
    have stays (l : LoopSupervisor) (same : l.state = s.loop.state) (hold : (s.withLoop l).holding.any = true)
        (other : (s.withLoop l).holding ≠ s.holding) : (s.withLoop l).holdsChanged s.holding = (s.withLoop l).raise .holdChange :=
      State.holdsChanged_stays (s := s.withLoop l) (same.trans held) hold other
    refine ⟨fun shared low command inband degraded diverge => ?_, fun shared low other => ?_, fun heard latched => ⟨?_, ?_⟩,
      fun heard command diverge => ?_, fun heard => ?_, fun shared => ?_, fun only low => ?_⟩
    · refine exec_holdnChange_of (releases (s.loop.lineAt false) rfl ?_ ?_) (State.settle_of_quiet_congr quiet rfl rfl rfl rfl)
      · simp [before, HoldSet.any, low, shared]
      · simp [State.holding_lineAt, before, HoldSet.any, command, inband, degraded, diverge]
    · refine exec_holdnChange_of (stays (s.loop.lineAt false) rfl ?_ ?_) (State.settle_of_quiet_congr quiet rfl rfl rfl rfl)
      · rw [State.holding_lineAt, before, HoldSet.any_iff]
        simpa [shared] using other
      · rw [State.holding_lineAt, before]
        simp [low, shared]
    · intro degraded free_line
      refine exec_loopRelease_of heard (releases s.loop.released rfl ?_ ?_)
      · rw [before, HoldSet.any_iff]
        exact latched.elim .inl fun h => .inr (.inr (.inr (.inr h)))
      · rw [State.holding_released, before]
        by_cases shared : s.loop.params.exclusivity = .shared
        · simp [HoldSet.any, degraded, free_line shared]
        · simp [HoldSet.any, degraded, shared]
    · intro other
      refine exec_loopRelease_of heard (stays s.loop.released rfl ?_ ?_)
      · rw [State.holding_released, before, HoldSet.any_iff]
        rcases other with degraded | ⟨shared, line⟩
        · simp [degraded]
        · rcases line with low | inband
          · simp [low, shared]
          · simp [inband, shared]
      · rw [State.holding_released, before]
        rcases latched with command | diverge
        · simp [command]
        · simp [diverge]
    · have same : s.withLoop s.loop.released = s := by
        have record : s.loop.released = s.loop := by
          cases l : s.loop
          simp_all [LoopSupervisor.released]
        rw [record]
        rfl
      exact exec_loopRelease_of heard ((congrArg (State.holdsChanged · s.holding) same).trans (State.holdsChanged_of_same rfl))
    · by_cases command : s.loop.command = true
      · rw [if_pos command]
        have same : s.withLoop s.loop.commanded = s := by simp only [State.withLoop, LoopSupervisor.commanded, ← command]
        exact exec_loopHold_of heard ((congrArg (State.holdsChanged · s.holding) same).trans (State.holdsChanged_of_same rfl))
          (settle_of_quiet quiet)
      · rw [if_neg command]
        refine exec_loopHold_of heard (stays s.loop.commanded rfl ?_ ?_) (State.settle_of_quiet_congr quiet rfl rfl rfl rfl)
        · simp [State.holding_commanded, HoldSet.any]
        · rw [State.holding_commanded, before]
          simpa using command
    · by_cases low : s.loop.holdnLow = true
      · rw [if_pos low]
        have same : s.withLoop (s.loop.lineAt true) = s := by simp only [State.withLoop, LoopSupervisor.lineAt, ← low]
        exact exec_holdnChange_of ((congrArg (State.holdsChanged · s.holding) same).trans (State.holdsChanged_of_same rfl))
          (settle_of_quiet quiet)
      · rw [if_neg low]
        refine exec_holdnChange_of (stays (s.loop.lineAt true) rfl ?_ ?_) (State.settle_of_quiet_congr quiet rfl rfl rfl rfl)
        · simp [State.holding_lineAt, HoldSet.any, shared]
        · rw [State.holding_lineAt, before]
          simpa [shared] using low
    · refine exec_holdnChange_of (State.holdsChanged_of_same ?_) (still _)
      rw [State.holding_lineAt, before]
      simp [only]

end Sys2Proof.Machine

/-! The entry to IDLE or SAFE (06 sections 6.1 and 6.2, 02 R50). -/

namespace Sys2Proof.Machine
-- One theorem at a time: each worker thread reserves memory of its own.
set_option Elab.async false

/-! ## The follow-ups of a resting state with empty queues -/

/-- The state with other cycles and another mark for the re-offer. -/
def State.withCycles (s : State) (cycles : List Cycle) (reoffer : Bool) : State :=
  { s with cyc := { s.cyc with cycles := cycles, reoffer := reoffer } }

theorem State.passToLaw_abandoned {s : State} {k : Cycle} {rest : List Cycle} (cycles : s.cyc.cycles = k :: rest)
    (abandoned : k.abandoned = true) :
    s.passToLaw = s.withCycles (s.cyc.cycles.filter fun c => decide (c.bank ≠ k.bank)) true := by
  have passes : s.passToLaw = (s.updCycle k.bank fun k => { k with state := .law }).retire k.bank := by
    unfold State.passToLaw
    simp only [cycles, abandoned, if_true]
  have filtered := filter_updCycle s.cyc.cycles k.bank (fun k => { k with state := .law }) fun _ => rfl
  rw [passes]
  unfold State.retire State.withCycles
  simp only [State.updCycle, filtered]

theorem State.offerHead_of_empty {s : State} {i : Fin 6} (empty : (s.sensor i).queue = []) : s.offerHead i = (s, false) := by
  unfold State.offerHead
  rw [empty]

/-- Nothing happens but that abandoned cycles retire (02 R48, R50). -/
theorem State.followUp_of_abandoned : ∀ (n : Nat) (o : Offering) (s : State), (∀ i, (s.sensor i).queue = []) →
    (∀ k ∈ s.cyc.cycles, k.abandoned = true) →
    ∃ cycles reoffer, State.followUp n o s = s.withCycles cycles reoffer ∧ ∀ k ∈ cycles, k ∈ s.cyc.cycles := by
  intro n
  induction n with
  | zero => exact fun _ s _ _ => ⟨s.cyc.cycles, s.cyc.reoffer, rfl, fun _ => id⟩
  | succ n ih =>
    intro o s empty abandoned
    have stays : ∃ cycles reoffer, s = s.withCycles cycles reoffer ∧ ∀ k ∈ cycles, k ∈ s.cyc.cycles :=
      ⟨s.cyc.cycles, s.cyc.reoffer, rfl, fun _ => id⟩
    unfold State.followUp
    split
    · obtain ⟨cycles, reoffer, followed, old⟩ := ih (.heads []) s.offeredAgain empty abandoned
      exact ⟨cycles, reoffer, followed, old⟩
    · split
      · next passes =>
        rcases some_cycle : s.cyc.cycles with _ | ⟨k, rest⟩
        · simp [State.canPass, some_cycle] at passes
        · have passed := State.passToLaw_abandoned some_cycle (abandoned k (by simp [some_cycle]))
          obtain ⟨cycles, reoffer, followed, old⟩ := ih o s.passToLaw (by rw [passed]; exact empty) (by
            rw [passed]
            exact fun k mem => abandoned k (List.mem_of_mem_filter mem))
          rw [passed] at followed old
          rw [passed, ← some_cycle]
          exact ⟨cycles, reoffer, followed, fun k mem => List.mem_of_mem_filter (old k mem)⟩
      · split
        · exact stays
        · next i =>
          rw [State.offerHead_of_empty (empty i)]
          exact ih _ s empty abandoned
        · rw [State.nextHead_of_empty empty]
          exact stays

/-! ## Abandonment at the entry, with no deferred edit (02 R49, 08 R155) -/

/-- Only the cycles, the queued jobs, the law in progress and the tallies may differ. -/
structure State.Dropped (s t : State) : Prop where
  intake : t.intake = s.intake
  mem : t.mem = s.mem
  recon : t.recon = { s.recon with queue := t.recon.queue }
  law : t.law = { s.law with inProgress := t.law.inProgress }
  loop : t.loop = s.loop
  drive : t.drive = s.drive
  cal : t.cal = { s.cal with tallies := t.cal.tallies }
  mon : t.mon = s.mon
  link : t.link = s.link

theorem State.Dropped.refl (s : State) : s.Dropped s := ⟨rfl, rfl, rfl, rfl, rfl, rfl, rfl, rfl, rfl⟩

theorem State.Dropped.trans {s t u : State} (first : s.Dropped t) (second : t.Dropped u) : s.Dropped u where
  intake := second.intake.trans first.intake
  mem := second.mem.trans first.mem
  recon := by rw [second.recon, first.recon]
  law := by rw [second.law, first.law]
  loop := second.loop.trans first.loop
  drive := second.drive.trans first.drive
  cal := by rw [second.cal, first.cal]
  mon := second.mon.trans first.mon
  link := second.link.trans first.link

theorem State.dropped_abandon {s : State} (no_edit : s.law.deferred = none) (b : Bank) : s.Dropped (s.abandon b true) := by
  unfold State.abandon
  split
  · exact .refl s
  · dsimp only
    split
    · exact .refl s
    · split
      · exact ⟨rfl, rfl, rfl, rfl, rfl, rfl, rfl, rfl, rfl⟩
      · exact ⟨rfl, rfl, rfl, rfl, rfl, rfl, rfl, rfl, rfl⟩
      · have still : ∀ t : State, t.law.deferred = none → t.applyDeferred = t := fun t none => by
          unfold State.applyDeferred
          rw [none]
        unfold State.discardLaw
        rw [still _ (by exact no_edit)]
        exact ⟨rfl, rfl, rfl, rfl, rfl, rfl, rfl, rfl, rfl⟩

theorem State.dropped_abandonAll {s : State} (no_edit : s.law.deferred = none) : s.Dropped s.abandonAll := by
  have folded : ∀ (l : List Bank) (s : State), s.law.deferred = none → s.Dropped (l.foldl (fun u bank => u.abandon bank true) s) := by
    intro l
    induction l with
    | nil => exact fun s _ => .refl s
    | cons b l ih =>
      intro s no_edit
      have first := State.dropped_abandon no_edit b
      exact first.trans (ih _ (by rw [first.law]; exact no_edit))
  exact (folded _ s no_edit).trans ⟨rfl, rfl, rfl, rfl, rfl, rfl, rfl, rfl, rfl⟩

/-! ## The state after the entry -/

/-- The state in which everything running has been dropped, before the rest commit. -/
def State.dropAll (s : State) (l : LoopState) : State := ((((s.setLoop l).entryMarks).abandonAll).invalidateAll).abortRun

theorem State.entered_eq (s : State) (l : LoopState) (rest : Bool) :
    s.entered l rest = (if rest then (s.dropAll l).restCommit else s.dropAll l).carryOutCommits := rfl

theorem State.setLoop_eq {s : State} {l : LoopState} (other : s.loop.state ≠ l) :
    s.setLoop l = (s.withLoop { s.loop with state := l }).raise .loopState := if_neg other

theorem State.cal_abortRun (s : State) : s.abortRun.cal.running = false
    ∧ (s.cal.running = true → s.abortRun.cal.endReason = some .loop ∧ s.abortRun.isPending .calEnd = true) := by
  unfold State.abortRun
  split
  · exact ⟨rfl, fun _ => ⟨rfl, State.isPending_raise _ _⟩⟩
  · next idle => exact ⟨by simpa using idle, fun running => absurd running idle⟩

/-- The end of the run leaves the blocks but the calibration unit, the arbiter and the notices. -/
theorem State.abortRun_frame (s : State) : s.abortRun.intake = s.intake ∧ s.abortRun.mem.sets = s.mem.sets
    ∧ s.abortRun.mem.dram = s.mem.dram ∧ s.abortRun.mem.nAct = s.mem.nAct ∧ s.abortRun.recon = s.recon ∧ s.abortRun.law = s.law
    ∧ s.abortRun.loop = s.loop ∧ s.abortRun.mon = s.mon := by
  unfold State.abortRun
  split <;> exact ⟨rfl, rfl, rfl, rfl, rfl, rfl, rfl, rfl⟩

theorem State.startJob_eq (s : State) : ∃ f q, s.startJob = { s with recon := { s.recon with inFlight := f, queue := q } } := by
  unfold State.startJob
  split
  · exact ⟨_, _, rfl⟩
  · exact ⟨s.recon.inFlight, s.recon.queue, rfl⟩

/-- With empty queues the follow-ups of the entry touch only the abandoned cycles, the jobs and the arbiter. -/
theorem State.settle_of_abandoned {s : State} (empty : ∀ i, (s.sensor i).queue = []) (abandoned : ∀ k ∈ s.cyc.cycles, k.abandoned = true)
    (o : Offering) : ∃ cycles reoffer f q a, s.settle o = { s with
      cyc := { s.cyc with cycles := cycles, reoffer := reoffer }
      recon := { s.recon with inFlight := f, queue := q }
      mem := { s.mem with arbiter := a } } ∧ ∀ k ∈ cycles, k ∈ s.cyc.cycles := by
  obtain ⟨cycles, reoffer, followed, old⟩ := State.followUp_of_abandoned s.followBound o s empty abandoned
  obtain ⟨f, q, started⟩ := (s.withCycles cycles reoffer).startJob_eq
  obtain ⟨a, granted⟩ := (s.withCycles cycles reoffer).startJob.grant_eq
  exact ⟨cycles, reoffer, f, q, a, by rw [State.settle, followed, granted, started]; rfl, old⟩

section
variable {s : State} (l : LoopState)

/-- What `dropAll` leaves: everything but the marks, the cycles, the jobs, the law in progress and the run. -/
theorem State.dropAll_frame (no_edit : s.law.deferred = none) (other : s.loop.state ≠ l) :
    (s.dropAll l).loop = { s.loop with state := l } ∧ (s.dropAll l).intake = s.intake ∧ (s.dropAll l).mem.sets = s.mem.sets
      ∧ (s.dropAll l).mem.dram = s.mem.dram ∧ (s.dropAll l).mem.nAct = s.mem.nAct
      ∧ (s.dropAll l).law.actuators = s.law.actuators ∧ (s.dropAll l).mon = { s.mon with onsetSeen := false, deadlineClose := false }
      ∧ (∀ i, ((s.dropAll l).savedOf i).valid = false) ∧ (s.dropAll l).cal.running = false
      ∧ (s.cal.running = true → (s.dropAll l).cal.endReason = some .loop ∧ (s.dropAll l).isPending .calEnd = true)
      ∧ (s.dropAll l).isPending .loopState = true := by
  let e := (s.setLoop l).entryMarks
  have set := State.setLoop_eq other
  have dropped : e.Dropped e.abandonAll := State.dropped_abandonAll (by simp only [e, set]; exact no_edit)
  obtain ⟨intake, sets, dram, nAct, recon, law, loop, mon⟩ := (e.abandonAll.invalidateAll).abortRun_frame
  obtain ⟨running, ended⟩ := (e.abandonAll.invalidateAll).cal_abortRun
  have loop_e : e.loop = { s.loop with state := l } := by simp only [e, set]; rfl
  have kept : e.abandonAll.invalidateAll.isPending .loopState = true := by
    change e.abandonAll.isPending .loopState = true
    rw [State.isPending, dropped.link]
    simp only [e, set]
    exact State.isPending_raise _ _
  refine ⟨loop.trans (dropped.loop.trans loop_e), intake.trans (dropped.intake.trans ?_), sets.trans ((congrArg Memory.sets dropped.mem).trans ?_),
    dram.trans ((congrArg _ dropped.mem).trans ?_), nAct.trans ((congrArg _ dropped.mem).trans ?_), ?_, mon.trans (dropped.mon.trans ?_), ?_, running,
    fun run => ended ?_, (State.keeps_abortRun _ (free := fun _ => False)).aspect .notices id _ kept⟩
  · simp only [e, set]; rfl
  · simp only [e, set]; rfl
  · simp only [e, set]; rfl
  · simp only [e, set]; rfl
  · change (e.abandonAll.invalidateAll).abortRun.law.actuators = _
    rw [law]
    change e.abandonAll.law.actuators = _
    rw [dropped.law]
    simp only [e, set]; rfl
  · simp only [e, set]; rfl
  · intro i
    change ((e.abandonAll.invalidateAll).abortRun.recon.saved[i]).valid = false
    rw [recon]
    simp [State.invalidateAll]
  · change e.abandonAll.cal.running = true
    rw [dropped.cal]
    simp only [e, set]
    exact run

/-- Settling after the entry: the loop, the law, the run and the monitor stay. -/
theorem State.enterRest_settled {rest : Bool} (empty : ∀ i, ((s.entered l rest).sensor i).queue = [])
    (abandoned : ∀ k ∈ (s.entered l rest).cyc.cycles, k.abandoned = true) :
    ∃ cycles reoffer f q a, s.enterRest l rest = { s.entered l rest with
      cyc := { (s.entered l rest).cyc with cycles := cycles, reoffer := reoffer }
      recon := { (s.entered l rest).recon with inFlight := f, queue := q }
      mem := { (s.entered l rest).mem with arbiter := a } } ∧ ∀ k ∈ cycles, k ∈ (s.entered l rest).cyc.cycles := by
  rw [State.enterRest_eq]
  exact State.settle_of_abandoned empty abandoned _

end

theorem Sensor.carryOut_eq (x : Sensor) : x.carryOut = { x with
    commitPending := false
    activePage := if x.commitPending then (if x.activePage = 0 then 1 else 0) else x.activePage } := by
  unfold Sensor.carryOut otherPage
  split
  · rfl
  · cases x
    simp_all

/-- The markers of the entry (02 R50). -/
theorem State.cyc_dropAll (s : State) (l : LoopState) : (s.dropAll l).cyc.lastClosed = none ∧ (s.dropAll l).cyc.lastOpened = none
    ∧ (s.dropAll l).cyc.lastSet = none ∧ (s.dropAll l).cyc.degraded = false
    ∧ (s.dropAll l).cyc.pendingSubs = Vector.replicate 6 0 := by
  have cyc : (s.dropAll l).cyc = ((s.setLoop l).entryMarks).abandonAll.cyc := by
    unfold State.dropAll
    rw [State.cyc_abortRun]
    rfl
  rw [cyc]
  exact ⟨rfl, rfl, rfl, rfl, rfl⟩

/-- The entry from SAFE with nothing running: the loop, the marks and the markers. -/
theorem State.dropAll_of_still {s : State} (safe : s.loop.state = .safe) (no_cycle : s.cyc.cycles = []) (idle : s.cal.running = false) :
    s.dropAll .idle = ({ (s.withLoop { s.loop with state := .idle }).raise .loopState with
      mon := { s.mon with onsetSeen := false, deadlineClose := false }
      cyc := { s.cyc with
        lastClosed := none, lastOpened := none, lastSet := none, degraded := false, pendingSubs := Vector.replicate 6 0 } } :
      State).invalidateAll := by
  have none_running : ∀ t : State, t.cal = s.cal → t.abortRun = t := fun t cal => if_neg (by rw [cal, idle]; decide)
  have none_abandoned : ∀ t : State, t.cyc.cycles = [] → t.abandonAll = { t with cyc := { t.cyc with
      lastClosed := none, lastOpened := none, lastSet := none, degraded := false, pendingSubs := Vector.replicate 6 0 } } := by
    intro t none
    have folded : (t.cyc.cycles.map fun k => k.bank).foldl (fun u bank => u.abandon bank true) t = t := by rw [none]; rfl
    unfold State.abandonAll
    rw [folded]
  unfold State.dropAll
  rw [State.setLoop_eq (by rw [safe]; decide), none_abandoned _ (by exact no_cycle)]
  refine none_running _ ?_
  rfl

section
variable {s : State}

theorem exec_loopStop (heard : s.hears .loopStop [] = true) : exec .loopStop s = .next (match s.loop.state with
    | .safe => s.refuse .wrongState
    | .idle => s.restCommit.reply .done []
    | _ => (s.enterRest .idle true).reply .done []) := by
  change execLoopStop s = _
  rw [execLoopStop, runMessage_of_hears heard]
  rfl

theorem exec_loopSafe (heard : s.hears .loopSafe [] = true) : exec .loopSafe s
    = .next (if s.loop.state = .safe then s.reply .done [] else (s.enterRest .safe true).reply .done []) := by
  change execLoopSafe s = _
  rw [execLoopSafe, runMessage_of_hears heard]
  rfl

theorem exec_loopReset (heard : s.hears .loopReset [] = true) : exec .loopReset s
    = .next (if s.loop.state ≠ .safe then s.refuse .wrongState else (s.enterRest .idle false).reply .done []) := by
  change execLoopReset s = _
  rw [execLoopReset, runMessage_of_hears heard]
  rfl

end

/-- Settles O42: what the entry drops, then the rest commit, then follow-ups that only retire abandoned cycles. -/
theorem entryToRest : Obligations.EntryToRest := by
  refine ⟨fun s banked empty no_edit => ?_, fun s heard => ?_⟩
  · intro rest entered
    have enters (l : LoopState) (other : s.loop.state ≠ l) : entered l (s.enterRest l true) := by
      obtain ⟨loop, intake, sets, dram, nAct, actuators, mon, saved, idle, ended, raised⟩ := State.dropAll_frame l no_edit other
      obtain ⟨lastClosed, lastOpened, lastSet, degraded, subs⟩ := s.cyc_dropAll l
      have e_eq : s.entered l true = ((s.dropAll l).integratorReset.clearPokes.commitVector).carryOutCommits := by
        rw [State.entered_eq, if_pos rfl, State.restCommit_of_not_measuring (Calibration.measuring_of_not_running idle)]
      generalize s.dropAll l = d at *
      have sensors (i : Fin 6) : (s.entered l true).sensor i = (s.sensor i).carryOut := by
        rw [e_eq, State.sensor_carryOutCommits]
        exact congrArg Sensor.carryOut (congrArg (fun x : Intake => x.sensors[i]) intake)
      have abandoned := State.entered_abandoned banked l true
      obtain ⟨cycles, reoffer, f, q, a, settled, old⟩ := State.enterRest_settled l
        (fun i => by rw [sensors i, Sensor.carryOut_eq]; exact empty i) abandoned
      have act (i : Nat) : d.act i = s.act i := by rw [State.act, State.act, actuators]
      have committed := d.committed_restCommit
      rw [State.restCommit_of_not_measuring (Calibration.measuring_of_not_running idle), nAct] at committed
      simp only [act] at committed
      rw [settled]
      refine ⟨?_, ?_, fun k mem => abandoned k (old k mem), ?_, ?_, ?_, ?_, ?_, ?_, ?_, ?_, ?_, ?_, ?_, ?_, ?_, ?_, ?_, ?_, ?_, ?_⟩
      all_goals rw [e_eq] at *
      · exact loop
      · exact raised
      · exact lastClosed
      · exact lastOpened
      · exact lastSet
      · exact degraded
      · intro i
        change d.cyc.pendingSubs[i] = 0
        simp [subs]
      · exact saved
      · exact idle
      · exact ended
      · intro i served
        have value := d.vget_integratorReset i
        rw [if_pos (by rw [nAct]; exact served), act] at value
        exact value
      · rfl
      · rfl
      · exact committed
      · exact actuators
      · intro i
        rw [← Sensor.carryOut_eq]
        exact sensors i
      · exact congrArg Monitor.deadlineClose mon
      · exact congrArg Monitor.onsetSeen mon
      · exact sets
      · exact dram
    refine ⟨fun heard => ⟨fun safe => ?_, fun idle => ?_, fun not_safe not_idle => ⟨_, ?_, enters .idle not_idle⟩⟩,
      fun heard => ⟨fun safe => ?_, fun not_safe => ⟨_, ?_, enters .safe not_safe⟩⟩⟩
    · rw [exec_loopStop heard, safe]
    · rw [exec_loopStop heard, idle]
    · rw [exec_loopStop heard]
      cases state : s.loop.state <;> first | rfl | exact absurd state not_safe | exact absurd state not_idle
    · rw [exec_loopSafe heard, if_pos safe]
    · rw [exec_loopSafe heard, if_neg not_safe]
  · refine ⟨fun other => ?_, fun safe no_cycle idle empty => ⟨s.enterRest .idle false, ?_, ?_⟩⟩
    · rw [exec_loopReset heard, if_pos other]
    · rw [exec_loopReset heard, if_neg (not_not.2 safe)]
    have e_eq : s.entered .idle false = (s.dropAll .idle).carryOutCommits := rfl
    rw [State.dropAll_of_still safe no_cycle idle] at e_eq
    have sensors (i : Fin 6) : (s.entered .idle false).sensor i = (s.sensor i).carryOut := by
      rw [e_eq, State.sensor_carryOutCommits]
      rfl
    have none_left : (s.entered .idle false).cyc.cycles = [] := by rw [e_eq]; exact no_cycle
    obtain ⟨cycles, reoffer, f, q, a, settled, old⟩ := State.enterRest_settled (s := s) .idle (rest := false)
      (fun i => by rw [sensors i, Sensor.carryOut_eq]; exact empty i) (by simp [none_left])
    have gone : cycles = [] := List.eq_nil_iff_forall_not_mem.2 fun k mem => by simpa [none_left] using old k mem
    rw [settled, gone]
    refine ⟨?_, ?_, ?_, ?_, ?_, rfl, ?_, ?_, ?_, ?_, ?_, fun i => ?_⟩
    case refine_11 =>
      have record := sensors i
      rw [Sensor.carryOut_eq] at record
      exact ⟨(congrArg Sensor.commitPending record :), (congrArg Sensor.config record :)⟩
    all_goals rw [e_eq]
    all_goals first | rfl | simp [State.savedOf, State.invalidateAll]

end Sys2Proof.Machine

/-! The control link's receiver, queue and transmitter (10 sections 10.1 to 10.3). -/

namespace Sys2Proof.Machine
-- One theorem at a time: each worker thread reserves memory of its own.
set_option Elab.async false

/-! ## Bytes one after another (10 R181) -/

/-- The link with its receiver in another state. -/
def ControlLink.receives (l : ControlLink) (r : Receiver) : ControlLink := { l with receiver := r }

theorem ControlLink.feedAll_append (l : ControlLink) (a b : List Byte) : l.feedAll (a ++ b) = (l.feedAll a).feedAll b :=
  List.foldl_append ..

theorem ControlLink.feedAll_inBreak (l : ControlLink) (broken : l.receiver = .inBreak) (bytes : List Byte) : l.feedAll bytes = l := by
  have stays : ∀ b, l.feed b = l := fun b => by rw [ControlLink.feed, broken]
  induction bytes with
  | nil => rfl
  | cons b bytes ih => exact (congrArg (ControlLink.feedAll · bytes) (stays b)).trans ih

/-- The start marker makes a hunting receiver receive. -/
theorem ControlLink.feedAll_marker {l : ControlLink} {saw : Bool} (hunting : l.receiver = .hunting saw) :
    l.feedAll [0xC3#8, 0x5D#8] = l.receives (.receiving []) := by
  have first : l.feed 0xC3#8 = l.receives (.hunting true) := by
    rw [ControlLink.feed, hunting]
    exact if_neg (by simp)
  change (l.feed 0xC3#8).feed 0x5D#8 = _
  rw [first]
  rfl

theorem rd16_take {b : List Byte} {i m : Nat} (inside : i + 2 ≤ m) : rd16 (b.take m) i = rd16 b i := by
  have byte : ∀ j, j < m → byteAt (b.take m) j = byteAt b j := fun j small => by
    simp [byteAt, small]
  rw [rd16, rd16, byte i (by omega), byte (i + 1) (by omega)]

section Frame

variable {l : ControlLink} {whole : List Byte} {n : Nat}

/-- A frame of allowed length is received byte by byte up to its last (10 R181). -/
theorem ControlLink.feedAll_prefix (given : rd16 whole 0 = n) (small : n ≤ 8192) (length : whole.length = 22 + n) :
    ∀ k, k < 22 + n → (l.receives (.receiving [])).feedAll (whole.take k) = l.receives (.receiving (whole.take k)) := by
  intro k
  induction k with
  | zero => intro _; rfl
  | succ k ih =>
    intro inside
    have next : whole.take (k + 1) = whole.take k ++ [whole[k]] := (List.take_concat_get' ..).symm
    have size : (whole.take (k + 1)).length = k + 1 := by rw [List.length_take]; omega
    rw [next, ControlLink.feedAll_append, ih (by omega)]
    change (l.receives (.receiving (whole.take k))).take (whole.take k ++ [whole[k]]) = _
    rw [← next, ControlLink.take, size]
    rcases Nat.lt_or_ge k 1 with first | later
    · rw [if_neg (by omega), if_neg (by omega)]
      rfl
    · have count : rd16 (whole.take (k + 1)) 0 = n := (rd16_take (by omega)).trans given
      rw [count, if_neg (by simp [Config.maxPayload]; omega), if_neg (by omega)]
      rfl

theorem ControlLink.feedAll_whole (given : rd16 whole 0 = n) (small : n ≤ 8192) (length : whole.length = 22 + n) :
    (l.receives (.receiving [])).feedAll whole = l.complete whole := by
  have split : whole = whole.take (21 + n) ++ [whole[21 + n]] := by
    have := List.take_concat_get' whole (21 + n) (by omega)
    rw [this, List.take_of_length_le (by omega)]
  conv_lhs => rw [split, ControlLink.feedAll_append, ControlLink.feedAll_prefix given small length _ (by omega)]
  change (l.receives (.receiving (whole.take (21 + n)))).take (whole.take (21 + n) ++ [whole[21 + n]]) = _
  rw [← split, ControlLink.take, length, given, if_neg (by omega), if_pos (by omega)]
  rfl

end Frame

/-! ## Command frames (10 Table 10.9) -/

/-- Length, name, tag and payload: what the CRC-32 is computed over. -/
def frameBody (name : List Byte) (tag : Word) (payload : List Byte) : List Byte :=
  beBytes 2 payload.length ++ name ++ beBytes 4 tag.toNat ++ payload

section Body

variable {name payload : List Byte} (tag crc : Word) (named : name.length = 12) (small : payload.length ≤ 8192)
include named

theorem length_frameBody : (frameBody name tag payload).length = 18 + payload.length := by
  simp [frameBody, named]
  omega

include small

omit named in
theorem rd16_frameBody (rest : List Byte) : rd16 (frameBody name tag payload ++ rest) 0 = payload.length := by
  simp [frameBody, Nat.mod_eq_of_lt (show payload.length < 65536 by omega)]

theorem commandChecked_iff : commandChecked (frameBody name tag payload ++ beBytes 4 crc.toNat) = true
    ↔ crc = crc32 (frameBody name tag payload) := by
  have length := length_frameBody (payload := payload) tag named
  have body : (frameBody name tag payload ++ beBytes 4 crc.toNat).take (18 + payload.length) = frameBody name tag payload := by
    rw [← length]
    exact List.take_left
  have sum : rd32 (frameBody name tag payload ++ beBytes 4 crc.toNat) (18 + payload.length) = crc.toNat := by
    have read := rd32_append (frameBody name tag payload) (beBytes 4 crc.toNat) 0
    rw [rd32_last, length] at read
    exact read.trans (Nat.mod_eq_of_lt crc.isLt)
  rw [commandChecked, rd16_frameBody tag small, sum, body, decide_eq_true_iff]
  simp

theorem frameOfBytes_frame : frameOfBytes (frameBody name tag payload ++ beBytes 4 crc.toNat) = { name := name, tag := tag, payload := payload } := by
  have tag_eq : rd32 (frameBody name tag payload ++ beBytes 4 crc.toNat) 14 = tag.toNat := by
    have read := rd32_append (beBytes 2 payload.length ++ name) (beBytes 4 tag.toNat ++ (payload ++ beBytes 4 crc.toNat)) 0
    rw [rd32_beBytes, List.length_append, length_beBytes, named] at read
    simp only [frameBody, List.append_assoc] at read ⊢
    exact read.trans (Nat.mod_eq_of_lt tag.isLt)
  have name_eq : ((frameBody name tag payload ++ beBytes 4 crc.toNat).drop 2).take 12 = name := by
    have size : (beBytes 2 payload.length).length = 2 := length_beBytes ..
    simp only [frameBody, List.append_assoc]
    rw [List.drop_append_of_le_length (by omega), List.drop_of_length_le (by omega), List.nil_append, ← named, List.take_left]
  have payload_eq : ((frameBody name tag payload ++ beBytes 4 crc.toNat).drop 18).take payload.length = payload := by
    have split : frameBody name tag payload ++ beBytes 4 crc.toNat
        = (beBytes 2 payload.length ++ name ++ beBytes 4 tag.toNat) ++ (payload ++ beBytes 4 crc.toNat) := by simp [frameBody]
    have size : (beBytes 2 payload.length ++ name ++ beBytes 4 tag.toNat).length = 18 := by simp [named]
    rw [split, ← size, List.drop_left, List.take_left]
  rw [frameOfBytes, rd16_frameBody tag small, tag_eq, name_eq, payload_eq, BitVec.ofNat_toNat, BitVec.setWidth_eq]

/-- A frame of the host reaches the receiver whole (10 R181). -/
theorem ControlLink.feedAll_frame {l : ControlLink} {saw : Bool} (hunting : l.receiver = .hunting saw) :
    l.feedAll ([0xC3#8, 0x5D#8] ++ frameBody name tag payload ++ beBytes 4 crc.toNat)
      = if crc = crc32 (frameBody name tag payload) then
          (l.receives (.hunting false)).offer { name := name, tag := tag, payload := payload }
        else (l.receives (.hunting false)).linkError := by
  have length : (frameBody name tag payload ++ beBytes 4 crc.toNat).length = 22 + payload.length := by
    rw [List.length_append, length_frameBody tag named, length_beBytes]
    omega
  rw [List.append_assoc, ControlLink.feedAll_append, ControlLink.feedAll_marker hunting,
    ControlLink.feedAll_whole (rd16_frameBody tag small _) small length, ControlLink.complete, frameOfBytes_frame tag crc named small]
  exact if_congr (commandChecked_iff tag crc named small) rfl rfl

end Body

/-! ## The queue and the transmitter (10 R182, R185) -/

theorem ControlLink.holdsReply_iff (l : ControlLink) : l.holdsReply = true ↔ ∃ r ∈ l.transmitter, r.status ≠ .queueFull := by
  simp [ControlLink.holdsReply]

theorem ControlLink.beginNext_of_waiting {l : ControlLink} {f : CommandFrame} {rest : List CommandFrame} (idle : l.executing = none)
    (silent : l.holdsReply = false) (waiting : l.queue = f :: rest) :
    l.beginNext = { l with executing := some { frame := f, noReply := false, progress := .taken }, queue := rest } := by
  unfold ControlLink.beginNext
  simp only [idle, waiting, silent]
  rfl

theorem ControlLink.beginNext_of_busy {l : ControlLink} (busy : l.executing ≠ none ∨ l.holdsReply = true ∨ l.queue = []) :
    l.beginNext = l := by
  unfold ControlLink.beginNext
  split
  · next idle waiting =>
    rcases busy with executing | holds | empty
    · exact absurd idle executing
    · rw [if_pos holds]
    · rw [empty] at waiting
      cases waiting
  · rfl

/-- Settles O54: the frame is received whole, and the queue and the transmitter decide what becomes of it. -/
theorem commandFrameIsReceived : Obligations.CommandFrameIsReceived := by
  intro s name tag payload saw named small hunting
  dsimp only
  have received : s.link.feedAll (commandFrameBytes name tag payload)
      = (s.link.receives (.hunting false)).offer { name := name, tag := tag, payload := payload } :=
    (ControlLink.feedAll_frame tag (crc32 (frameBody name tag payload)) named small hunting).trans (if_pos rfl)
  have arrives : exec (.commandFrameReceived (commandFrameBytes name tag payload)) s
      = .next { s with link := (s.link.receives (.hunting false)).offer { name := name, tag := tag, payload := payload } } := by
    rw [← received]
    rfl
  have replying := s.link.holdsReply_iff
  have held : (s.link.receives (.hunting false)).queueFulls = s.link.transmitter.countP fun r => decide (r.status = .queueFull) :=
    List.countP_eq_length_filter.symm
  rw [arrives]
  refine ⟨fun empty idle silent => ?_, fun room busy => ?_, fun full few => ?_, fun full many => ?_⟩
  all_goals unfold ControlLink.offer
  · have waits : (s.link.receives (.hunting false)).queue.length < Config.receiveQueue := by
      change s.link.queue.length < 4
      simp [empty]
    have silent' : s.link.holdsReply = false := by rw [Bool.eq_false_iff, ne_eq, replying]; exact silent
    have begins := ControlLink.beginNext_of_waiting (l := { s.link.receives (.hunting false) with
      queue := s.link.queue ++ [{ name := name, tag := tag, payload := payload }] })
      (f := { name := name, tag := tag, payload := payload }) (rest := s.link.queue) idle silent' (by simp [empty])
    rw [if_pos waits]
    exact congrArg (fun l => Host.Outcome.next { s with link := l }) begins
  · have waits : (s.link.receives (.hunting false)).queue.length < Config.receiveQueue := room
    rw [if_pos waits]
    refine congrArg (fun l => Host.Outcome.next { s with link := l }) (ControlLink.beginNext_of_busy ?_)
    exact busy.elim .inl fun h => .inr (.inl (replying.2 h))
  · have waits : ¬ (s.link.receives (.hunting false)).queue.length < Config.receiveQueue := not_lt.2 full
    rw [if_neg waits, held, if_pos (show _ < Config.queueFullReplies from few)]
    rfl
  · have waits : ¬ (s.link.receives (.hunting false)).queue.length < Config.receiveQueue := not_lt.2 full
    rw [if_neg waits, held, if_neg (show ¬ _ < Config.queueFullReplies from not_lt.2 many)]
    rfl

/-! ## A length field, replies and names (10 R181, R183, R185) -/

/-- A length field above the limit is an error at its second byte (10 R181). -/
theorem ControlLink.feedAll_length {l : ControlLink} {saw : Bool} (n : Half) (hunting : l.receiver = .hunting saw) :
    l.feedAll ([0xC3#8, 0x5D#8] ++ beBytes 2 n.toNat)
      = if 8192 < n.toNat then (l.receives (.hunting false)).linkError else l.receives (.receiving (beBytes 2 n.toNat)) := by
  have count : rd16 (beBytes 2 n.toNat) 0 = n.toNat := (rd16_last _).trans (Nat.mod_eq_of_lt n.isLt)
  rw [ControlLink.feedAll_append, ControlLink.feedAll_marker hunting]
  have two_bytes : (l.receives (.receiving [])).feedAll (beBytes 2 n.toNat)
      = (l.receives (.receiving [BitVec.ofNat 8 (n.toNat / 256)])).take (beBytes 2 n.toNat) := by
    rw [beBytes_two]
    rfl
  rw [two_bytes, ControlLink.take, length_beBytes, count]
  by_cases long : 8192 < n.toNat
  · rw [if_pos long, if_pos ⟨rfl, long⟩]
    rfl
  · rw [if_neg long, if_neg (fun h => long h.2), if_neg (by omega)]
    rfl

theorem nameKnown_eq_false {name : List Byte} (unknown : ∀ m, messageName m ≠ name) : nameKnown name = false := by
  simp [nameKnown, unknown]

theorem exec_replySent {s : State} {r : Reply} {rest : List Reply} (front : s.link.transmitter = r :: rest) :
    exec .replySent s
      = .next { s with link := ({ s.link with transmitter := rest, lastSent := replyBytes r } : ControlLink).beginNext } := by
  change execReplySent s = _
  unfold execReplySent
  rw [front]

/-- Settles O55: bad frames and breaks at the receiver; replies, names and what begins next. -/
theorem controlLinkEvents : Obligations.ControlLinkEvents := by
  refine ⟨fun s => ?_, fun s => ?_⟩
  · intro bad
    refine ⟨fun saw name payload tag crc hunting named small => ?_, fun saw n hunting => ⟨fun long => ?_, fun short => ?_⟩,
      fun got receiving => ?_, fun saw hunting => ?_, rfl, fun broken bytes => ⟨?_, ?_⟩, fun c p f executing noReply silent heard nil one => ?_⟩
    · intro body wrong
      have received := (ControlLink.feedAll_frame tag crc named small hunting).trans (if_neg wrong)
      exact congrArg (fun l => Host.Outcome.next { s with link := l }) received
    · have counted := (ControlLink.feedAll_length n hunting).trans (if_pos long)
      exact congrArg (fun l => Host.Outcome.next { s with link := l }) counted
    · have goes_on := (ControlLink.feedAll_length n hunting).trans (if_neg (not_lt.2 short))
      exact congrArg (fun l => Host.Outcome.next { s with link := l }) goes_on
    · change execShortBreak s = _
      rw [execShortBreak, receiving]
      rfl
    · change execShortBreak s = _
      rw [execShortBreak, hunting]
    · exact congrArg (fun l => Host.Outcome.next { s with link := l }) (s.link.feedAll_inBreak broken bytes)
    · exact if_pos broken
    · subst nil
      have ends : s.link.reply .done [] = { s.link with queue := [], executing := some { frame := f, noReply := false, progress := .taken } } := by
        have free : ({ s.link with executing := none } : ControlLink).holdsReply = false := by simp [ControlLink.holdsReply, silent]
        have begins := ControlLink.beginNext_of_waiting (l := { s.link with executing := none }) rfl free one
        simp only [ControlLink.reply, executing, noReply, if_true, begins]
      have acts : exec .peakArm s
          = .next (({ s with mon := { s.mon with peakArmed := true, peakFn := none, peaks := [] } } : State).reply .done []) := by
        change execPeakArm s = _
        rw [execPeakArm, runMessage_of_hears heard]
        rfl
      rw [acts, State.reply, ends]
  · refine ⟨fun r rest front => ?_, fun c st data executing replies => ?_, fun c executing taken unknown => ?_⟩
    · intro data body sent more
      have layout : replyBytes r = [0xC3#8, 0x5D#8] ++ body ++ beBytes 4 (crc32 body).toNat := by
        have code : beBytes 1 (statusCode r.status) = [BitVec.ofNat 8 (statusCode r.status)] := by simp [beBytes]
        rw [replyBytes, code]
        rfl
      have acts := exec_replySent front
      rw [layout] at acts
      have left : sent.holdsReply = true ↔ more := sent.holdsReply_iff
      refine ⟨fun f q idle none_more waiting => ?_, fun busy => ?_⟩
      · have begins := ControlLink.beginNext_of_waiting (l := sent) idle (Bool.eq_false_iff.2 fun h => none_more (left.1 h)) waiting
        exact acts.trans (congrArg (fun l => Host.Outcome.next { s with link := l }) begins)
      · have stays := ControlLink.beginNext_of_busy (l := sent)
          (busy.elim .inl fun h => h.elim (fun more => .inr (.inl (left.2 more))) fun empty => .inr (.inr empty))
        exact acts.trans (congrArg (fun l => Host.Outcome.next { s with link := l }) stays)
    · exact congrArg (fun l => { s with link := l }) (reply_of_executing executing replies st data)
    · change execUnknownMessage s = _
      rw [execUnknownMessage, executing]
      exact if_pos ⟨taken, nameKnown_eq_false unknown⟩

end Sys2Proof.Machine

/-! The completion of a law (05 sections 5.1 and 5.4 to 5.7). -/

namespace Sys2Proof.Machine
-- One theorem at a time: each worker thread reserves memory of its own.
set_option Elab.async false

/-! ## The retirement of the only cycle -/

theorem State.jobsQuiet_of_idle {s : State} (none_runs : s.recon.inFlight = none) (none_queued : s.recon.queue = [])
    (none_waits : s.mem.arbiter.waiting = []) : s.jobsQuiet = true := by
  simp [State.jobsQuiet, none_runs, none_queued, none_waits]

theorem State.filter_singleton_bank {s : State} {k : Cycle} {b : Bank} (one : s.cyc.cycles = [k]) (bound : k.bank = b) :
    (s.cyc.cycles.filter fun k => decide (k.bank ≠ b)) = [] := by
  simp [one, bound]

/-- When the only cycle has retired, the rest of the step has nothing to do. -/
theorem State.settle_retire {s : State} {k : Cycle} {b : Bank} (one : s.cyc.cycles = [k]) (bound : k.bank = b)
    (empty : ∀ i, (s.sensor i).queue = []) (jobs : s.jobsQuiet = true) :
    (s.retire b).settle .nothing = s.withCycles [] false := by
  have gone := State.filter_singleton_bank one bound
  have retired : s.retire b = s.withCycles [] true := by
    unfold State.retire State.withCycles
    rw [gone]
  rw [retired]
  exact State.settle_of_empty (s := s.withCycles [] true) empty ((State.quiet_iff _).2 ⟨rfl, rfl, jobs⟩)

/-! ## The steps of a completion -/

theorem State.applyDeferred_of_none {s : State} (no_edit : s.law.deferred = none) : s.applyDeferred = s := by
  unfold State.applyDeferred
  rw [no_edit]

theorem State.testSnapshot_of_not_armed {s : State} (idle : s.mon.snapState ≠ .armed) (run : LawRun) (applied : Bool) :
    s.testSnapshot run applied = s := by
  simp [State.testSnapshot, State.snapFires, idle]

theorem State.takeQ_of_off {s : State} (off : s.loop.params.rDiv = 0) (q : Nat) :
    s.takeQ q = s.withLoop { s.loop with runCount := 0 } := if_pos off

theorem LawRun.applies_iff (run : LawRun) : run.applies = true ↔ run.mode = .normal ∧ run.superseded = false := by
  simp [LawRun.applies]

theorem LawRun.applies_eq_false {run : LawRun} (commits_nothing : run.mode ≠ .normal ∨ run.superseded = true) :
    run.applies = false := by
  rcases commits_nothing with other | superseded
  · simp [LawRun.applies, other]
  · simp [LawRun.applies, superseded]

theorem exec_lawCompletion {s : State} {run : LawRun} (begun : s.law.inProgress = some run) :
    exec .lawCompletion s = .next ((s.completeLaw run).settle .nothing) := by
  change execLawCompletion s = _
  rw [execLawCompletion, begun]

theorem State.completeLaw_of_not_applied {s : State} {run : LawRun} (applies : run.applies = false) :
    s.completeLaw run = (((s.endLaw run).testSnapshot run false).applyDeferred).retire run.bank := by
  simp [State.completeLaw, applies]

theorem State.completeLaw_of_applied {s : State} {run : LawRun} (applies : run.applies = true) :
    s.completeLaw run
      = (((((s.endLaw run).takeLaw run).commit.testSnapshot run true).takeQ run.q).applyDeferred).retire run.bank := by
  simp [State.completeLaw, applies]

theorem countSet_eq_count (flags : List Bool) : countSet flags = flags.count true := by
  simp [countSet, List.count_eq_length_filter]

theorem getD_append_replicate_false (flags : List Bool) (n i : Nat) :
    (flags ++ List.replicate n false).getD i false = flags.getD i false := by
  by_cases inside : i < flags.length
  · rw [List.getD_append _ _ _ _ inside]
  · rw [List.getD_append_right _ _ _ _ (by omega), getD_replicate_false, List.getD_eq_default _ _ (by omega)]

theorem State.vget_takeLaw (s : State) (run : LawRun) (i : Nat) :
    vget (s.takeLaw run).law.z i = if i < run.satFlags.length then vget s.law.scratch i else vget s.law.z i := by
  have taken : (s.takeLaw run).law.z = vwrite s.law.z 0 ((List.range run.satFlags.length).map fun i => vget s.law.scratch (0 + i)) := rfl
  rw [taken, vget_vwrite (Nat.zero_le _)]
  by_cases inside : i < run.satFlags.length
  · simp [inside, vget_map_range]
  · simp [inside]

/-- The applied law with its residuals kept, its values taken and the vector of the new integrators committed (05 R92). -/
def State.lawTaken (s : State) (run : LawRun) : State := ((s.endLaw run).takeLaw run).commitVector

theorem State.law_lawTaken (s : State) (run : LawRun) : (s.lawTaken run).law
    = { ((s.endLaw run).takeLaw run).law with committed := (List.range s.mem.nAct).map (s.lawTaken run).codeOf } :=
  State.committed_commitVector _

theorem exec_lawCompletion_applied {s : State} {run : LawRun} {k : Cycle} (begun : s.law.inProgress = some run)
    (applies : run.applies = true) (one : s.cyc.cycles = [k]) (bound : k.bank = run.bank) (no_edit : s.law.deferred = none)
    (no_run : s.cal.running = false) (idle : s.mon.snapState ≠ .armed) (off : s.loop.params.rDiv = 0)
    (empty : ∀ i, (s.sensor i).queue = []) (jobs : s.jobsQuiet = true) :
    exec .lawCompletion s
      = .next (((s.lawTaken run).withLoop { s.loop with runCount := 0 }).withCycles [] false) := by
  have commits : ((s.endLaw run).takeLaw run).commit = s.lawTaken run :=
    State.commit_of_not_measuring (Calibration.measuring_of_not_running no_run)
  have untested : (s.lawTaken run).testSnapshot run true = s.lawTaken run :=
    State.testSnapshot_of_not_armed (s := s.lawTaken run) idle run true
  have counted : (s.lawTaken run).takeQ run.q = (s.lawTaken run).withLoop { s.loop with runCount := 0 } :=
    State.takeQ_of_off (s := s.lawTaken run) off run.q
  have unedited : ((s.lawTaken run).withLoop { s.loop with runCount := 0 }).applyDeferred
      = (s.lawTaken run).withLoop { s.loop with runCount := 0 } := State.applyDeferred_of_none no_edit
  rw [exec_lawCompletion begun, State.completeLaw_of_applied applies, commits, untested, counted, unedited]
  exact congrArg Host.Outcome.next
    (State.settle_retire (s := (s.lawTaken run).withLoop { s.loop with runCount := 0 }) one bound empty jobs)

/-- Settles O35: the follow-ups of the retirement change nothing more; the applied law by its steps in order. -/
theorem lawCompletes : Obligations.LawCompletes := by
  refine ⟨fun s run k begun normal current flags one bound no_edit no_run idle off reoffer empty none_runs none_queued none_waits
    few => ?_, fun s run k begun commits_nothing one bound no_edit idle reoffer empty none_runs none_queued none_waits => ?_⟩
  all_goals have jobs := State.jobsQuiet_of_idle none_runs none_queued none_waits
  · refine ⟨_, exec_lawCompletion_applied begun (run.applies_iff.2 ⟨normal, current⟩) one bound no_edit no_run idle off empty jobs,
      fun i => ?_, fun i => ?_, ?_, rfl, rfl, rfl, rfl, rfl, rfl, rfl, rfl, rfl, ?_, rfl, rfl, rfl, fun d => ?_, ?_, rfl, rfl, rfl,
      rfl, rfl, rfl, rfl⟩
    · rw [← flags]
      exact (s.endLaw run).vget_takeLaw run i
    · exact getD_append_replicate_false ..
    · exact countSet_eq_count _
    · have codes : (((s.lawTaken run).withLoop { s.loop with runCount := 0 }).withCycles [] false).codeOf = (s.lawTaken run).codeOf :=
        State.codeOf_congr rfl rfl rfl rfl rfl
      rw [codes]
      exact congrArg LawUnit.committed (s.law_lawTaken run)
    · exact State.driveLink_commitVector ((s.endLaw run).takeLaw run) d
    · change { s.cyc with cycles := [], reoffer := false } = _
      rw [← reoffer]
  · have unedited : (s.endLaw run).applyDeferred = s.endLaw run := State.applyDeferred_of_none no_edit
    have still : (s.endLaw run).testSnapshot run false = s.endLaw run :=
      State.testSnapshot_of_not_armed (s := s.endLaw run) idle run false
    have same : (s.endLaw run).withCycles [] false = { s with
        law := { s.law with inProgress := none, residual := run.residual, lastQ := run.q }
        cyc := { s.cyc with cycles := [] } } := by
      rw [← reoffer]
      rfl
    rw [exec_lawCompletion begun, State.completeLaw_of_not_applied (LawRun.applies_eq_false commits_nothing), still, unedited, ← same]
    exact congrArg Host.Outcome.next (State.settle_retire (s := s.endLaw run) one bound empty jobs)

end Sys2Proof.Machine

/-! The snapshot store (09 section 9.5). -/

namespace Sys2Proof.Machine
-- One theorem at a time: each worker thread reserves memory of its own.
set_option Elab.async false

/-! ## The messages of the store (09 R173, R177) -/

section
variable {s : State}

theorem toTrigger_eq_none : ∀ {kind : Nat}, 3 ≤ kind → toTrigger kind = none
  | _ + 3, _ => rfl

theorem exec_snapArm_of_hears {kind threshold selection : Nat} (hk : kind < 65536) (ht : threshold < 4294967296)
    (hs : selection < 65536) (heard : s.hears .snapArm (u16s [kind] ++ u32s [threshold] ++ u16s [selection]) = true) :
    exec .snapArm s = .next (match toTrigger kind with
      | none => s.refuse .badValue
      | some trigger =>
        if selection = 0 ∨ 7 < selection then s.refuse .badValue
        else if s.mon.snapState = .filling then s.refuse .busy
        else ({ s with mon := { s.mon with
            snapState := .armed, snapTrigger := trigger, snapThreshold := clampNat 1 3072 threshold, snapSelection := selection,
            onsetSeen := false, snapContent := [] } } : State).reply (doneOr (decide (clampNat 1 3072 threshold ≠ threshold)))
          [.u16 (triggerCode trigger), .u32 (clampNat 1 3072 threshold), .u16 selection]) := by
  let p := u16s [kind] ++ u32s [threshold] ++ u16s [selection]
  have length : p.length = 8 := by simp [p]
  have read0 : rd16 p 0 = kind := by simp [p, Nat.mod_eq_of_lt hk]
  have read2 : rd32 p 2 = threshold := by simp [p, Nat.mod_eq_of_lt ht]
  have read6 : rd16 p 6 = selection := by simp [p, Nat.mod_eq_of_lt hs]
  change execSnapArm s = _
  rw [execSnapArm, runMessage_of_hears heard]
  simp only [snapArmAct, length, read0, read2, read6, ne_eq, not_true_eq_false, if_false, p] <;> rfl

theorem exec_snapStatus_of_hears (heard : s.hears .snapStatus [] = true) :
    exec .snapStatus s = .next (s.reply .done
      ([.u16 (snapCode s.mon.snapState), .u16 (triggerCode s.mon.snapTrigger), .u32 s.mon.snapThreshold,
          .u16 s.mon.snapSelection, .u16 (boolCode s.mon.onsetSeen)]
        ++ (if s.mon.snapState = .filling ∨ s.mon.snapState = .full then
          [.u16 s.mon.snapFn.toNat, .u16 s.mon.snapContent.length] else []))) := by
  change execSnapStatus s = _
  rw [execSnapStatus, runMessage_of_hears heard]
  rfl

theorem exec_snapRead_of_hears {offset length : Nat} (ho : offset < 65536) (positive : 1 ≤ length) (few : length ≤ 2000)
    (heard : s.hears .snapRead (u16s [offset, length]) = true) :
    exec .snapRead s = .next (if s.mon.snapState ≠ .full then s.refuse .wrongState
      else if s.mon.snapContent.length < offset + length then s.refuse .badValue
      else s.reply .done ((List.range length).map fun j => .s32 (vget s.mon.snapContent (offset + j)))) := by
  obtain ⟨width, read0, read2⟩ := rangePayload_reads ho (show length < 65536 by omega)
  have values : (vslice s.mon.snapContent offset length).map Field.s32
      = (List.range length).map fun j => .s32 (vget s.mon.snapContent (offset + j)) := by simp [vslice]
  change execSnapRead s = _
  rw [execSnapRead, runMessage_of_hears heard]
  simp only [read0, read2, width, values]
  rw [if_neg (by omega)]

end

/-! ## The content of a snapshot (09 Table 9.5) -/

theorem snapSlopes_eq (buf : Vector (Option (List Int)) 6) :
    snapSlopes buf = (buf[(0 : Fin 6)]).getD [] ++ (buf[(1 : Fin 6)]).getD [] ++ (buf[(2 : Fin 6)]).getD []
      ++ (buf[(3 : Fin 6)]).getD [] ++ (buf[(4 : Fin 6)]).getD [] ++ (buf[(5 : Fin 6)]).getD [] := by
  simp [snapSlopes, allSensors]

/-- The width of a sensor's part: 0 for one that is not filled. -/
theorem snapWidth_eq (buf : Vector (Option (List Int)) 6) (on : Bool) (i : Fin 6) :
    (if i ∈ allSensors.filter (fun i => on && (buf[i]).isSome) then ((((buf[i]).getD []).length / 2 : Nat) : Int) else 0)
      = if on = true then (((buf[i]).getD []).length : Int) / 2 else 0 := by
  simp only [List.mem_filter]
  cases on
  · simp
  · cases filled : buf[i] <;> simp [mem_allSensors]

theorem filledCount_eq (buf : Vector (Option (List Int)) 6) (on : Bool) :
    (allSensors.filter fun i => on && (buf[i]).isSome).length
      = if on = true then (allSensors.filter fun i => (buf[i]).isSome).length else 0 := by
  cases on <;> simp

theorem State.snapFires_iff (s : State) (applied : Bool) : s.snapFires applied = true ↔ s.mon.snapState = .armed ∧
    (s.mon.snapTrigger = .next ∨ (s.mon.snapTrigger = .onHold ∧ s.mon.onsetSeen = true)
      ∨ (s.mon.snapTrigger = .onSaturation ∧ applied = true ∧ s.mon.snapThreshold ≤ s.law.satCount)) := by
  unfold State.snapFires
  cases s.mon.snapTrigger <;> simp

/-! ## An onset reaches the store (09 R175) -/

theorem State.markOnset_eq (s : State) : s.markOnset = { s with mon :=
    if s.mon.snapState = .armed ∧ s.mon.snapTrigger = .onHold then { s.mon with onsetSeen := true } else s.mon } := by
  unfold State.markOnset
  split <;> rfl

/-- An onset that discards no law moves the loop state, marks the store and raises the two notices. -/
theorem State.onset_eq {s : State} (closed : s.loop.state = .closed)
    (no_discard : s.loop.params.timing = .atBoundary ∨ s.law.inProgress = none) :
    s.onset = (((s.withLoop { s.loop with state := .held }).markOnset).raise .loopState).raise .holdChange := by
  have moves : s.setLoop .held = (s.withLoop { s.loop with state := .held }).raise .loopState := if_neg (by simp [closed])
  let t := (((s.withLoop { s.loop with state := .held }).markOnset).raise .loopState).raise .holdChange
  have marks : ((s.setLoop .held).raise .holdChange).markOnset = t := by
    rw [moves, State.markOnset_eq]
    simp only [t, State.markOnset_eq]
    rfl
  have record : t.loop = { s.loop with state := .held } := by
    simp only [t, State.markOnset_eq]
    rfl
  have stays : s.onset = t := by
    unfold State.onset
    simp only [marks, record]
    rcases no_discard with boundary | idle
    · simp only [boundary]
    · have still : t.abandonLaw = t := by
        have none_runs : t.law.inProgress = none := by
          simp only [t, State.markOnset_eq]
          exact idle
        unfold State.abandonLaw
        rw [none_runs]
      rw [still]
      split <;> rfl
  exact stays

/-! ## The obligation -/

/-- The content that the store fixes for a law's run (09 R176, Table 9.5). -/
theorem State.snapshot_eq (s : State) (run : LawRun) :
    let buf := s.buffer run.bank
    let part := fun (i : Fin 6) => (buf[i]).getD []
    let on := fun bit : Nat => s.mon.snapSelection.testBit bit
    let slopes := if on 0 then part 0 ++ part 1 ++ part 2 ++ part 3 ++ part 4 ++ part 5 else []
    let residuals := if on 1 then run.residual else []
    let codes := if on 2 then s.law.committed else []
    let width := fun i : Fin 6 => if on 0 then ((part i).length : Int) / 2 else 0
    s.snapshot run = List.flatten
      [ [(run.fn.toNat : Int), triggerCode s.mon.snapTrigger, lawModeCode run.mode, setCode run.set],
        [(s.mem.nAct : Int), s.law.satCount, s.mon.snapSelection],
        [((if on 0 then (allSensors.filter fun i => (buf[i]).isSome).length else 0 : Nat) : Int)],
        [width 0, width 1, width 2, width 3, width 4, width 5],
        [if on 1 then (16 + slopes.length : Int) else 0],
        [if on 2 then (16 + slopes.length + residuals.length : Int) else 0] ] ++ slopes ++ residuals ++ codes := by
  intro buf part on slopes residuals codes width
  have sensors : allSensors = [0, 1, 2, 3, 4, 5] := rfl
  have selected : (if sectionSelected s.mon.snapSelection 0 = true then snapSlopes buf else []) = slopes := by
    rw [snapSlopes_eq]
    rfl
  have widths : (allSensors.map fun i => if i ∈ allSensors.filter (fun i => sectionSelected s.mon.snapSelection 0 && (buf[i]).isSome)
      then ((((buf[i]).getD []).length / 2 : Nat) : Int) else 0) = [width 0, width 1, width 2, width 3, width 4, width 5] := by
    simp only [snapWidth_eq]
    rfl
  have filled : (allSensors.filter fun i => sectionSelected s.mon.snapSelection 0 && (buf[i]).isSome).length
      = if on 0 = true then (allSensors.filter fun i => (buf[i]).isSome).length else 0 := filledCount_eq buf _
  have content : s.snapshot run = ([(run.fn.toNat : Int), triggerCode s.mon.snapTrigger, lawModeCode run.mode, setCode run.set,
        s.mem.nAct, s.law.satCount, s.mon.snapSelection,
        (allSensors.filter fun i => sectionSelected s.mon.snapSelection 0 && (buf[i]).isSome).length]
      ++ (allSensors.map fun i =>
        if i ∈ allSensors.filter (fun i => sectionSelected s.mon.snapSelection 0 && (buf[i]).isSome)
        then ((((buf[i]).getD []).length / 2 : Nat) : Int) else 0)
      ++ [if on 1 = true then ((16 + (if sectionSelected s.mon.snapSelection 0 = true then snapSlopes buf else []).length : Nat) : Int)
          else 0,
        if on 2 = true then ((16 + (if sectionSelected s.mon.snapSelection 0 = true then snapSlopes buf else []).length
          + residuals.length : Nat) : Int) else 0])
      ++ (if sectionSelected s.mon.snapSelection 0 = true then snapSlopes buf else []) ++ residuals ++ codes := rfl
  rw [content, selected, widths, filled]
  simp

theorem exec_lawCompletion_fires {s : State} {run : LawRun} {k : Cycle} {mon : Monitor} (begun : s.law.inProgress = some run)
    (commits_nothing : run.mode ≠ .normal ∨ run.superseded = true)
    (fires : (s.endLaw run).testSnapshot run false = { s.endLaw run with mon := mon }) (one : s.cyc.cycles = [k])
    (bound : k.bank = run.bank) (no_edit : s.law.deferred = none) (empty : ∀ i, (s.sensor i).queue = []) (jobs : s.jobsQuiet = true) :
    exec .lawCompletion s = .next (({ s.endLaw run with mon := mon } : State).withCycles [] false) := by
  have unedited : ({ s.endLaw run with mon := mon } : State).applyDeferred = { s.endLaw run with mon := mon } :=
    State.applyDeferred_of_none no_edit
  rw [exec_lawCompletion begun, State.completeLaw_of_not_applied (LawRun.applies_eq_false commits_nothing), fires, unedited]
  exact congrArg Host.Outcome.next (State.settle_retire (s := { s.endLaw run with mon := mon }) one bound empty jobs)

/-- Settles O52: the messages by their refusals, the trigger and the content by their definitions, the mark by the onset. -/
theorem snapshotFiresAndFills : Obligations.SnapshotFiresAndFills := by
  refine ⟨fun s => ⟨fun kind threshold selection hk ht hs heard => ?arm, exec_snapStatus_of_hears,
    fun offset length ho positive few heard => ?read, fun filling => if_pos filling⟩, fun s run => ?law,
    fun s quiet closed no_hold no_discard => ?onset⟩
  case arm =>
    intro stored bad
    have acts := exec_snapArm_of_hears hk ht hs heard
    have stored_eq : clampNat 1 3072 threshold = stored := clampNat_eq_min_max (by decide) threshold
    rw [stored_eq] at acts
    refine ⟨fun is_bad => ?_, fun not_bad filling => ?_, fun trigger named not_bad idle => ?_⟩
    · rcases is_bad with beyond | bad_selection
      · rw [acts, toTrigger_eq_none beyond]
      · rw [acts]
        split
        · rfl
        · rw [if_pos (by omega)]
    · have few : kind < 3 := by omega
      obtain ⟨trigger, known⟩ : ∃ t, toTrigger kind = some t := by
        match kind, few with
        | 0, _ => exact ⟨_, rfl⟩
        | 1, _ => exact ⟨_, rfl⟩
        | 2, _ => exact ⟨_, rfl⟩
      rw [acts, known]
      dsimp only
      rw [if_neg (by omega), if_pos filling]
    · have status : doneOr (decide (stored ≠ threshold)) = if stored = threshold then .done else .clamped := by
        by_cases same : stored = threshold <;> simp [doneOr, same]
      rw [acts, named, toTrigger_triggerCode]
      dsimp only
      rw [if_neg (by omega), if_neg idle, status]
  case read =>
    have acts := exec_snapRead_of_hears ho positive few heard
    refine ⟨fun not_full => ?_, fun full beyond => ?_, fun full inside => ?_⟩
    · rw [acts, if_pos not_full]
    · rw [acts, if_neg (by simp [full]), if_pos beyond]
    · rw [acts, if_neg (by simp [full]), if_neg (by omega)]
  case law =>
    intro m buf part on slopes residuals codes width header filled fires
    have fires_eq : ∀ applied, fires applied → s.testSnapshot run applied = filled := fun applied h => by
      have content : s.snapshot run = header ++ slopes ++ residuals ++ codes := s.snapshot_eq run
      unfold State.testSnapshot
      rw [if_pos ((s.snapFires_iff applied).2 h), content]
    refine ⟨fires_eq, fun applied not_fires => if_neg fun h => not_fires ((s.snapFires_iff applied).1 h),
      fun k begun commits_nothing fired one bound no_edit reoffer empty none_runs none_queued none_waits => ?_, rfl⟩
    have jobs := State.jobsQuiet_of_idle none_runs none_queued none_waits
    have tested : (s.endLaw run).testSnapshot run false = { s.endLaw run with mon := filled.mon } := by
      have content : (s.endLaw run).snapshot run = header ++ slopes ++ residuals ++ codes := (s.endLaw run).snapshot_eq run
      unfold State.testSnapshot
      rw [if_pos (((s.endLaw run).snapFires_iff false).2 fired), content]
      rfl
    have same : ({ s.endLaw run with mon := filled.mon } : State).withCycles [] false = { filled with
        law := { s.law with inProgress := none, residual := run.residual, lastQ := run.q }
        cyc := { s.cyc with cycles := [] } } := by
      rw [← reoffer]
      rfl
    rw [exec_lawCompletion_fires begun commits_nothing tested one bound no_edit empty jobs, same]
  case onset =>
    intro marked held
    have moves (l : LoopSupervisor) (same : l.state = s.loop.state) (params : l.params = s.loop.params)
        (hold : (s.withLoop l).holding.any = true) : (s.withLoop l).holdsChanged s.holding = held l := by
      have onset := State.onset_eq (s := s.withLoop l) (same.trans closed) (by rw [State.withLoop, params]; exact no_discard)
      rw [State.holdsChanged_onset (s := s.withLoop l) (same.trans closed) no_hold hold, onset, State.markOnset_eq]
      rfl
    refine ⟨fun shared => ?_, fun heard => ?_⟩
    · refine exec_holdnChange_of (moves (s.loop.lineAt true) rfl rfl ?_) (State.settle_of_quiet_congr quiet rfl rfl rfl rfl)
      rw [State.holding_lineAt, HoldSet.any_iff]
      exact .inr (.inl (by simp [shared]))
    · refine exec_loopHold_of heard (moves s.loop.commanded rfl rfl ?_) (State.settle_of_quiet_congr quiet rfl rfl rfl rfl)
      rw [State.holding_commanded, HoldSet.any_iff]
      exact .inl rfl

end Sys2Proof.Machine

/-! ACT.WRITE (05 section 5.7). -/

namespace Sys2Proof.Machine
-- One theorem at a time: each worker thread reserves memory of its own.
set_option Elab.async false

/-! ## The payload of ACT.WRITE -/

@[simp] theorem rd16_skipInt (x : Int) (b : List Byte) (i : Nat) : rd16 (beBytesInt 2 x ++ b) (i + 2) = rd16 b i := rd16_skip16 _ b i

@[simp] theorem rdS16_skipInt (x : Int) (b : List Byte) (i : Nat) : rdS16 (beBytesInt 2 x ++ b) (i + 2) = rdS16 b i := rdS16_skip16 _ b i

/-- A record as the host sends it (05 Table 5.2). -/
def ActRecord.bytes (a : ActRecord) : List Byte := s16s [a.lo, a.hi, a.flat] ++ u16s [a.gain, actModeCode a.mode]

@[simp] theorem ActRecord.length_bytes (a : ActRecord) : a.bytes.length = 10 := by simp [ActRecord.bytes]

theorem length_flatMap_bytes (new : List ActRecord) : (new.flatMap ActRecord.bytes).length = 10 * new.length := by
  induction new with
  | nil => rfl
  | cons a l ih => simp [ih]; omega

/-- A record that the fields can hold (05 Table 5.2). -/
def ActRecord.sendable (a : ActRecord) : Prop := fitsS16 [a.lo, a.hi, a.flat] = true ∧ a.gain < 65536

theorem rdActRecord_bytes {x : ActRecord} (fits : x.sendable) (a b : List Byte) :
    rdActRecord (a ++ (x.bytes ++ b)) a.length = if x.hi < x.lo then none else some x := by
  obtain ⟨signed, gain⟩ := fits
  rw [fitsS16_iff] at signed
  obtain ⟨lo0, lo1⟩ := signed x.lo (by simp)
  obtain ⟨hi0, hi1⟩ := signed x.hi (by simp)
  obtain ⟨flat0, flat1⟩ := signed x.flat (by simp)
  have mode_small : actModeCode x.mode % 65536 = actModeCode x.mode := by cases x.mode <;> rfl
  have bytes : x.bytes ++ b = beBytesInt 2 x.lo ++ (beBytesInt 2 x.hi ++ (beBytesInt 2 x.flat
      ++ (beBytes 2 x.gain ++ (beBytes 2 (actModeCode x.mode) ++ b)))) := by simp [ActRecord.bytes]
  have lo : rdS16 (a ++ (x.bytes ++ b)) a.length = x.lo := by
    rw [show a.length = a.length + 0 from rfl, rdS16_append, bytes, rdS16_beBytesInt _ _ lo0 lo1]
  have hi : rdS16 (a ++ (x.bytes ++ b)) (a.length + 2) = x.hi := by
    rw [rdS16_append, bytes, show 2 = 0 + 2 from rfl, rdS16_skipInt, rdS16_beBytesInt _ _ hi0 hi1]
  have flat : rdS16 (a ++ (x.bytes ++ b)) (a.length + 4) = x.flat := by
    rw [rdS16_append, bytes, show 4 = 0 + 2 + 2 from rfl, rdS16_skipInt, rdS16_skipInt, rdS16_beBytesInt _ _ flat0 flat1]
  have gain_eq : rd16 (a ++ (x.bytes ++ b)) (a.length + 6) = x.gain := by
    rw [rd16_append, bytes, show 6 = 0 + 2 + 2 + 2 from rfl, rd16_skipInt, rd16_skipInt, rd16_skipInt, rd16_beBytes,
      Nat.mod_eq_of_lt gain]
  have mode : rd16 (a ++ (x.bytes ++ b)) (a.length + 8) = actModeCode x.mode := by
    rw [rd16_append, bytes, show 8 = 0 + 2 + 2 + 2 + 2 from rfl, rd16_skipInt, rd16_skipInt, rd16_skipInt, rd16_skip16, rd16_beBytes,
      mode_small]
  rw [rdActRecord, mode, toActMode_actModeCode]
  simp only [lo, hi, flat, gain_eq]

theorem rdActRecords_payload (new : List ActRecord) (a : List Byte) (fits : ∀ x ∈ new, x.sendable) :
    ((List.range new.length).map fun k => rdActRecord (a ++ new.flatMap ActRecord.bytes) (a.length + 10 * k))
      = new.map fun x => if x.hi < x.lo then none else some x := by
  induction new generalizing a with
  | nil => rfl
  | cons x l ih =>
    have rest := ih (a ++ x.bytes) fun y mem => fits y (List.mem_cons_of_mem _ mem)
    rw [List.length_append, ActRecord.length_bytes, List.append_assoc] at rest
    rw [List.length_cons, List.range_succ_eq_map, List.map_cons, List.map_map, List.flatMap_cons, List.map_cons]
    refine List.cons_eq_cons.2 ⟨rdActRecord_bytes (fits x (List.mem_cons_self ..)) a _, ?_⟩
    rw [← rest]
    refine List.map_congr_left fun k _ => ?_
    rw [Function.comp, Nat.mul_succ, Nat.add_assoc, Nat.add_comm 10]

/-- The records read back, unless one has its limits crossed (05 R106). -/
theorem rdRecords_payload {first : Nat} {new : List ActRecord} (fits : ∀ x ∈ new, x.sendable) :
    rdRecords (u16s [first, new.length] ++ new.flatMap ActRecord.bytes) new.length
      = allSome (new.map fun x => if x.hi < x.lo then none else some x) :=
  congrArg allSome (rdActRecords_payload new (u16s [first, new.length]) fits)

theorem exec_actWrite_of_hears {s : State} {first : Nat} {new : List ActRecord} (hfirst : first < 65536) (some_new : new ≠ [])
    (few : new.length < 65536) (fits : ∀ x ∈ new, x.sendable)
    (heard : s.hears .actWrite (u16s [first, new.length] ++ new.flatMap ActRecord.bytes) = true) :
    exec .actWrite s = .next (if s.mem.nAct < first + new.length then s.refuse .badValue
      else match allSome (new.map fun x => if x.hi < x.lo then none else some x) with
        | none => s.refuse .badValue
        | some new => if s.law.inProgress.isSome then s.deferEdit first new else (s.applyEdit first new).reply .done []) := by
  let p := u16s [first, new.length] ++ new.flatMap ActRecord.bytes
  have length : p.length = 4 + 10 * new.length := by
    rw [List.length_append, length_flatMap_bytes]
    rfl
  have read0 : rd16 p 0 = first := by simp [p, Nat.mod_eq_of_lt hfirst]
  have read2 : rd16 p 2 = new.length := by simp [p, Nat.mod_eq_of_lt few]
  have nonzero : new.length ≠ 0 := by simpa using some_new
  have records : rdRecords p new.length = _ := rdRecords_payload fits
  change execActWrite s = _
  rw [execActWrite, runMessage_of_hears heard]
  change Host.Outcome.next (actWriteAct p s) = _
  rw [actWriteAct]
  simp only [read0, read2, length, records]
  rw [if_neg (by omega)] <;> rfl

theorem allSome_of_ordered {new : List ActRecord} (ordered : ∀ a ∈ new, a.lo ≤ a.hi) :
    allSome (new.map fun x => if x.hi < x.lo then none else some x) = some new := by
  have each : (new.map fun x => if x.hi < x.lo then none else some x) = new.map some :=
    List.map_congr_left fun a mem => if_neg (by have := ordered a mem; omega)
  rw [each, allSome_map_some]

theorem allSome_of_crossed {new : List ActRecord} (crossed : ∃ a ∈ new, a.hi < a.lo) :
    allSome (new.map fun x => if x.hi < x.lo then none else some x) = none := by
  obtain ⟨a, mem, low⟩ := crossed
  exact allSome_of_none_mem (List.mem_map.2 ⟨a, mem, if_pos low⟩)

/-! ## The edit (05 R107, R108, Table 5.7) -/

theorem State.act_writeActuators {s : State} {first : Nat} {new : List ActRecord} (inside : first + new.length ≤ s.law.actuators.length)
    (i : Nat) : (s.writeActuators first new).act i
      = if first ≤ i ∧ i < first + new.length then new.getD (i - first) ActRecord.reset else s.act i := by
  have length : (s.law.actuators.take first).length = first := by simp; omega
  change (s.law.actuators.take first ++ new ++ s.law.actuators.drop (first + new.length)).getD i ActRecord.reset = _
  by_cases before : i < first
  · rw [if_neg (by omega), List.append_assoc, List.getD_append _ _ _ _ (by omega)]
    simp [State.act, List.getD_eq_getElem?_getD, before]
  · by_cases named : i < first + new.length
    · rw [if_pos ⟨by omega, named⟩, List.append_assoc, List.getD_append_right _ _ _ _ (by omega), length,
        List.getD_append _ _ _ _ (by omega)]
    · rw [if_neg (by omega), List.getD_append_right _ _ _ _ (by simp; omega)]
      simp only [State.act, List.getD_eq_getElem?_getD, List.getElem?_drop, List.length_append, length]
      rw [show first + new.length + (i - (first + new.length)) = i by omega]

theorem editedIntegrator_eq {keeps : Bool} {placed : Prop} [Decidable placed] (keeps_iff : keeps = true ↔ placed) (old : ActRecord)
    {new : ActRecord} (ordered : new.lo ≤ new.hi) (z : Int) :
    editedIntegrator keeps old new z = if new.mode = .dead then 0
      else if old.mode = .dead ∨ ¬ placed then 256 * restValue new
      else max (256 * new.lo) (min (256 * new.hi) z) := by
  rw [editedIntegrator, clampIntegrator_eq ordered]
  split_ifs <;> simp_all

theorem State.vget_writeActuators {s : State} {first : Nat} {new : List ActRecord} (inside : first ≤ s.law.z.length) (i : Nat) :
    vget (s.writeActuators first new).law.z i = if first ≤ i ∧ i < first + new.length then
      editedIntegrator s.loop.state.keepsPosition (s.act i) (new.getD (i - first) ActRecord.reset) (vget s.law.z i)
      else vget s.law.z i := by
  change vget (vwrite s.law.z first ((List.range new.length).map _)) i = _
  rw [vget_vwrite inside, List.length_map, List.length_range]
  by_cases named : first ≤ i ∧ i < first + new.length
  · rw [if_pos named, if_pos named, vget_map_range, if_pos (by omega), show first + (i - first) = i by omega]
  · rw [if_neg named, if_neg named]

theorem State.editNeedsCommit_iff (s : State) (first : Nat) (new : List ActRecord) : s.editNeedsCommit first new = true ↔
    ∃ i, (first ≤ i ∧ i < first + new.length) ∧ ((s.act i).lo ≠ (new.getD (i - first) ActRecord.reset).lo
      ∨ (s.act i).hi ≠ (new.getD (i - first) ActRecord.reset).hi ∨ (s.act i).flat ≠ (new.getD (i - first) ActRecord.reset).flat
      ∨ (s.act i).mode ≠ (new.getD (i - first) ActRecord.reset).mode) := by
  simp only [State.editNeedsCommit, List.any_eq_true, List.mem_range, editCommits, Bool.or_eq_true, decide_eq_true_eq, or_assoc]
  constructor
  · rintro ⟨j, within, differs⟩
    exact ⟨first + j, ⟨by omega, by omega⟩, by rwa [Nat.add_sub_cancel_left]⟩
  · rintro ⟨i, ⟨low, high⟩, differs⟩
    exact ⟨i - first, by omega, by rwa [show first + (i - first) = i by omega]⟩

/-- With no measuring run an edit is the records' change alone, or that and a commit (05 R108). -/
theorem State.applyEdit_of_not_measuring {s : State} (idle : s.cal.measuring = false) (first : Nat) (new : List ActRecord) :
    s.applyEdit first new
      = if s.editNeedsCommit first new = true then (s.writeActuators first new).commitVector else s.writeActuators first new := by
  have commits : (s.writeActuators first new).commit = (s.writeActuators first new).commitVector :=
    State.commit_of_not_measuring (s := s.writeActuators first new) idle
  rw [State.applyEdit, commits]

/-- What an edit leaves unchanged when no run measures. -/
structure State.EditFrame (s t : State) : Prop where
  intake : t.intake = s.intake
  cyc : t.cyc = s.cyc
  mem : t.mem = s.mem
  recon : t.recon = s.recon
  loop : t.loop = s.loop
  cal : t.cal = s.cal
  mon : t.mon = s.mon
  link : t.link = s.link

theorem State.editFrame_applyEdit {s : State} (idle : s.cal.measuring = false) (first : Nat) (new : List ActRecord) :
    s.EditFrame (s.applyEdit first new) := by
  rw [State.applyEdit_of_not_measuring idle]
  split <;> exact ⟨rfl, rfl, rfl, rfl, rfl, rfl, rfl, rfl⟩

/-- The law unit's record after an edit but for the committed vector. -/
theorem State.law_applyEdit {s : State} (idle : s.cal.measuring = false) (first : Nat) (new : List ActRecord) :
    (s.applyEdit first new).law
      = { (s.writeActuators first new).law with committed := (s.applyEdit first new).law.committed } := by
  rw [State.applyEdit_of_not_measuring idle]
  split <;> rfl

theorem State.act_applyEdit {s : State} (idle : s.cal.measuring = false) (first : Nat) (new : List ActRecord) :
    (s.applyEdit first new).act = (s.writeActuators first new).act := by
  funext i
  rw [State.act, s.law_applyEdit idle]
  rfl

/-! ## The obligation -/

theorem LoopState.keepsPosition_iff (l : LoopState) : l.keepsPosition = true ↔ l = .closed ∨ l = .held := by
  simp [LoopState.keepsPosition]

/-- The end of a law that commits nothing and behind which an edit waits (05 R109). -/
theorem exec_lawCompletion_deferred {s : State} {run : LawRun} {k : Cycle} {c : Execution} {first : Nat} {new : List ActRecord}
    (begun : s.law.inProgress = some run) (executing : s.link.executing = some c) (one : s.cyc.cycles = [k]) (bound : k.bank = run.bank)
    (no_run : s.cal.running = false) (waits : s.law.deferred = some (first, new)) (deferred : c.progress = .deferred)
    (other : run.mode ≠ .normal) (idle : s.mon.snapState ≠ .armed) (empty : ∀ i, (s.sensor i).queue = [])
    (jobs : s.jobsQuiet = true) :
    exec .lawCompletion s = .next (((({ s with law := { s.law with
      inProgress := none, residual := run.residual, lastQ := run.q, deferred := none } } : State).applyEdit first new).reply .done []
      ).withCycles [] false) := by
  generalize freed_eq : ({ s with law := { s.law with
    inProgress := none, residual := run.residual, lastQ := run.q, deferred := none } } : State) = freed
  have measures : freed.cal.measuring = false := by
    rw [← freed_eq]
    exact Calibration.measuring_of_not_running no_run
  have frame := State.editFrame_applyEdit measures first new
  have still : (s.endLaw run).testSnapshot run false = s.endLaw run :=
    State.testSnapshot_of_not_armed (s := s.endLaw run) idle run false
  have awaits : (freed.applyEdit first new).link.awaitsLaw = true := by
    have executing : (freed.applyEdit first new).link.executing = some c := by rw [frame.link, ← freed_eq]; exact executing
    simp [ControlLink.awaitsLaw, executing, deferred]
  have applied : (s.endLaw run).applyDeferred = (freed.applyEdit first new).reply .done [] := by
    have edited : (s.endLaw run).applyDeferred = if (freed.applyEdit first new).link.awaitsLaw then
        (freed.applyEdit first new).reply .done [] else freed.applyEdit first new := by
      rw [← freed_eq]
      unfold State.applyDeferred
      simp only [State.endLaw, waits]
    rw [edited, if_pos awaits]
  have commits_nothing : run.applies = false := LawRun.applies_eq_false (.inl other)
  rw [exec_lawCompletion begun, State.completeLaw_of_not_applied commits_nothing, still, applied]
  refine congrArg Host.Outcome.next (State.settle_retire (k := k) ?_ bound (fun i => ?_) ?_)
  · rw [State.reply_cyc, frame.cyc, ← freed_eq]
    exact one
  · rw [State.sensor, State.reply_intake, frame.intake, ← freed_eq]
    exact empty i
  · rw [← jobs]
    refine State.jobsQuiet_congr ?_ ?_
    · rw [State.reply_recon, frame.recon, ← freed_eq]
    · rw [State.reply_mem, frame.mem, ← freed_eq]

/-- Settles O36: the refusals by the branches, the edit by the records and integrators it writes, the deferred one by the law's end. -/
theorem actuatorWrite : Obligations.ActuatorWrite := by
  refine ⟨fun s first new hfirst some_new few fits heard => ?now, fun s first new c run k begun executing replies one bound no_run =>
    ⟨fun heard hfirst few some_new fits inside => ?waits, fun waits deferred other idle inside reoffer empty none_runs none_queued
      none_waits => ?ended⟩⟩
  case now =>
    intro named record moved rest placed
    have acts := exec_actWrite_of_hears hfirst some_new few fits heard
    refine ⟨fun beyond => ?_, fun inside crossed => ?_, fun inside ordered none_runs long_table long_z idle => ?_⟩
    · rw [acts, if_pos beyond]
    · rw [acts, if_neg (by omega), allSome_of_crossed crossed]
    · have acts : exec .actWrite s = .next ((s.applyEdit first new).reply .done []) := by
        rw [acts, if_neg (by omega), allSome_of_ordered ordered]
        simp only [none_runs, Option.isSome_none, Bool.false_eq_true, if_false]
      have frame := State.editFrame_applyEdit idle first new
      refine ⟨s.applyEdit first new, acts, fun i => ?_, fun i => ?_, fun moves => ?_, fun stays => ?_, frame.intake, frame.cyc,
        frame.mem, frame.recon, frame.loop, frame.cal, frame.mon, frame.link⟩
      · rw [State.act_applyEdit idle, State.act_writeActuators (by omega)]
      · rw [s.law_applyEdit idle]
        change vget (s.writeActuators first new).law.z i = _
        rw [State.vget_writeActuators (by omega)]
        by_cases name : named i
        · have known : new.getD (i - first) ActRecord.reset ∈ new := by
            have within : i - first < new.length := by have := name.1; have := name.2; omega
            rw [List.getD_eq_getElem _ _ within]
            exact List.getElem_mem _
          rw [if_pos name, if_pos name, editedIntegrator_eq (LoopState.keepsPosition_iff _) _ (ordered _ known)]
          rfl
        · rw [if_neg name, if_neg name]
      · have commits : s.applyEdit first new = (s.writeActuators first new).commitVector := by
          rw [State.applyEdit_of_not_measuring idle, if_pos ((s.editNeedsCommit_iff first new).2 moves)]
        rw [commits]
        exact ⟨congrArg LawUnit.committed (s.writeActuators first new).committed_commitVector,
          (s.writeActuators first new).driveLink_commitVector⟩
      · have writes : s.applyEdit first new = s.writeActuators first new := by
          rw [State.applyEdit_of_not_measuring idle, if_neg fun h => stays ((s.editNeedsCommit_iff first new).1 h)]
        rw [writes]
        exact ⟨rfl, rfl⟩
  case waits =>
    have acts := exec_actWrite_of_hears hfirst some_new few (fun a mem => ⟨(fits a mem).1, (fits a mem).2.1⟩) heard
    rw [acts, if_neg (by omega), allSome_of_ordered fun a mem => (fits a mem).2.2]
    simp only [begun, Option.isSome_some, if_true, State.deferEdit, State.setProgress, executing, Option.map_some]
  case ended =>
    have jobs := State.jobsQuiet_of_idle none_runs none_queued none_waits
    refine ⟨_, exec_lawCompletion_deferred begun executing one bound no_run waits deferred other idle empty jobs, ?_⟩
    generalize freed_eq : ({ s with law := { s.law with
      inProgress := none, residual := run.residual, lastQ := run.q, deferred := none } } : State) = freed
    have measures : freed.cal.measuring = false := by
      rw [← freed_eq]
      exact Calibration.measuring_of_not_running no_run
    have frame := State.editFrame_applyEdit measures first new
    have law := State.law_applyEdit measures first new
    have replied : ((freed.applyEdit first new).reply .done []).link
        = { s.link with executing := none, transmitter := s.link.transmitter
            ++ [{ name := c.frame.name, tag := c.frame.tag, status := .done, data := [] }] } := by
      change (freed.applyEdit first new).link.reply .done [] = _
      rw [frame.link, ← freed_eq]
      exact reply_of_executing executing replies _ _
    refine ⟨?_, ?_, rfl, fun i => ?_, ?_, ?_⟩
    · change (freed.applyEdit first new).law.deferred = none
      rw [law, ← freed_eq]
      rfl
    · change (freed.applyEdit first new).law.inProgress = none
      rw [law, ← freed_eq]
      rfl
    · change (freed.applyEdit first new).act i = _
      rw [State.act_applyEdit measures, State.act_writeActuators (by rw [← freed_eq]; exact inside), ← freed_eq]
      rfl
    · exact congrArg ControlLink.executing replied
    · exact congrArg ControlLink.transmitter replied

end Sys2Proof.Machine

/-! The job in flight: its rows, its failure and its completion (03 section 3.6, 04 sections 4.1 to 4.4). -/

namespace Sys2Proof.Machine
-- One theorem at a time: each worker thread reserves memory of its own.
set_option Elab.async false

/-! ## The end of a step whose follow-ups concern no frame -/

/-- A step ends where its follow-ups leave a quiet state. -/
theorem State.settle_of_followUp {s t : State} {o : Offering} (followed : State.followUp s.followBound o s = t)
    (quiet : t.quiet = true) : s.settle o = t := by
  obtain ⟨reoffer, no_pass, -⟩ := (State.quiet_iff t).1 quiet
  have settled := settle_of_quiet quiet
  rw [State.settle, followUp_of_still reoffer no_pass] at settled
  rw [State.settle, followed, settled]

/-- An abandoned cycle that can pass, the only one, retires and nothing more happens (02 R47, R48). -/
theorem State.settle_of_abandoned_passing {s : State} {k : Cycle} (one : s.cyc.cycles = [k]) (abandoned : k.abandoned = true)
    (draining : k.state = .draining) (none_left : k.outstanding = 0) (no_law : s.law.inProgress = none)
    (reoffer : s.cyc.reoffer = false) (empty : ∀ i, (s.sensor i).queue = []) (jobs : s.jobsQuiet = true) :
    s.settle .nothing = s.withCycles [] false := by
  obtain ⟨n, bound⟩ := s.followBound_large
  have passes : s.canPass = true := by simp [State.canPass, one, draining, none_left, no_law]
  have passed : s.passToLaw = s.withCycles [] true := by
    rw [State.passToLaw_abandoned one abandoned, State.filter_singleton_bank one rfl]
  have followed : State.followUp s.followBound .nothing s = s.withCycles [] false := by
    rw [bound, State.followUp, reoffer, passes, passed]
    exact State.followUp_of_empty (s := s.withCycles [] true) empty rfl n
  exact State.settle_of_followUp followed ((State.quiet_iff (s.withCycles [] false)).2 ⟨rfl, rfl, jobs⟩)

/-- The reconstruction unit's record replaced. -/
def State.withRecon (s : State) (r : Reconstruction) : State := { s with recon := r }

/-- The reconstruction unit's record with the head of the queue become the job in flight (04 R77). -/
def State.nextJob (s : State) : Reconstruction :=
  { s.recon with inFlight := s.recon.queue.head?.map s.flightOf, queue := s.recon.queue.tail }

theorem State.startJob_of_idle {s : State} (none_runs : s.recon.inFlight = none) : s.startJob = s.withRecon s.nextJob := by
  unfold State.startJob State.withRecon State.nextJob
  rcases queued : s.recon.queue with _ | ⟨j, rest⟩
  · simp only [none_runs, List.head?_nil, Option.map_none, List.tail_nil]
    rw [← none_runs, ← queued]
  · simp only [none_runs, List.head?_cons, Option.map_some, List.tail_cons]

/-- When no cycle can pass, the end of a job lets the next one begin (log 29). -/
theorem State.settle_of_idle {s : State} (none_runs : s.recon.inFlight = none) (reoffer : s.cyc.reoffer = false)
    (no_pass : s.canPass = false) : ∃ a, s.settle .nothing = (s.withRecon s.nextJob).setArbiter a := by
  obtain ⟨a, granted⟩ := (s.withRecon s.nextJob).grant_eq
  exact ⟨a, by rw [State.settle, followUp_of_still reoffer no_pass, State.startJob_of_idle none_runs, granted]⟩

/-! ## What a job adds (04 R78, R83, R84) -/

theorem State.updCycle_singleton {s : State} {k : Cycle} {b : Bank} (one : s.cyc.cycles = [k]) (bound : k.bank = b) (f : Cycle → Cycle) :
    s.updCycle b f = { s with cyc := { s.cyc with cycles := [f k] } } := by
  simp [State.updCycle, one, bound]

theorem State.cycleAt_singleton {s : State} {k : Cycle} {b : Bank} (one : s.cyc.cycles = [k]) (bound : k.bank = b) :
    s.cycleAt b = some k := bound ▸ State.banked_singleton one

/-- A job adds to the bank and the saved contributions; the rest stays. -/
theorem State.addJob_eq (s : State) (f : Flight) (k : Cycle) : s.addJob f k = s.withRecon (s.addJob f k).recon
    ∧ (s.addJob f k).recon.queue = s.recon.queue ∧ (s.addJob f k).recon.buffer = s.recon.buffer := by
  unfold State.addJob
  split
  · unfold State.addContribution State.setBank
    cases k.bank <;> exact ⟨rfl, rfl, rfl⟩
  · exact ⟨rfl, rfl, rfl⟩
  · unfold State.addSaved State.setBank
    dsimp only
    split
    · cases k.bank <;> exact ⟨rfl, rfl, rfl⟩
    · exact ⟨rfl, rfl, rfl⟩

/-- What a completing job contributes to the sum of an actuator. -/
def State.jobSum (s : State) (f : Flight) (k : Cycle) (i : Nat) : Int :=
  match f.job.kind, k.set with
  | .contribution _, some _ => vget s.recon.buffer i
  | .substitution, some n =>
    if (s.savedOf f.job.sensor).valid = true ∧ (s.savedOf f.job.sensor).setTag = n then vget (s.savedOf f.job.sensor).vector i else 0
  | _, none => 0

theorem State.bankVector_addContribution (s : State) (f : Flight) (k : Cycle) (n : Fin 4) :
    (s.addContribution f k n).bankVector k.bank = vaddBelow f.nAct (s.bankVector k.bank) s.recon.buffer := by
  unfold State.addContribution
  cases k.bank <;> rfl

theorem State.addSaved_of_may {s : State} {f : Flight} {k : Cycle}
    (may : (s.savedOf f.job.sensor).valid = true ∧ k.set = some (s.savedOf f.job.sensor).setTag) :
    s.addSaved f k = (s.setBank k.bank (vaddBelow f.nAct (s.bankVector k.bank) (s.savedOf f.job.sensor).vector)).updSaved
      f.job.sensor fun y => { y with useCount := y.useCount + 1 } := if_pos may

theorem State.addSaved_of_not {s : State} {f : Flight} {k : Cycle}
    (may_not : ¬ ((s.savedOf f.job.sensor).valid = true ∧ k.set = some (s.savedOf f.job.sensor).setTag)) : s.addSaved f k = s :=
  if_neg may_not

theorem vget_vaddBelow (n : Nat) (v w : List Int) (i : Nat) :
    vget (vaddBelow n v w) i = vget v i + if i < n then vget w i else 0 := by
  rw [vaddBelow, vget_vfill]
  split <;> simp

theorem State.bankVector_addJob (s : State) (f : Flight) (k : Cycle) (i : Nat) :
    vget ((s.addJob f k).bankVector k.bank) i = vget (s.bankVector k.bank) i + if i < f.nAct then s.jobSum f k i else 0 := by
  unfold State.addJob State.jobSum
  rcases f.job.kind with slopes | _ <;> rcases set : k.set with _ | n
  · simp
  · simp only [State.bankVector_addContribution, vget_vaddBelow]
  · have may_not : ¬ ((s.savedOf f.job.sensor).valid = true ∧ k.set = some (s.savedOf f.job.sensor).setTag) := by simp [set]
    simp [State.addSaved_of_not may_not]
  · by_cases may : (s.savedOf f.job.sensor).valid = true ∧ k.set = some (s.savedOf f.job.sensor).setTag
    · have tag : (s.savedOf f.job.sensor).setTag = n := by simpa [set] using may.2.symm
      have added : (s.addSaved f k).bankVector k.bank
          = vaddBelow f.nAct (s.bankVector k.bank) (s.savedOf f.job.sensor).vector := by
        rw [State.addSaved_of_may may]
        cases k.bank <;> rfl
      simp only [added, vget_vaddBelow, may.1, tag, and_self, if_true]
    · have may_not : ¬ ((s.savedOf f.job.sensor).valid = true ∧ (s.savedOf f.job.sensor).setTag = n) :=
        fun h => may ⟨h.1, by rw [set, h.2]⟩
      simp [State.addSaved_of_not may, may_not]

/-! ## The completion of a job (04 R78, R79) -/

/-- The cycle controller's record when a job of its only cycle has completed. -/
def State.jobCounted (s : State) (f : Flight) (k : Cycle) : CycleController :=
  { s.cyc with
    cycles := [{ k with outstanding := k.outstanding - 1 }]
    pendingSubs := match f.job.kind with
      | .contribution _ => s.cyc.pendingSubs
      | .substitution => s.cyc.pendingSubs.set f.job.sensor (s.pendingSub f.job.sensor - 1) }

/-- The reconstruction unit's record when a job of the cycle has completed: a job of an abandoned cycle adds nothing. -/
def State.jobAdded (s : State) (f : Flight) (k : Cycle) : Reconstruction :=
  { (if k.abandoned then s else s.addJob f k).recon with inFlight := none }

theorem State.reportDone_singleton {s : State} {f : Flight} {k : Cycle} (one : s.cyc.cycles = [k]) (bound : k.bank = f.job.bank) :
    s.reportDone f = { s with cyc := s.jobCounted f k } := by
  unfold State.reportDone State.jobCounted
  rw [State.updCycle_singleton one bound]
  cases f.job.kind <;> rfl

/-- The state in which a job of the only cycle has completed. -/
def State.jobDone (s : State) (f : Flight) (k : Cycle) : State := { s with recon := s.jobAdded f k, cyc := s.jobCounted f k }

theorem State.completeJob_of_bound {s : State} {f : Flight} {k : Cycle} (one : s.cyc.cycles = [k]) (bound : k.bank = f.job.bank)
    (own : f.orphan = false) : s.completeJob f = s.jobDone f k := by
  have completes : s.completeJob f = ((if k.abandoned then s else s.addJob f k).reportDone f).clearFlight := by
    unfold State.completeJob
    rw [own, State.cycleAt_singleton one bound] <;> rfl
  rw [completes]
  by_cases abandoned : k.abandoned = true
  · rw [if_pos abandoned, State.reportDone_singleton one bound]
    simp only [State.jobDone, State.jobAdded, if_pos abandoned]
    rfl
  · obtain ⟨adds, -, -⟩ := s.addJob_eq f k
    have reported := State.reportDone_singleton (s := s.withRecon (s.addJob f k).recon) one bound
    simp only [State.jobDone, State.jobAdded, if_neg abandoned]
    rw [adds, reported]
    rfl

theorem State.completeJob_of_orphan {s : State} {f : Flight} (orphan : f.orphan = true) : s.completeJob f = s.clearFlight := if_pos orphan

theorem exec_jobCompletion {s : State} {f : Flight} (runs : s.recon.inFlight = some f) (ready : f.ready = true)
    (free : s.mem.arbiter.current = none) : exec .jobCompletion s = .next ((s.completeJob f).settle .nothing) := by
  change execJobCompletion s = _
  rw [execJobCompletion, runs]
  exact if_pos ⟨ready, by simp [free]⟩

theorem State.queue_jobAdded (s : State) (f : Flight) (k : Cycle) : (s.jobAdded f k).queue = s.recon.queue := by
  unfold State.jobAdded
  split
  · rfl
  · exact (s.addJob_eq f k).2.1

theorem State.canPass_jobDone {s : State} {f : Flight} {k : Cycle} (goes_on : k.state = .accumulating ∨ 1 < k.outstanding) :
    (s.jobDone f k).canPass = false := by
  have left : k.state = .draining → k.outstanding - 1 ≠ 0 := fun draining => by
    rcases goes_on with acc | more
    · simp [acc] at draining
    · omega
  by_cases draining : k.state = .draining
  · simp [State.canPass, State.jobDone, State.jobCounted, left draining]
  · simp [State.canPass, State.jobDone, State.jobCounted, draining]

/-- The step of a completion in which the next job begins. -/
theorem exec_jobCompletion_goes_on {s : State} {f : Flight} {k : Cycle} (runs : s.recon.inFlight = some f) (ready : f.ready = true)
    (free : s.mem.arbiter.current = none) (own : f.orphan = false) (one : s.cyc.cycles = [k]) (bound : k.bank = f.job.bank)
    (reoffer : s.cyc.reoffer = false) (goes_on : k.state = .accumulating ∨ 1 < k.outstanding) :
    ∃ a, exec .jobCompletion s = .next (((s.jobDone f k).withRecon (s.jobDone f k).nextJob).setArbiter a) := by
  obtain ⟨a, settled⟩ := State.settle_of_idle (s := s.jobDone f k) rfl reoffer (State.canPass_jobDone goes_on)
  exact ⟨a, by rw [exec_jobCompletion runs ready free, State.completeJob_of_bound one bound own, settled]⟩

theorem State.nextJob_jobs {s : State} {queue : List Job} (queued : s.recon.queue = queue) :
    s.nextJob.queue = queue.tail ∧ s.nextJob.inFlight.map (fun g => g.job) = queue.head? := by
  subst queued
  exact ⟨rfl, by rw [State.nextJob, Option.map_map]; exact Option.map_id'⟩

/-- What a contribution job of a live cycle saves (04 R83). -/
theorem State.saved_addContribution (s : State) (f : Flight) (k : Cycle) (n : Fin 4) :
    (s.addContribution f k n).savedOf f.job.sensor
      = { valid := true, setTag := n, fnTag := k.fn, useCount := 0, vector := vslice s.recon.buffer 0 f.nAct }
    ∧ ∀ j, j ≠ f.job.sensor → (s.addContribution f k n).savedOf j = s.savedOf j := by
  unfold State.addContribution
  refine ⟨State.savedOf_updSaved .., fun j other => ?_⟩
  rw [State.savedOf_updSaved_ne _ _ other]
  cases k.bank <;> rfl

theorem vget_vslice_zero (v : List Int) (n : Nat) {i : Nat} (inside : i < n) : vget (vslice v 0 n) i = vget v i := by
  rw [vslice, vget_map_range, if_pos inside, Nat.zero_add]

/-- Settles O31: the job adds by its kind and its cycle, and the next one begins; a substitution's queue is empty. -/
theorem jobCompletes : Obligations.JobCompletes := by
  refine ⟨fun s f slopes k n runs kind read free none_waits reoffer one bound set drained goes_on => ?contribution,
    fun s f k runs kind own free none_waits reoffer one bound drained goes_on none_queued => ?substitution⟩
  case contribution =>
    intro counted
    have ready : f.ready = true := by simp [Flight.ready, kind, read]
    by_cases orphan : f.orphan = true
    · have no_pass : s.clearFlight.canPass = false := by
        rcases goes_on with acc | more
        · simp [State.canPass, State.clearFlight, one, acc]
        · simp [State.canPass, State.clearFlight, one, show k.outstanding ≠ 0 by omega]
      obtain ⟨a, settled⟩ := State.settle_of_idle (s := s.clearFlight) rfl reoffer no_pass
      obtain ⟨queue, job⟩ := s.clearFlight.nextJob_jobs rfl
      refine ⟨(s.clearFlight.withRecon s.clearFlight.nextJob).setArbiter a, ?_, queue, job, fun own => ?_, fun own => ?_,
        fun _ => ⟨rfl, rfl, rfl, rfl⟩, rfl, rfl, rfl, rfl, rfl, rfl, rfl, rfl⟩
      · rw [exec_jobCompletion runs ready free, State.completeJob_of_orphan orphan, settled]
      · simp [orphan] at own
      · simp [orphan] at own
    · have own : f.orphan = false := by simpa using orphan
      obtain ⟨a, acts⟩ := exec_jobCompletion_goes_on runs ready free own one bound reoffer goes_on
      have counts : s.jobCounted f k = counted := by simp only [State.jobCounted, counted, kind]
      obtain ⟨queue, job⟩ := (s.jobDone f k).nextJob_jobs (s.queue_jobAdded f k)
      refine ⟨_, acts, queue, job, fun _ live => ?_, fun _ abandoned => ?_, fun is_orphan => absurd is_orphan orphan, rfl, rfl, rfl, rfl,
        rfl, rfl, rfl, rfl⟩
      · have adds : s.addJob f k = s.addContribution f k n := by simp only [State.addJob, kind, set]
        have added : s.jobAdded f k = { (s.addContribution f k n).recon with inFlight := none } := by
          simp only [State.jobAdded, live, Bool.false_eq_true, if_false, adds]
        obtain ⟨saved, others⟩ := s.saved_addContribution f k n
        have saved_eq : ∀ j, (((s.jobDone f k).withRecon (s.jobDone f k).nextJob).setArbiter a).savedOf j
            = (s.addContribution f k n).savedOf j := fun j => (congrArg (fun r : Reconstruction => r.saved[j]) added :)
        have bank : (((s.jobDone f k).withRecon (s.jobDone f k).nextJob).setArbiter a).bankVector k.bank
            = (s.addContribution f k n).bankVector k.bank := by
          change (s.withRecon (s.jobAdded f k)).bankVector k.bank = _
          rw [added]
          cases k.bank <;> rfl
        rw [saved_eq, saved, bank]
        refine ⟨fun i => ?_, rfl, rfl, rfl, rfl, fun i inside => vget_vslice_zero _ _ inside,
          fun j other => (saved_eq j).trans (others j other), counts⟩
        rw [State.bankVector_addContribution, vget_vaddBelow]
      · have added : s.jobAdded f k = { s.recon with inFlight := none } := by simp only [State.jobAdded, abandoned, if_true]
        exact ⟨(congrArg Reconstruction.bankA added :), (congrArg Reconstruction.bankB added :), (congrArg Reconstruction.saved added :), counts⟩
  case substitution =>
    intro x may
    have ready : f.ready = true := by simp [Flight.ready, kind]
    have jobs : (s.jobDone f k).jobsQuiet = true :=
      State.jobsQuiet_of_idle (s := s.jobDone f k) rfl ((s.queue_jobAdded f k).trans none_queued) none_waits
    have acts : exec .jobCompletion s = .next (s.jobDone f k) := by
      rw [exec_jobCompletion runs ready free, State.completeJob_of_bound one bound own,
        settle_of_quiet ((State.quiet_iff (s.jobDone f k)).2 ⟨reoffer, State.canPass_jobDone goes_on, jobs⟩)]
    have pending : (s.jobDone f k).cyc.pendingSubs = s.cyc.pendingSubs.set f.job.sensor (s.pendingSub f.job.sensor - 1) := by
      simp only [State.jobDone, State.jobCounted, kind]
    have adds : s.addJob f k = s.addSaved f k := by simp only [State.addJob, kind]
    refine ⟨s.jobDone f k, acts, rfl, fun ⟨live, valid, tag⟩ => ?_, fun may_not => ?_, ?_, fun j other => ?_, rfl, rfl, rfl, rfl, rfl,
      rfl, rfl, rfl, rfl⟩
    · have added : s.jobAdded f k = { (s.addSaved f k).recon with inFlight := none } := by
        simp only [State.jobAdded, live, Bool.false_eq_true, if_false, adds]
      have saves := State.addSaved_of_may (s := s) (f := f) (k := k) ⟨valid, tag⟩
      refine ⟨fun i => ?_, ?_⟩
      · have bank : (s.jobDone f k).bankVector k.bank = (s.addSaved f k).bankVector k.bank := by
          change (s.withRecon (s.jobAdded f k)).bankVector k.bank = _
          rw [added]
          cases k.bank <;> rfl
        have sum : (s.addSaved f k).bankVector k.bank = vaddBelow f.nAct (s.bankVector k.bank) x.vector := by
          rw [saves]
          cases k.bank <;> rfl
        rw [bank, sum, vget_vaddBelow]
      · have saved : (s.jobDone f k).savedOf f.job.sensor = (s.addSaved f k).savedOf f.job.sensor :=
          (congrArg (fun r : Reconstruction => r.saved[f.job.sensor]) added :)
        rw [saved, saves, State.savedOf_updSaved]
        cases k.bank <;> rfl
    · have added : s.jobAdded f k = { s.recon with inFlight := none } := by
        unfold State.jobAdded
        by_cases abandoned : k.abandoned = true
        · rw [if_pos abandoned]
        · rw [if_neg abandoned, adds, State.addSaved_of_not fun h => may_not ⟨by simpa using abandoned, h⟩]
      exact ⟨(congrArg Reconstruction.bankA added :), (congrArg Reconstruction.bankB added :), (congrArg Reconstruction.saved added :)⟩
    · rw [State.pendingSub, pending]
      simp
    · rw [State.pendingSub, pending]
      exact Vector.getElem_set_ne _ _ fun h => other (Fin.ext h.symm)

end Sys2Proof.Machine

/-! A row read of the job in flight, and its failure (03 section 3.6, 04 R75, R79). -/

namespace Sys2Proof.Machine
-- One theorem at a time: each worker thread reserves memory of its own.
set_option Elab.async false

section
variable {s : State} {us : List Upset} {f : Flight} {n : Fin 4} {slopes : List Int}

/-- The state in which a row's transfer has ended: the upsets came about, and the corrected errors are counted (03 R70). -/
def State.rowRead (s : State) (dram : Dram) (corrected : Nat) : State := ((s.setDram dram).countCorrected corrected).endTransfer

theorem exec_jobRowRead_of_scan {corrected : Nat} {failed : Bool} (granted : s.mem.arbiter.current = some .jobRow)
    (runs : s.recon.inFlight = some f) (kind : f.job.kind = .contribution slopes) (set : f.set = some n)
    (scan : (s.mem.dram.upset (coefficientSlot n f.job.sensor f.nextRow) us).scan (coefficientSlot n f.job.sensor f.nextRow / 4)
      ((2 * f.nSub + 3) / 4) = (corrected, failed)) :
    let dram := s.mem.dram.upset (coefficientSlot n f.job.sensor f.nextRow) us
    exec (.jobRowRead us) s = .next (if failed then ((s.rowRead dram corrected).failJob f n).settle .nothing
      else ((s.rowRead dram corrected).takeRow f slopes (dram.readRun (coefficientSlot n f.job.sensor f.nextRow) (2 * f.nSub))).grant) := by
  intro dram
  have acts : exec (.jobRowRead us) s =
      if (dram.scan (coefficientSlot n f.job.sensor f.nextRow / 4) ((2 * f.nSub + 3) / 4)).2 then
        .next (((s.rowRead dram (dram.scan (coefficientSlot n f.job.sensor f.nextRow / 4) ((2 * f.nSub + 3) / 4)).1).failJob f n).settle
          .nothing)
      else .next ((s.rowRead dram (dram.scan (coefficientSlot n f.job.sensor f.nextRow / 4) ((2 * f.nSub + 3) / 4)).1).takeRow f slopes
        (dram.readRun (coefficientSlot n f.job.sensor f.nextRow) (2 * f.nSub))).grant := by
    change execJobRowRead us s = _
    simp only [execJobRowRead, granted, runs, kind, set]
    rfl
  rw [acts, scan]
  cases failed <;> rfl

theorem dot_readRun (d : Dram) (slot : Nat) (long : slopes.length = 2 * f.nSub) :
    dot (d.readRun slot (2 * f.nSub)) slopes
      = ((List.range (2 * f.nSub)).map fun j => (d.read (slot + j)).toInt * vget slopes j).sum := by
  rw [dot, long]
  refine congrArg List.sum (List.map_congr_left fun j mem => ?_)
  rw [Dram.readRun, vget_map_range, if_pos (List.mem_range.1 mem)]

/-- After a row the next one follows, or the DRAM is free (03 R67). -/
theorem State.grant_of_contribution {t : State} (free : t.mem.arbiter.current = none) (runs : t.recon.inFlight = some f)
    (kind : f.job.kind = .contribution slopes) :
    t.grant = t.setArbiter { t.mem.arbiter with current := if f.nextRow < f.nAct then some .jobRow else none } := by
  simp only [State.grant, free, runs, kind]
  by_cases more : f.nextRow < f.nAct
  · rw [if_pos more, if_pos more]
  · rw [if_neg more, if_neg more, ← free]
    rfl

end

/-! ## Abandonment of the only cycle (02 R49) -/

theorem State.abandon_accumulating {s : State} {k : Cycle} {b : Bank} (one : s.cyc.cycles = [k]) (bound : k.bank = b)
    (live : k.abandoned = false) (acc : k.state = .accumulating) (unmarked : k.calMark = false) (none_queued : s.recon.queue = []) :
    s.abandon b false = { s with cyc := { s.cyc with
      abandonedCount := counterInc s.cyc.abandonedCount, lastClosed := some k.fn
      cycles := [{ k with abandoned := true, state := .draining, deadline := none }] } } := by
  let counted := ({ s with cyc := { s.cyc with abandonedCount := counterInc s.cyc.abandonedCount } } : State).updCycle b
    fun k => { k with abandoned := true }
  have counted_eq : counted = { s with cyc := { s.cyc with
      abandonedCount := counterInc s.cyc.abandonedCount, cycles := [{ k with abandoned := true }] } } :=
    State.updCycle_singleton (s := { s with cyc := { s.cyc with abandonedCount := counterInc s.cyc.abandonedCount } }) one bound _
  have removed : counted.removeJobs b = counted := by
    rw [counted_eq]
    exact State.removeJobs_of_none (by simp [none_queued])
  have steps : s.abandon b false = ({ counted.removeJobs b with cyc := { (counted.removeJobs b).cyc with lastClosed := some k.fn } } : State
      ).updCycle b (fun k => { k with state := .draining, deadline := none }) := by
    unfold State.abandon
    simp only [State.cycleAt_singleton one bound, live, acc, unmarked, Bool.false_eq_true, if_false]
    rfl
  rw [steps, removed, counted_eq]
  exact State.updCycle_singleton (s := { s with cyc := { s.cyc with
    abandonedCount := counterInc s.cyc.abandonedCount, lastClosed := some k.fn, cycles := [{ k with abandoned := true }] } }) rfl bound
    (fun k => { k with state := .draining, deadline := none })

/-- With nothing outstanding the abandoned cycle retires in the same step. -/
theorem State.settle_abandon {s : State} {k : Cycle} {b : Bank} (one : s.cyc.cycles = [k]) (bound : k.bank = b)
    (live : k.abandoned = false) (acc : k.state = .accumulating) (unmarked : k.calMark = false) (none_left : k.outstanding = 0)
    (none_queued : s.recon.queue = []) (jobs : s.jobsQuiet = true) (reoffer : s.cyc.reoffer = false)
    (empty : ∀ i, (s.sensor i).queue = []) (no_law : s.law.inProgress = none) :
    (s.abandon b false).settle .nothing = { s with cyc := { s.cyc with
      cycles := [], lastClosed := some k.fn, abandonedCount := counterInc s.cyc.abandonedCount } } := by
  generalize left_eq : s.abandon b false = left
  rw [State.abandon_accumulating one bound live acc unmarked none_queued] at left_eq
  have retired : left.settle .nothing = left.withCycles [] false :=
    State.settle_of_abandoned_passing (k := { k with abandoned := true, state := .draining, deadline := none })
      (by rw [← left_eq]) rfl rfl none_left (by rw [← left_eq]; exact no_law) (by rw [← left_eq]; exact reoffer)
      (by rw [← left_eq]; exact empty) (by rw [← left_eq]; exact jobs)
  rw [retired, ← left_eq]
  simp only [State.withCycles, ← reoffer]

/-! ## The failure of a job (03 R71, 04 R79) -/

/-- The cycle controller's record replaced. -/
def State.withCyc (s : State) (c : CycleController) : State := { s with cyc := c }

/-- The state in which an uncorrectable error has been counted, located and reported, and the job is gone. -/
def State.rowFailed (s : State) (f : Flight) (n : Fin 4) : State :=
  (((s.countUncorrectable).updSet n fun r =>
    { r with errCount := counterInc r.errCount, errLoc := some (f.job.sensor, f.nextRow) }).raise .memoryError).clearFlight

/-- The sensors, the law, the loop, the links, the calibration and the captures are as they were. -/
structure State.SameBlocks (s t : State) : Prop where
  intake : t.intake = s.intake
  law : t.law = s.law
  loop : t.loop = s.loop
  drive : t.drive = s.drive
  cal : t.cal = s.cal
  mon : t.mon = s.mon

theorem State.SameBlocks.trans {s t u : State} (first : s.SameBlocks t) (second : t.SameBlocks u) : s.SameBlocks u :=
  ⟨second.intake.trans first.intake, second.law.trans first.law, second.loop.trans first.loop, second.drive.trans first.drive,
    second.cal.trans first.cal, second.mon.trans first.mon⟩

theorem State.sameBlocks_rowRead (s : State) (dram : Dram) (corrected : Nat) : s.SameBlocks (s.rowRead dram corrected) :=
  ⟨rfl, rfl, rfl, rfl, rfl, rfl⟩

theorem State.sameBlocks_rowFailed (s : State) (f : Flight) (n : Fin 4) : s.SameBlocks (s.rowFailed f n) :=
  ⟨rfl, rfl, rfl, rfl, rfl, rfl⟩

theorem State.sameBlocks_withCyc (s : State) (c : CycleController) : s.SameBlocks (s.withCyc c) := ⟨rfl, rfl, rfl, rfl, rfl, rfl⟩

/-- What the failure counts and leaves in the memory and the reconstruction unit. -/
theorem State.rowFailed_records (s : State) (f : Flight) (n : Fin 4) :
    (s.rowFailed f n).mem.uncorrectableErrors = counterInc s.mem.uncorrectableErrors
      ∧ (s.rowFailed f n).recon = { s.recon with inFlight := none } ∧ (s.rowFailed f n).mem.arbiter = s.mem.arbiter
      ∧ (s.rowFailed f n).mem.dram = s.mem.dram ∧ (s.rowFailed f n).cyc = s.cyc := ⟨rfl, rfl, rfl, rfl, rfl⟩

theorem State.isPending_rowFailed (s : State) (f : Flight) (n : Fin 4) : (s.rowFailed f n).isPending .memoryError = true :=
  State.isPending_raise (s.countUncorrectable.updSet n fun r =>
    { r with errCount := counterInc r.errCount, errLoc := some (f.job.sensor, f.nextRow) }) .memoryError

theorem State.setRec_rowFailed (s : State) (f : Flight) (n m : Fin 4) : (s.rowFailed f n).setRec m = if m = n then
    { s.setRec n with errCount := counterInc (s.setRec n).errCount, errLoc := some (f.job.sensor, f.nextRow) } else s.setRec m := by
  by_cases same : m = n
  · subst same
    rw [if_pos rfl]
    exact State.setRec_updSet s.countUncorrectable m fun r =>
      { r with errCount := counterInc r.errCount, errLoc := some (f.job.sensor, f.nextRow) }
  · rw [if_neg same]
    exact State.setRec_updSet_ne s.countUncorrectable (n := n) (m := m) (fun r =>
      { r with errCount := counterInc r.errCount, errLoc := some (f.job.sensor, f.nextRow) }) same

theorem State.failJob_of_orphan {s : State} {f : Flight} (orphan : f.orphan = true) (n : Fin 4) : s.failJob f n = s.rowFailed f n :=
  if_pos orphan

theorem State.failJob_of_own {s : State} {f : Flight} (own : f.orphan = false) (n : Fin 4) :
    s.failJob f n = ((s.rowFailed f n).reportDone f).abandon f.job.bank false := if_neg (by simp [own])

/-- With nothing else outstanding the failed job's cycle is abandoned and retires in the same step. -/
theorem State.settle_failJob {s : State} {f : Flight} {n : Fin 4} {k : Cycle} {slopes : List Int}
    (kind : f.job.kind = .contribution slopes) (own : f.orphan = false)
    (one : s.cyc.cycles = [k]) (bound : k.bank = f.job.bank) (live : k.abandoned = false) (acc : k.state = .accumulating)
    (last : k.outstanding = 1) (unmarked : k.calMark = false) (none_queued : s.recon.queue = [])
    (none_waits : s.mem.arbiter.waiting = []) (reoffer : s.cyc.reoffer = false) (empty : ∀ i, (s.sensor i).queue = [])
    (no_law : s.law.inProgress = none) :
    (s.failJob f n).settle .nothing = (s.rowFailed f n).withCyc { s.cyc with
      cycles := [], lastClosed := some k.fn, abandonedCount := counterInc s.cyc.abandonedCount } := by
  have counts : (s.rowFailed f n).jobCounted f k = { s.cyc with cycles := [{ k with outstanding := 0 }] } := by
    simp only [State.jobCounted, kind, last]
    rfl
  generalize failed_eq : s.rowFailed f n = failed at counts
  have reported : failed.reportDone f = { failed with cyc := { s.cyc with cycles := [{ k with outstanding := 0 }] } } := by
    rw [State.reportDone_singleton (s := failed) (by rw [← failed_eq]; exact one) bound, counts]
  rw [State.failJob_of_own own, failed_eq, reported]
  exact State.settle_abandon (s := { failed with cyc := { s.cyc with cycles := [{ k with outstanding := 0 }] } })
    (k := { k with outstanding := 0 }) rfl bound live acc unmarked rfl (by rw [← failed_eq]; exact none_queued)
    (State.jobsQuiet_of_idle (by rw [← failed_eq]; rfl) (by rw [← failed_eq]; exact none_queued)
      (by rw [← failed_eq]; exact none_waits)) reoffer (by rw [← failed_eq]; exact empty) (by rw [← failed_eq]; exact no_law)

/-- Settles O30: the scan decides; a row read is added to the buffer, an uncorrectable one ends the job and its cycle. -/
theorem jobRows : Obligations.JobRows := by
  refine ⟨fun s us f n slopes granted runs kind set long => ?read, fun s us f n slopes granted runs kind set => ?failed⟩
  case read =>
    intro slot dram words clean
    have acts := exec_jobRowRead_of_scan granted runs kind set (dram.scan_of_correctable ((2 * f.nSub + 3) / 4) (slot / 4) clean)
    dsimp only at acts
    generalize read_eq : s.rowRead (s.mem.dram.upset (coefficientSlot n f.job.sensor f.nextRow) us)
      (singles (dram.classes (slot / 4) ((2 * f.nSub + 3) / 4))) = read at acts
    have granted_next := State.grant_of_contribution (f := { f with nextRow := f.nextRow + 1 })
      (t := read.takeRow f slopes (dram.readRun slot (2 * f.nSub))) (by rw [← read_eq]; rfl) rfl kind
    rw [if_neg (by simp), granted_next, ← read_eq] at acts
    have data : ∀ place, dram.read place = s.mem.dram.read place := fun place => congrArg (tableGet 0 · place) (upset_data ..)
    refine ⟨_, acts, rfl, ?_, fun i other => ?_, rfl, rfl, rfl, rfl, upset_data .., rfl, rfl, rfl, rfl, rfl, rfl, rfl, rfl, rfl, rfl,
      rfl, rfl⟩
    · simp only [← data]
      rw [← dot_readRun dram slot long]
      exact (vget_vput ..).trans (if_pos rfl)
    · exact (vget_vput ..).trans (if_neg other)
  case failed =>
    intro slot dram met none_queued none_waits reoffer empty no_law none_live own_cycle
    obtain ⟨w, inside, double⟩ := met
    have mem : some WordError.double ∈ dram.classes (slot / 4) ((2 * f.nSub + 3) / 4) :=
      List.mem_map.2 ⟨w, List.mem_range.2 inside, double⟩
    obtain ⟨ends, -⟩ := dram.scan_of_uncorrectable _ _ mem
    have acts := exec_jobRowRead_of_scan granted runs kind set (failed := true) (Prod.ext rfl ends)
    dsimp only at acts
    rw [if_pos rfl] at acts
    generalize read_eq : s.rowRead (s.mem.dram.upset (coefficientSlot n f.job.sensor f.nextRow) us)
      (dram.scan (slot / 4) ((2 * f.nSub + 3) / 4)).1 = read at acts
    have blocks : s.SameBlocks read := read_eq ▸ s.sameBlocks_rowRead _ _
    have arbiter : read.mem.arbiter = { current := none, waiting := [] } := by
      rw [← none_waits, ← read_eq]
      rfl
    have cyc : read.cyc = s.cyc := by rw [← read_eq]; rfl
    have recon : read.recon = s.recon := by rw [← read_eq]; rfl
    have dram_eq : read.mem.dram = dram := by rw [← read_eq]; rfl
    have errors : read.mem.uncorrectableErrors = s.mem.uncorrectableErrors := by rw [← read_eq]; rfl
    have sets_eq : ∀ m, read.setRec m = s.setRec m := by rw [← read_eq]; exact fun _ => rfl
    clear read_eq
    obtain ⟨counted, gone, free, kept, still⟩ := read.rowFailed_records f n
    have sets := read.setRec_rowFailed f n
    have pending := read.isPending_rowFailed f n
    have failed_blocks := blocks.trans (read.sameBlocks_rowFailed f n)
    have waits : read.mem.arbiter.waiting = [] := by rw [arbiter]
    have no_sensor_waits : ∀ i, (read.sensor i).queue = [] := fun i => by rw [State.sensor, blocks.intake]; exact empty i
    simp only [sets_eq] at sets
    rw [errors] at counted
    rw [recon] at gone
    rw [arbiter] at free
    rw [dram_eq] at kept
    rw [cyc] at still
    by_cases orphan : f.orphan = true
    · have quiet : (read.rowFailed f n).quiet = true := (State.quiet_iff _).2 ⟨by rw [still, reoffer], by
        simp [State.canPass, still, none_live orphan], State.jobsQuiet_of_idle (by rw [gone]) (by rw [gone]; exact none_queued) (by rw [free])⟩
      rw [State.failJob_of_orphan orphan, settle_of_quiet quiet] at acts
      obtain ⟨intake, law, loop, drive, cal, mon⟩ := failed_blocks
      exact ⟨read.rowFailed f n, acts, counted, (sets n).trans (if_pos rfl), fun m other => (sets m).trans (if_neg other), pending, gone,
        free, kept, intake, law, loop, drive, cal, mon, fun _ => still, fun k own => absurd orphan (by simp [own])⟩
    · have own : f.orphan = false := by simpa using orphan
      obtain ⟨k, one, bound, live, acc, last, unmarked⟩ := own_cycle own
      have settled := State.settle_failJob (s := read) (n := n) kind own (by rw [cyc, one]) bound live acc last unmarked
        (by rw [recon, none_queued]) waits (by rw [cyc, reoffer]) no_sensor_waits (by rw [blocks.law, no_law])
      rw [settled, cyc] at acts
      obtain ⟨intake, law, loop, drive, cal, mon⟩ := failed_blocks.trans (State.sameBlocks_withCyc _ { s.cyc with
        cycles := [], lastClosed := some k.fn, abandonedCount := counterInc s.cyc.abandonedCount })
      refine ⟨_, acts, counted, (sets n).trans (if_pos rfl), fun m other => (sets m).trans (if_neg other), pending, gone, free, kept,
        intake, law, loop, drive, cal, mon, fun is_orphan => absurd is_orphan orphan, fun k' _ one' => ?_⟩
      obtain rfl : k = k' := by simpa using one.symm.trans one'
      rfl

end Sys2Proof.Machine

/-! The residuals, the beginning of a law and the completion of the last job (04 section 4.5, 05 sections 5.1 to 5.5). -/

namespace Sys2Proof.Machine
-- One theorem at a time: each worker thread reserves memory of its own.
set_option Elab.async false

/-! ## The residual of a sum (04 R87) -/

theorem residualOf_some (k : Nat) (acc : Int) : residualOf (some k) acc = clampInt (-8388607) 8388607 (roundHalfUp acc k) := rfl

theorem residualOf_bounds (shift : Option Nat) (acc : Int) : -8388607 ≤ residualOf shift acc ∧ residualOf shift acc ≤ 8388607 := by
  cases shift with
  | none =>
    change (-8388607 : Int) ≤ 0 ∧ (0 : Int) ≤ 8388607
    decide
  | some k => exact clampInt_bounds (by decide) _

/-- Rounding half up, in terms of twice the value. -/
theorem roundHalfUp_spec {k : Nat} (positive : 1 ≤ k) (acc r : Int) :
    (r ≤ roundHalfUp acc k ↔ 2 * 2 ^ k * r ≤ 2 * acc + 2 ^ k) ∧ (roundHalfUp acc k < r ↔ 2 * acc + 2 ^ k < 2 * 2 ^ k * r) := by
  obtain ⟨j, rfl⟩ : ∃ j, k = j + 1 := ⟨k - 1, by omega⟩
  have half : (0 : Int) < 2 ^ j := by positivity
  have value : roundHalfUp acc (j + 1) = (acc + 2 ^ j) / (2 * 2 ^ j) := by
    rw [roundHalfUp, if_neg (by omega), Nat.add_sub_cancel, pow_succ, mul_comm]
  have double : (2 : Int) ^ (j + 1) = 2 * 2 ^ j := by rw [pow_succ, mul_comm]
  rw [value, double, Int.le_ediv_iff_mul_le (by omega), Int.ediv_lt_iff_lt_mul (by omega)]
  constructor
  · constructor <;> intro h <;> nlinarith
  · constructor <;> intro h <;> nlinarith

/-! ## The beginning of a law (05 R90, R91) -/

theorem length_le_vput (v : List Int) (i : Nat) (x : Int) : v.length ≤ (vput v i x).length := by
  induction v generalizing i with
  | nil => exact Nat.zero_le _
  | cons y v ih =>
    cases i with
    | zero => exact le_refl _
    | succ i => exact Nat.succ_le_succ (ih i)

theorem length_le_passPair (act : Nat → ActRecord) (limit : Int) (p : PassState) (e : Nat × Nat) :
    p.scratch.length ≤ (passPair act limit p e).scratch.length := by
  unfold passPair
  dsimp only
  split
  · exact le_refl _
  · split
    · exact (length_le_vput ..).trans (length_le_vput ..)
    · exact length_le_vput ..
    · exact length_le_vput ..
    · exact le_refl _

theorem length_le_neighbourPass (act : Nat → ActRecord) (dMax : Nat) (pairs : List (Nat × Nat)) (p : PassState) :
    p.scratch.length ≤ (neighbourPass act dMax pairs p).1.scratch.length := by
  unfold neighbourPass
  split
  · exact le_refl _
  · exact List.foldlRecOn pairs _ (motive := fun q => p.scratch.length ≤ q.scratch.length) (le_refl _)
      fun q longer e _ => longer.trans (length_le_passPair act _ q e)

/-- The scratch values that a NORMAL law forms are those of its pass. -/
theorem State.vget_scratch_beginLaw {s : State} {k : Cycle} (normal : lawModeOf s.loop.state = .normal) {i : Nat} (served : i < s.mem.nAct) :
    vget (s.beginLaw k).law.scratch i = vget (s.lawPass (s.residuals k)).1.scratch i := by
  have scratch : (s.beginLaw k).law.scratch = vwrite s.law.scratch 0 (s.lawPass (s.residuals k)).1.scratch := if_pos normal
  have long : s.mem.nAct ≤ (s.lawPass (s.residuals k)).1.scratch.length := by
    refine le_trans ?_ (length_le_neighbourPass ..)
    simp
  rw [scratch, vget_vwrite (Nat.zero_le _), if_pos ⟨Nat.zero_le _, by omega⟩, Nat.sub_zero]

theorem State.gainOf_eq (s : State) (i : Nat) :
    s.gainOf i = if s.loop.params.gainSource = .global then s.loop.params.gGlob else (s.act i).gain := by
  unfold State.gainOf
  cases s.loop.params.gainSource <;> rfl

theorem lawModeOf_eq (l : LoopState) : lawModeOf l = match l with | .closed => .normal | .held => .held | _ => .opened := by
  cases l <;> rfl

theorem divergenceFigure_eq (nAct : Nat) (act : Nat → ActRecord) (r : List Int) :
    divergenceFigure nAct act r = (((List.range nAct).filter fun i => decide ((act i).mode = .normal)).map fun i =>
      (vget r i).natAbs * (vget r i).natAbs).sum / ((List.range nAct).filter fun i => decide ((act i).mode = .normal)).length := by
  simp only [divergenceFigure, sq]


/-! ## The completion of the last job passes its cycle (02 R47, 04 R78, 05 R90) -/

/-- The state in which the last job has completed and its cycle has passed to LAW. -/
def State.jobPassed (s : State) (f : Flight) (k : Cycle) : State :=
  (s.jobDone f k).withCyc { s.jobCounted f k with cycles := [{ k with outstanding := 0, state := .law }] }

section
variable {s : State} {f : Flight} {k : Cycle}

theorem State.capturePeaks_eq (s : State) (k : Cycle) :
    s.capturePeaks k = { s with mon := (s.capturePeaks k).mon, link := (s.capturePeaks k).link } := by
  unfold State.capturePeaks
  split <;> rfl

/-- What is captured depends on the captures' own record, and what is raised on the notices. -/
theorem State.capturePeaks_congr {s t : State} {k l : Cycle} (mon : t.mon = s.mon) (link : t.link = s.link) (bank : l.bank = k.bank)
    (fn : l.fn = k.fn) :
    (t.capturePeaks l).mon = (s.capturePeaks k).mon ∧ (t.capturePeaks l).link = (s.capturePeaks k).link := by
  have buffer : t.buffer l.bank = s.buffer k.bank := by
    rw [bank]
    cases k.bank with
    | bankA => exact congrArg Monitor.bufA mon
    | bankB => exact congrArg Monitor.bufB mon
  unfold State.capturePeaks
  rw [buffer, mon, fn]
  split
  · exact ⟨rfl,
      congrArg (fun l : ControlLink => { l with notices := l.notices ||| (1#12 <<< noticeIndex .peakReady) }) link⟩
  · exact ⟨mon, link⟩

/-- The law that begins depends on the memory, the sums, the law unit and the loop alone. -/
theorem State.law_beginLaw_congr {s t : State} {k l : Cycle} (mem : t.mem = s.mem) (recon : t.recon = s.recon) (law : t.law = s.law)
    (loop : t.loop = s.loop) (bank : l.bank = k.bank) (fn : l.fn = k.fn) (set : l.set = k.set) :
    (t.beginLaw l).law = (s.beginLaw k).law := by
  have act : t.act = s.act := by
    funext i
    rw [State.act, State.act, law]
  simp only [State.beginLaw, act, State.residuals, State.lawPass, State.shiftOf, State.setRec, State.bankVector, State.gainOf, mem,
    recon, law, loop, bank, fn, set]

theorem exec_jobCompletion_law (runs : s.recon.inFlight = some f) (ready : f.ready = true) (free : s.mem.arbiter.current = none)
    (own : f.orphan = false) (one : s.cyc.cycles = [k]) (bound : k.bank = f.job.bank) (reoffer : s.cyc.reoffer = false)
    (draining : k.state = .draining) (last : k.outstanding = 1) (none_queued : s.recon.queue = [])
    (none_waits : s.mem.arbiter.waiting = []) (no_law : s.law.inProgress = none) (live : k.abandoned = false) :
    exec .jobCompletion s = .next (((s.jobPassed f k).beginLaw { k with outstanding := 0 }).capturePeaks { k with outstanding := 0 }) := by
  rw [exec_jobCompletion runs ready free, State.completeJob_of_bound one bound own]
  generalize done_eq : s.jobDone f k = done
  have cycles : done.cyc.cycles = [{ k with outstanding := 0 }] := by
    rw [← done_eq]
    simp only [State.jobDone, State.jobCounted, last]
  have none_begun : done.law.inProgress = none := by rw [← done_eq]; exact no_law
  have no_reoffer : done.cyc.reoffer = false := by rw [← done_eq]; exact reoffer
  have passes : done.canPass = true := by simp [State.canPass, cycles, draining, none_begun]
  have jobs : done.jobsQuiet = true := by
    rw [← done_eq]
    exact State.jobsQuiet_of_idle (s := s.jobDone f k) rfl ((s.queue_jobAdded f k).trans none_queued) none_waits
  have in_law : done.updCycle k.bank (fun k => { k with state := .law })
      = done.withCyc { done.cyc with cycles := [{ k with outstanding := 0, state := .law }] } :=
    State.updCycle_singleton cycles rfl _
  have passed : done.passToLaw = ((s.jobPassed f k).beginLaw { k with outstanding := 0 }).capturePeaks { k with outstanding := 0 } := by
    have steps : done.passToLaw = ((done.updCycle k.bank (fun k => { k with state := .law })).beginLaw { k with outstanding := 0 }
        ).capturePeaks { k with outstanding := 0 } := by
      unfold State.passToLaw
      simp only [cycles, live, Bool.false_eq_true, if_false]
    rw [steps, in_law, ← done_eq]
    rfl
  obtain ⟨n, enough⟩ := done.followBound_large
  have begun : done.passToLaw.law.inProgress.isNone = false := by
    rw [passed, State.capturePeaks_eq]
    rfl
  have still : done.passToLaw.canPass = false := by
    unfold State.canPass
    split
    · rfl
    · rw [begun, Bool.and_false]
  have same_cyc : done.passToLaw.cyc.reoffer = false := by
    rw [passed, State.cyc_capturePeaks]
    exact reoffer
  have followed : State.followUp done.followBound .nothing done = done.passToLaw := by
    rw [enough, State.followUp, no_reoffer, passes]
    exact followUp_of_still same_cyc still _
  have quiet : done.passToLaw.quiet = true := by
    refine (State.quiet_iff _).2 ⟨same_cyc, still, ?_⟩
    rw [← jobs, ← done_eq]
    rw [← done_eq] at passed
    rw [passed, State.capturePeaks_eq]
    rfl
  rw [State.settle_of_followUp followed quiet, passed]

/-- The last job of an abandoned cycle lets it retire at once. -/
theorem exec_jobCompletion_retires (runs : s.recon.inFlight = some f) (ready : f.ready = true) (free : s.mem.arbiter.current = none)
    (own : f.orphan = false) (one : s.cyc.cycles = [k]) (bound : k.bank = f.job.bank) (reoffer : s.cyc.reoffer = false)
    (draining : k.state = .draining) (last : k.outstanding = 1) (none_queued : s.recon.queue = [])
    (none_waits : s.mem.arbiter.waiting = []) (no_law : s.law.inProgress = none) (empty : ∀ i, (s.sensor i).queue = [])
    (abandoned : k.abandoned = true) :
    exec .jobCompletion s = .next ((s.jobDone f k).withCycles [] false) := by
  rw [exec_jobCompletion runs ready free, State.completeJob_of_bound one bound own]
  have jobs := State.jobsQuiet_of_idle (s := s.jobDone f k) rfl ((s.queue_jobAdded f k).trans none_queued) none_waits
  exact congrArg Host.Outcome.next (State.settle_of_abandoned_passing (s := s.jobDone f k) (k := { k with outstanding := k.outstanding - 1 })
    rfl abandoned draining (by simp [last]) no_law reoffer empty jobs)

theorem State.bankVector_jobDone (live : k.abandoned = false) (i : Nat) :
    vget ((s.jobDone f k).bankVector k.bank) i = vget (s.bankVector k.bank) i + if i < f.nAct then s.jobSum f k i else 0 := by
  have added : s.jobAdded f k = { (s.addJob f k).recon with inFlight := none } := by simp [State.jobAdded, live]
  have bank : (s.jobDone f k).bankVector k.bank = (s.addJob f k).bankVector k.bank := by
    change (s.withRecon (s.jobAdded f k)).bankVector k.bank = _
    rw [added]
    cases k.bank <;> rfl
  rw [bank, State.bankVector_addJob]

end

/-- Settles O34: the rounding by its bounds, the law by its definition, the passage by the follow-ups of the last completion. -/
theorem lawBegins : Obligations.LawBegins := by
  refine ⟨?residuals, fun s k => ?begins, fun s f k runs ready own free none_waits reoffer one bound draining last none_queued no_law
    empty => ?passes⟩
  case residuals =>
    refine ⟨fun _ => rfl, residualOf_bounds, fun acc low high => ?_, fun k acc positive => ?_⟩
    · rw [residualOf_some, clampInt_eq_max_min (by decide)]
      simp only [roundHalfUp, if_true]
      omega
    · intro r halved
      have value : r = max (-8388607) (min 8388607 (roundHalfUp acc k)) := by rw [← clampInt_eq_max_min (by decide)]; rfl
      have spec := roundHalfUp_spec positive acc
      refine ⟨fun low high => ?_, ?_, ?_⟩
      · have inside : r = roundHalfUp acc k := by omega
        exact ⟨(spec r).1.1 inside.le, (spec (r + 1)).2.1 (by omega)⟩
      · rw [← (spec 8388607).1]
        omega
      · rw [← (spec (-8388606)).2]
        omega
  case begins =>
    intro t used
    refine ⟨_, rfl, rfl, rfl, rfl, rfl, lawModeOf_eq _, rfl, rfl, rfl, rfl, by simp [State.residuals], fun i served => ?_,
      divergenceFigure_eq .., fun none_used => ?_, ?_, fun other => ?_, rfl, rfl⟩
    · exact (vget_map_range ..).trans (if_pos served)
    · rw [divergenceFigure_eq]
      simp [used, none_used]
    · intro steps pass
      have pass_eq : pass = s.lawPass (s.residuals k) := by
        simp only [State.lawPass, State.gainOf_eq]
        rfl
      have scratch : (s.beginLaw k).law.inProgress.map (fun run => run.mode) = some .normal → ∀ i, i < s.mem.nAct →
          vget t.law.scratch i = vget pass.1.scratch i := fun normal i served => by
        rw [pass_eq]
        exact State.vget_scratch_beginLaw (Option.some.inj normal) served
      refine ⟨fun normal => ⟨scratch (congrArg some normal), ?_, ?_, ?_⟩, fun normal no_limit => ?_⟩
      · rw [pass_eq]
        exact if_pos normal
      · rw [pass_eq]
        exact if_pos normal
      · rw [pass_eq]
        exact if_pos normal
      · have no_pass : pass = ({ scratch := steps.map Prod.fst, flags := steps.map Prod.snd, adjustments := 0 }, 0) := if_pos no_limit
        refine ⟨fun i served => ?_, ?_, ?_, ?_⟩
        · have inside : i < steps.length := by simpa [steps] using served
          rw [scratch (congrArg some normal) i served, no_pass, vget_eq_getElem (by simpa using inside), List.getElem?_eq_getElem inside]
          simp
        · exact (if_pos normal).trans (by rw [← pass_eq, no_pass])
        · exact (if_pos normal).trans (by rw [← pass_eq, no_pass])
        · exact (if_pos normal).trans (by rw [← pass_eq, no_pass])
    · exact ⟨if_neg other, if_neg other, if_neg other, if_neg other⟩
  case passes =>
    intro x sum
    by_cases abandoned : k.abandoned = true
    · have added : s.jobAdded f k = { s.recon with inFlight := none } := by simp [State.jobAdded, abandoned]
      refine ⟨_, exec_jobCompletion_retires runs ready free own one bound reoffer draining last none_queued none_waits no_law empty abandoned,
        rfl, fun live => absurd live (by simp [abandoned]), fun _ => ⟨rfl, rfl, ?_, ?_⟩⟩
      · exact (congrArg Reconstruction.bankA added :)
      · exact (congrArg Reconstruction.bankB added :)
    · have live : k.abandoned = false := by simpa using abandoned
      refine ⟨_, exec_jobCompletion_law runs ready free own one bound reoffer draining last none_queued none_waits no_law live, ?_,
        fun _ => ⟨?_, fun i => ?_, ?_, ?_⟩, fun is_abandoned => absurd is_abandoned abandoned⟩
      all_goals rw [State.capturePeaks_eq]
      · rfl
      · rfl
      · exact (State.bankVector_jobDone live i).trans rfl
      · exact State.law_beginLaw_congr rfl rfl rfl rfl rfl rfl rfl
      · exact ⟨_, rfl, rfl, rfl⟩

end Sys2Proof.Machine

/-! The peak capture (09 section 9.3). -/

namespace Sys2Proof.Machine
-- One theorem at a time: each worker thread reserves memory of its own.
set_option Elab.async false

/-! ## The candidates in their order -/

/-- The index of the slope that a record names. -/
def PeakRecord.slope (r : PeakRecord) : Nat := 2 * r.subaperture + (if r.axisY then 1 else 0)

/-- The order of sensor and slope index. -/
def PeakRecord.before (r q : PeakRecord) : Prop := r.sensor < q.sensor ∨ (r.sensor = q.sensor ∧ r.slope < q.slope)

/-- The order of magnitude, then sensor, then slope index (09 R171). -/
def PeakRecord.ahead (r q : PeakRecord) : Prop :=
  q.value.natAbs < r.value.natAbs ∨ (q.value.natAbs = r.value.natAbs ∧ r.before q)

/-- The record of a slope that is not 0 of a filled sensor. -/
def PeakRecord.candidateOf (buf : Vector (Option (List Int)) 6) (r : PeakRecord) : Prop :=
  r.value ≠ 0 ∧ ∃ l, buf[r.sensor] = some l ∧ r.slope < l.length ∧ vget l r.slope = r.value

@[simp] theorem slope_peakOf (i : Fin 6) (j : Nat) (e : Int) : (peakOf i j e).slope = j := by
  simp only [PeakRecord.slope, peakOf, decide_eq_true_eq]
  split <;> omega

theorem peakOf_slope (r : PeakRecord) : peakOf r.sensor r.slope r.value = r := by
  obtain ⟨sensor, sub, axis, value⟩ := r
  cases axis <;> simp [peakOf, PeakRecord.slope]
  omega

/-- The candidates of one sensor. -/
def sensorPeaks (buf : Vector (Option (List Int)) 6) (i : Fin 6) : List PeakRecord :=
  ((List.range ((buf[i]).getD []).length).map fun j => peakOf i j (vget ((buf[i]).getD []) j)).filter fun p => decide (p.value ≠ 0)

theorem peakCandidates_eq (buf : Vector (Option (List Int)) 6) : peakCandidates buf = (allSensors.map (sensorPeaks buf)).flatten := by
  refine congrArg List.flatten (List.map_congr_left fun i _ => ?_)
  unfold sensorPeaks
  cases buf[i] <;> rfl

theorem mem_sensorPeaks {buf : Vector (Option (List Int)) 6} {i : Fin 6} {r : PeakRecord} :
    r ∈ sensorPeaks buf i ↔ r.sensor = i ∧ r.candidateOf buf := by
  simp only [sensorPeaks, List.mem_filter, List.mem_map, List.mem_range, decide_eq_true_eq]
  constructor
  · rintro ⟨⟨j, inside, rfl⟩, nonzero⟩
    refine ⟨rfl, nonzero, ?_⟩
    change ∃ l, buf[i] = some l ∧ _
    cases filled : buf[i] with
    | none => simp [filled] at inside
    | some l => exact ⟨l, rfl, by simpa [filled] using inside, by rw [slope_peakOf]; rfl⟩
  · rintro ⟨rfl, nonzero, l, filled, inside, value⟩
    refine ⟨⟨r.slope, by simpa [filled] using inside, ?_⟩, nonzero⟩
    rw [filled, Option.getD_some, value, peakOf_slope]

theorem mem_peakCandidates {buf : Vector (Option (List Int)) 6} {r : PeakRecord} : r ∈ peakCandidates buf ↔ r.candidateOf buf := by
  simp only [peakCandidates_eq, List.mem_flatten, List.mem_map]
  constructor
  · rintro ⟨l, ⟨i, -, rfl⟩, mem⟩
    exact (mem_sensorPeaks.1 mem).2
  · exact fun candidate => ⟨_, ⟨r.sensor, mem_allSensors _, rfl⟩, mem_sensorPeaks.2 ⟨rfl, candidate⟩⟩

theorem pairwise_peakCandidates (buf : Vector (Option (List Int)) 6) : (peakCandidates buf).Pairwise PeakRecord.before := by
  rw [peakCandidates_eq, List.pairwise_flatten, List.pairwise_map]
  refine ⟨fun l mem => ?_, ?_⟩
  · obtain ⟨i, -, rfl⟩ := List.mem_map.1 mem
    refine List.Pairwise.filter _ (List.pairwise_map.2 (List.pairwise_lt_range.imp fun lt => .inr ⟨rfl, ?_⟩))
    simpa using lt
  · have rising : allSensors.Pairwise (· < ·) := by decide
    refine rising.imp fun lt r hr q hq => .inl ?_
    rw [(mem_sensorPeaks.1 hr).1, (mem_sensorPeaks.1 hq).1]
    exact lt

/-! ## The insertion -/

theorem mem_insertPeak {p r : PeakRecord} {l : List PeakRecord} : r ∈ insertPeak p l ↔ r = p ∨ r ∈ l := by
  induction l with
  | nil => simp [insertPeak]
  | cons q l ih =>
    unfold insertPeak
    split
    · simp
    · simp only [List.mem_cons, ih]
      tauto

theorem PeakRecord.ahead.le {r q : PeakRecord} (h : r.ahead q) : q.value.natAbs ≤ r.value.natAbs := h.elim Nat.le_of_lt fun h => h.1.le

/-- A record inserted behind every one at least as large keeps the order, when all of them come before it. -/
theorem pairwise_insertPeak {p : PeakRecord} {l : List PeakRecord} (sorted : l.Pairwise PeakRecord.ahead)
    (later : ∀ q ∈ l, q.before p) : (insertPeak p l).Pairwise PeakRecord.ahead := by
  induction l with
  | nil => simp [insertPeak]
  | cons q l ih =>
    obtain ⟨first, rest⟩ := List.pairwise_cons.1 sorted
    unfold insertPeak
    split
    · next larger =>
      refine List.pairwise_cons.2 ⟨fun r mem => .inl ?_, sorted⟩
      rcases List.mem_cons.1 mem with rfl | mem
      · exact larger
      · exact (first r mem).le.trans_lt larger
    · next smaller =>
      refine List.pairwise_cons.2 ⟨fun r mem => ?_, ih rest fun r mem => later r (List.mem_cons_of_mem _ mem)⟩
      rcases mem_insertPeak.1 mem with rfl | mem
      · have before := later q (List.mem_cons_self ..)
        rcases Nat.lt_or_eq_of_le (Nat.not_lt.1 smaller) with less | same
        · exact .inl less
        · exact .inr ⟨same, before⟩
      · exact first r mem

/-- Insertion one after another sorts the candidates and loses none. -/
theorem foldl_insertPeak (c acc : List PeakRecord) (sorted : acc.Pairwise PeakRecord.ahead) (rising : c.Pairwise PeakRecord.before)
    (later : ∀ q ∈ acc, ∀ p ∈ c, q.before p) :
    (c.foldl (fun l p => insertPeak p l) acc).Pairwise PeakRecord.ahead
      ∧ ∀ r, r ∈ c.foldl (fun l p => insertPeak p l) acc ↔ r ∈ acc ∨ r ∈ c := by
  induction c generalizing acc with
  | nil => exact ⟨sorted, by simp⟩
  | cons p c ih =>
    obtain ⟨first, rest⟩ := List.pairwise_cons.1 rising
    obtain ⟨done, mem⟩ := ih (insertPeak p acc) (pairwise_insertPeak sorted fun q hq => later q hq p (List.mem_cons_self ..)) rest
      fun q hq x hx => by
        rcases mem_insertPeak.1 hq with rfl | hq
        · exact first x hx
        · exact later q hq x (List.mem_cons_of_mem _ hx)
    refine ⟨done, fun r => ?_⟩
    rw [List.foldl_cons, mem, mem_insertPeak, List.mem_cons]
    tauto

/-- The list of a capture: the first five candidates in the order of magnitude, sensor and slope (09 R171). -/
theorem peakList_spec (buf : Vector (Option (List Int)) 6) :
    (peakList buf).length ≤ 5 ∧ (∀ r ∈ peakList buf, r.candidateOf buf) ∧ (peakList buf).Pairwise PeakRecord.ahead
      ∧ ∀ r : PeakRecord, r.candidateOf buf → r ∈ peakList buf ∨ ((peakList buf).length = 5 ∧ ∀ q ∈ peakList buf, q.ahead r) := by
  obtain ⟨sorted, mem⟩ := foldl_insertPeak (peakCandidates buf) [] .nil (pairwise_peakCandidates buf) (by simp)
  generalize all_eq : (peakCandidates buf).foldl (fun l p => insertPeak p l) [] = all at sorted mem
  have list : peakList buf = all.take 5 := by rw [← all_eq]; rfl
  simp only [List.not_mem_nil, false_or, mem_peakCandidates] at mem
  rw [list]
  refine ⟨List.length_take_le .., fun r hr => (mem r).1 (List.mem_of_mem_take hr), sorted.sublist (List.take_sublist ..),
    fun r candidate => ?_⟩
  rw [← List.take_append_drop 5 all] at sorted mem
  rcases List.mem_append.1 ((mem r).2 candidate) with taken | left
  · exact .inl taken
  · refine .inr ⟨?_, fun q hq => (List.pairwise_append.1 sorted).2.2 q hq r left⟩
    have more : 5 < all.length := by
      by_contra few
      rw [List.drop_eq_nil_of_le (by omega)] at left
      simp at left
    rw [List.length_take]
    omega

/-! ## The obligation -/

theorem State.capturePeaks_of_idle {s : State} {k : Cycle} (idle : s.mon.peakArmed = false ∨ ∀ i : Fin 6, (s.buffer k.bank)[i] = none) :
    s.capturePeaks k = s := by
  refine if_neg fun captures => ?_
  obtain ⟨armed, filled⟩ := (Bool.and_eq_true ..).mp captures
  obtain ⟨i, -, some_slopes⟩ := List.any_eq_true.1 filled
  rcases idle with disarmed | empty
  · simp [disarmed] at armed
  · simp [empty i] at some_slopes

theorem State.capturePeaks_of_armed {s : State} {k : Cycle} (armed : s.mon.peakArmed = true) (filled : ∃ i : Fin 6, (s.buffer k.bank)[i] ≠ none) :
    s.capturePeaks k = ({ s with mon := { s.mon with
      peakArmed := false, peakFn := some k.fn, peaks := peakList (s.buffer k.bank) } } : State).raise .peakReady := by
  obtain ⟨i, some_slopes⟩ := filled
  refine if_pos ((Bool.and_eq_true ..).mpr ⟨armed, List.any_eq_true.2 ⟨i, mem_allSensors i, ?_⟩⟩)
  rwa [Option.isSome_iff_ne_none]

/-- Settles O51: the messages; the armed capture as an aspect that every other command keeps; the list by sorted insertion. -/
theorem peakCaptureTakesLargestSlopes : Obligations.PeakCaptureTakesLargestSlopes := by
  intro s
  refine ⟨fun p heard payload => exec_of_ill_formed (c := .peakArm) rfl heard (by simpa [formOk] using payload), fun heard => ?_,
    fun c t h armed => ?_, fun heard => ?_, fun k => ?_, fun f k runs ready own free none_waits reoffer one bound draining last none_queued
      no_law empty => ?_⟩
  · change execPeakArm s = _
    rw [execPeakArm, runMessage_of_hears heard]
    rfl
  · by_cases reset : c = .powerOnReset
    · exact .inr (.inr (.inr reset))
    · by_cases clears : c = .devClear
      · exact .inr (.inr (.inl clears))
      · have kept : t.peaksWanted := (exec_keeps reset h).aspect .peaks (by simpa [setBy] using clears) (.inl armed)
        exact kept.imp_right .inl
  · change execPeakRead s = _
    rw [execPeakRead, runMessage_of_hears heard, optFn_eq, ← List.flatMap_def]
    rfl
  · intro buf u peaks slope candidate ahead
    refine ⟨State.capturePeaks_of_idle, fun armed filled => ?_⟩
    have captured : u = _ := State.capturePeaks_of_armed armed filled
    have list : peaks = peakList buf := by
      change u.mon.peaks = _
      rw [captured]
      rfl
    rw [list]
    exact ⟨captured, peakList_spec buf⟩
  · by_cases abandoned : k.abandoned = true
    · exact ⟨_, exec_jobCompletion_retires runs ready free own one bound reoffer draining last none_queued none_waits no_law empty abandoned,
        fun live => absurd live (by simp [abandoned]), fun _ => ⟨rfl, rfl⟩⟩
    · have live : k.abandoned = false := by simpa using abandoned
      refine ⟨_, exec_jobCompletion_law runs ready free own one bound reoffer draining last none_queued none_waits no_law live,
        fun _ => ⟨?_, State.capturePeaks_congr rfl rfl rfl rfl⟩, fun is_abandoned => absurd is_abandoned abandoned⟩
      rw [State.capturePeaks_eq]
      exact Option.some_ne_none _

end Sys2Proof.Machine

/-! DEV.CLEAR (10 section 10.5). -/

namespace Sys2Proof.Machine
-- One theorem at a time: each worker thread reserves memory of its own.
set_option Elab.async false

/-- The state before the rest commit of DEV.CLEAR: its first five steps (10 R192). -/
def State.clearing (s : State) : State := s.clearLoop.clearCycles.invalidateAll.clearRun.clearIntake

/-- The records that the first five steps set. -/
def State.cleared (s : State) (c : Calibration) (a : Arbiter) (n : NoticeBits) : State :=
  { s with
    intake := { s.intake with sensors := s.intake.sensors.map Sensor.cleared }
    cyc := { s.cyc with
      cycles := [], lastClosed := none, lastOpened := none, lastSet := none, selection := .auto, degraded := false
      pendingSubs := Vector.replicate 6 0 }
    mem := { s.mem with arbiter := a }
    recon := { s.recon with
      queue := [], bankA := zeroVector, bankB := zeroVector
      inFlight := s.recon.inFlight.map fun f => { f with orphan := true }
      saved := s.recon.saved.map fun x => { x with valid := false } }
    law := { s.law with inProgress := none, lastApplied := none }
    loop := { s.loop with state := .idle, command := false, diverge := false, runCount := 0, inband := false }
    cal := c
    mon := { s.mon with deadlineClose := false }
    link := { s.link with notices := n } }

theorem State.clearLoop_eq (s : State) : ∃ n, s.clearLoop = { s with
    loop := { s.loop with state := .idle, command := false, diverge := false, runCount := 0 }, link := { s.link with notices := n } } := by
  unfold State.clearLoop State.setLoop
  dsimp only
  split
  · next idle => exact ⟨s.link.notices, by rw [← idle]⟩
  · exact ⟨_, rfl⟩

/-- What is left of the calibration unit's record (08 R161, Table 8.5). -/
structure Calibration.Emptied (c d : Calibration) : Prop where
  running : d.running = false
  records : d.records = []
  tallies : d.tallies = []
  pokeList : d.pokeList = c.pokeList
  endReason : d.endReason = if c.running then some .cleared else c.endReason

theorem State.clearRun_eq (s : State) : ∃ a, s.clearRun = { s with mem := { s.mem with arbiter := a }, cal := s.clearRun.cal }
    ∧ s.cal.Emptied s.clearRun.cal := by
  unfold State.clearRun
  by_cases runs : s.cal.running = true
  · rw [if_pos runs]
    exact ⟨_, rfl, ⟨rfl, rfl, rfl, rfl, by rw [if_pos runs]; rfl⟩⟩
  · rw [if_neg runs]
    exact ⟨s.mem.arbiter, rfl, ⟨by simpa using runs, rfl, rfl, rfl, by rw [if_neg runs]⟩⟩

theorem State.clearing_eq (s : State) : ∃ c a n, s.clearing = s.cleared c a n ∧ s.cal.Emptied c := by
  obtain ⟨n, loop⟩ := s.clearLoop_eq
  let looped := s.clearLoop.clearCycles.invalidateAll
  obtain ⟨a, run, emptied⟩ := looped.clearRun_eq
  have cal : looped.cal = s.cal := by
    simp only [looped, loop]
    rfl
  refine ⟨looped.clearRun.cal, a, n, ?_, cal ▸ emptied⟩
  change looped.clearRun.clearIntake = _
  generalize looped.clearRun.cal = c at run
  rw [run]
  simp only [looped, loop]
  rfl

theorem State.sensor_cleared (s : State) (c : Calibration) (a : Arbiter) (n : NoticeBits) (i : Fin 6) :
    (s.cleared c a n).sensor i = (s.sensor i).cleared := by simp [State.sensor, State.cleared]

/-- The last steps: the captures emptied, the notices cleared and the DRAM granted. -/
theorem State.devClear_eq (s : State) : ∃ a, s.devClear = (s.clearing.restCommit.clearMonitor.clearNotices).setArbiter a :=
  State.grant_eq _

/-- Settles O58: the first five steps as one record, the rest commit, and the last steps. -/
theorem deviceClearLeavesRest : Obligations.DeviceClearLeavesRest := by
  intro s heard _
  have acts : exec .devClear s = .next (s.devClear.reply .done []) := by
    change execDevClear s = _
    rw [execDevClear, runMessage_of_hears heard]
    rfl
  obtain ⟨c, a, n, cleared, emptied⟩ := s.clearing_eq
  obtain ⟨b, ends⟩ := s.devClear_eq
  have commits : s.clearing.restCommit = (s.cleared c a n).integratorReset.clearPokes.commitVector := by
    rw [cleared]
    exact State.restCommit_of_not_measuring (s := s.cleared c a n) (Calibration.measuring_of_not_running emptied.running)
  rw [commits] at ends
  refine ⟨s.devClear, acts, ?_⟩
  rw [ends]
  generalize rest_eq : (s.cleared c a n).integratorReset.clearPokes = rest
  have mem : rest.mem = { s.mem with arbiter := a } := by rw [← rest_eq]; rfl
  have mon : rest.mon = { s.mon with deadlineClose := false } := by rw [← rest_eq]; rfl
  have link : rest.link = { s.link with notices := n } := by rw [← rest_eq]; rfl
  have law : rest.law = { (s.cleared c a n).integratorReset.law with idlePokes := [], calPoke := none } := by rw [← rest_eq]; rfl
  have cal : rest.cal = c := by rw [← rest_eq]; rfl
  have z : ∀ i, i < s.mem.nAct → vget rest.law.z i = 256 * (s.act i).rest := fun i served => by
    rw [← rest_eq]
    exact ((s.cleared c a n).vget_integratorReset i).trans (if_pos served)
  have drive : rest.drive = s.drive := by rw [← rest_eq]; rfl
  have nAct : rest.mem.nAct = s.mem.nAct := by rw [mem]
  have sensors : ∀ i, rest.sensor i = (s.sensor i).cleared := fun i => by
    rw [← rest_eq]
    exact s.sensor_cleared c a n i
  have codes : ((rest.commitVector.clearMonitor.clearNotices).setArbiter b).codeOf = rest.codeOf := State.codeOf_congr rfl rfl rfl rfl rfl
  refine ⟨by rw [← rest_eq]; rfl, by rw [← rest_eq]; rfl, by rw [← rest_eq]; rfl, sensors, (congrArg Calibration.running cal).trans emptied.running,
    (congrArg Calibration.records cal).trans emptied.records, (congrArg Calibration.tallies cal).trans emptied.tallies,
    (congrArg Calibration.pokeList cal).trans emptied.pokeList, (congrArg Calibration.endReason cal).trans emptied.endReason,
    fun i served => ?z, (congrArg LawUnit.inProgress law :), (congrArg LawUnit.lastApplied law :), (congrArg LawUnit.idlePokes law :),
    (congrArg LawUnit.calPoke law :), fun i => ?flags, (congrArg LawUnit.satCount law :), (congrArg LawUnit.adjustments law :),
    (congrArg LawUnit.violations law :), (congrArg LawUnit.actuators law :), (congrArg LawUnit.neighbours law :), (congrArg LawUnit.lastQ law :),
    (congrArg LawUnit.residual law :), (congrArg LawUnit.lawsApplied law :), (congrArg LawUnit.adjustTotal law :), (congrArg LawUnit.violationTotal law :),
    ?codes, fun d => ?links, ?mon, ?link, (congrArg Memory.dram mem :), (congrArg Memory.sets mem :), nAct⟩
  case z =>
    refine (z i served).trans ?_
    unfold ActRecord.rest
    split <;> simp
  case flags =>
    exact (congrArg (fun l : LawUnit => l.satFlags.getD i false) law).trans (getD_replicate_false ..)
  case codes =>
    rw [codes, ← nAct]
    rfl
  case links =>
    have reached := rest.driveLink_commitVector d
    rw [drive, nAct] at reached
    exact reached.trans (by rw [State.driveLink, drive]; rfl)
  case mon =>
    change { rest.mon with
      bufA := Vector.replicate 6 none, bufB := Vector.replicate 6 none, peakArmed := false, peakFn := none, peaks := []
      snapState := .empty, onsetSeen := false, snapContent := [] } = _
    rw [mon]
  case link =>
    change { rest.link with notices := 0 } = _
    rw [link]

end Sys2Proof.Machine

/-! The settlement of sensors in the existing cycles (02 sections 2.4 and 2.5, 01 section 1.6). -/

namespace Sys2Proof.Machine
-- One theorem at a time: each worker thread reserves memory of its own.
set_option Elab.async false

/-! ## Updates of one cycle and of one sensor -/

section
variable {s : State} {b : Bank} {k : Cycle} {i j : Fin 6}

theorem Cycle.isOpen_iff (k : Cycle) : k.isOpen = true ↔ k.abandoned = false ∧ k.state = .accumulating := by simp [Cycle.isOpen]

theorem Cycle.awaits_iff (k : Cycle) (i : Fin 6) :
    k.awaits i = true ↔ k.isOpen = true ∧ k.expected[i] = true ∧ k.settlement[i] = .unsettled := by
  simp [Cycle.awaits, and_assoc]

/-- The update of the cycle bound to a bank is seen there. -/
theorem State.cycleAt_updCycle (bound : s.cycleAt b = some k) {f : Cycle → Cycle} (bank : (f k).bank = k.bank) :
    (s.updCycle b f).cycleAt b = some (f k) := by
  have own : k.bank = b := (State.cycleAt_some bound).2
  have mapped : ∀ l : List Cycle, l.find? (fun c => decide (c.bank = b)) = some k →
      (l.map fun c => if c.bank = b then f c else c).find? (fun c => decide (c.bank = b)) = some (f k) := by
    intro l
    induction l with
    | nil => simp
    | cons c l ih =>
      intro found
      by_cases here : c.bank = b
      · have same : c = k := by simpa [here] using found
        subst same
        simp [own, bank]
      · rw [List.find?_cons_of_neg (by simpa using here)] at found
        rw [List.map_cons, if_neg here, List.find?_cons_of_neg (by simpa using here)]
        exact ih found
  exact mapped s.cyc.cycles bound

/-- A cycle with one sensor's settlement recorded (02 R40). -/
def Cycle.withSettlement (k : Cycle) (i : Fin 6) (st : Settlement) : Cycle := { k with settlement := k.settlement.set i st }

theorem State.cycleAt_setSettlement (bound : s.cycleAt b = some k) (st : Settlement) :
    (s.setSettlement b i st).cycleAt b = some (k.withSettlement i st) := State.cycleAt_updCycle bound rfl

theorem Cycle.awaits_withSettlement_ne (k : Cycle) (other : j ≠ i) (st : Settlement) : (k.withSettlement i st).awaits j = k.awaits j := by
  have apart : i.val ≠ j.val := fun h => other (Fin.ext h.symm)
  have same : (k.withSettlement i st).settlement[j] = k.settlement[j] := Vector.getElem_set_ne i.isLt j.isLt apart
  unfold Cycle.awaits
  rw [same]
  rfl

theorem State.updSensor_updSensor (s : State) (i : Fin 6) (f g : Sensor → Sensor) :
    (s.updSensor i f).updSensor i g = s.updSensor i fun x => g (f x) := by simp [State.updSensor]

/-- A cycle that awaits a sensor is not completely settled (02 R44). -/
theorem State.checkComplete_of_awaiting (bound : s.cycleAt b = some k) (awaited : ∃ j, k.awaits j = true) : s.checkComplete b = s := by
  obtain ⟨j, waits⟩ := awaited
  obtain ⟨-, expected, unsettled⟩ := (k.awaits_iff j).1 waits
  have left : k.allSettled = false := by
    rw [Cycle.allSettled, List.all_eq_false]
    exact ⟨j, mem_allSensors j, by simp [expected, unsettled]⟩
  unfold State.checkComplete
  rw [bound]
  simp only [left, Bool.and_false, Bool.false_eq_true, if_false]

theorem State.handSettlement_unmarked (bound : s.cycleAt b = some k) (unmarked : k.calMark = false) (slopes : Option (List Int)) :
    s.handSettlement b i slopes = s := by
  unfold State.handSettlement
  rw [bound]
  simp only [unmarked, Bool.false_eq_true, if_false]

/-! ## The record of a miss (02 R41) -/

theorem State.recordMiss_omitted (bound : s.cycleAt b = some k) {noSub : Bool} (no_sub : noSub = true ∨ s.substitutes k i = false)
    (excused : Bool) : s.recordMiss b i excused noSub = s.setSettlement b i (.omitted excused) := by
  have omits : (!noSub && s.substitutes k i) = false := by rcases no_sub with h | h <;> simp [h]
  unfold State.recordMiss
  rw [bound]
  simp only [omits, Bool.false_eq_true, if_false]

theorem State.recordMiss_substituted (bound : s.cycleAt b = some k) (may : s.substitutes k i = true) (excused : Bool) :
    s.recordMiss b i excused false
      = ((s.setSettlement b i (.substituted excused)).setPendingSub i (s.pendingSub i + 1)).enqueueJob
          { kind := .substitution, bank := b, sensor := i } := by
  unfold State.recordMiss
  rw [bound]
  simp only [may, Bool.not_false, Bool.and_self, if_true]

theorem State.substitutes_iff (s : State) (k : Cycle) (i : Fin 6) : s.substitutes k i = true ↔
    (s.sensor i).config.policy = .saved ∧ (s.savedOf i).valid = true ∧ k.set = some (s.savedOf i).setTag
      ∧ (s.savedOf i).useCount + s.pendingSub i < (s.sensor i).config.hMax := by
  simp [State.substitutes, and_assoc]

theorem State.substitutes_of_omit (never : (s.sensor i).config.policy = .omit) : s.substitutes k i = false := by
  rw [Bool.eq_false_iff]
  intro may
  have saved := ((s.substitutes_iff k i).1 may).1
  rw [never] at saved
  exact absurd saved (by decide)

/-! ## The settlement report (01 R16, R25) -/

/-- A miss counted (01 R16). -/
def Sensor.countMiss (x : Sensor) : Sensor := { x with counters := { x.counters with misses := counterInc x.counters.misses } }

/-- A miss that counts toward K_miss (01 R16). -/
def Sensor.missed (x : Sensor) : Sensor := { x.countMiss with missCount := countInc255 x.missCount }

theorem State.reportSettledMiss_inactive (inactive : (s.sensor i).mode ≠ .active) (excused : Bool) :
    s.reportSettledMiss i excused = s.updSensor i Sensor.countMiss := by
  have off : s.isActive i = false := by simpa [State.isActive] using inactive
  unfold State.reportSettledMiss
  rw [off]
  rfl

theorem State.reportSettledMiss_excused (active : (s.sensor i).mode = .active) : s.reportSettledMiss i true
    = s.updSensor i fun x => { x with counters := { x.counters with excusedMisses := counterInc x.counters.excusedMisses } } := by
  have on : s.isActive i = true := by simpa [State.isActive] using active
  unfold State.reportSettledMiss
  rw [on]
  rfl

theorem State.reportSettledMiss_below (active : (s.sensor i).mode = .active)
    (below : countInc255 (s.sensor i).missCount < (s.sensor i).config.kMiss) :
    s.reportSettledMiss i false = s.updSensor i Sensor.missed := by
  have on : s.isActive i = true := by simpa [State.isActive] using active
  unfold State.reportSettledMiss State.reportMiss
  rw [on]
  simp only [if_true, Bool.false_eq_true, if_false, if_neg (Nat.not_le.2 below)]
  exact s.updSensor_congr rfl

/-- At K_miss the sensor becomes LOST (01 R16, R25). -/
theorem State.reportSettledMiss_lost (active : (s.sensor i).mode = .active)
    (reached : (s.sensor i).config.kMiss ≤ countInc255 (s.sensor i).missCount) :
    s.reportSettledMiss i false = (s.updSensor i fun x => { x.countMiss with missCount := 0 }).becomeLost i := by
  have on : s.isActive i = true := by simpa [State.isActive] using active
  unfold State.reportSettledMiss State.reportMiss
  rw [on]
  simp only [if_true, Bool.false_eq_true, if_false, if_pos reached, State.updSensor_updSensor]
  rfl

/-! ## A sensor marked missed (02 R40, R41) -/

theorem Cycle.exists_awaits_withSettlement (others : ∃ j, j ≠ i ∧ k.awaits j = true) (st : Settlement) :
    ∃ j, (k.withSettlement i st).awaits j = true := by
  obtain ⟨j, other, waits⟩ := others
  exact ⟨j, by rw [Cycle.awaits_withSettlement_ne k other, waits]⟩

/-- An omitted miss of an ACTIVE sensor below K_miss, in a cycle that no run marks. -/
theorem State.markMissed_omitted (bound : s.cycleAt b = some k) (awaited : k.awaits i = true) (unmarked : k.calMark = false)
    (no_sub : s.substitutes k i = false) (active : (s.sensor i).mode = .active)
    (below : countInc255 (s.sensor i).missCount < (s.sensor i).config.kMiss) {check : Bool}
    (unchecked : check = false ∨ ∃ j, j ≠ i ∧ k.awaits j = true) :
    s.markMissed b i false check = (s.setSettlement b i (.omitted false)).updSensor i Sensor.missed := by
  let settled := (s.setSettlement b i (.omitted false)).updSensor i Sensor.missed
  have reported : (s.recordMiss b i false false).reportSettledMiss i false = settled := by
    rw [State.recordMiss_omitted bound (.inr no_sub)]
    exact State.reportSettledMiss_below (s := s.setSettlement b i (.omitted false)) active below
  have bound' : settled.cycleAt b = some (k.withSettlement i (.omitted false)) := State.cycleAt_setSettlement (s := s) bound _
  have handed : settled.handSettlement b i none = settled := State.handSettlement_unmarked bound' unmarked none
  unfold State.markMissed
  rw [bound]
  simp only [awaited, if_true, reported, handed]
  rcases unchecked with no_check | others
  · simp only [no_check, Bool.false_eq_true, if_false, settled]
  · rw [State.checkComplete_of_awaiting bound' (Cycle.exists_awaits_withSettlement others _), ite_self]

/-- A miss of a sensor that left ACTIVE, in a cycle that no run marks and that awaits others. -/
theorem State.missInactive_omitted (bound : s.cycleAt b = some k) (awaited : k.awaits i = true) (unmarked : k.calMark = false)
    {noSub : Bool} (no_sub : noSub = true ∨ s.substitutes k i = false) (others : ∃ j, j ≠ i ∧ k.awaits j = true) :
    s.missInactive i noSub b = (s.setSettlement b i (.omitted false)).updSensor i Sensor.countMiss := by
  let settled := (s.setSettlement b i (.omitted false)).updSensor i Sensor.countMiss
  have bound' : settled.cycleAt b = some (k.withSettlement i (.omitted false)) := State.cycleAt_setSettlement (s := s) bound _
  have handed : settled.handSettlement b i none = settled := State.handSettlement_unmarked bound' unmarked none
  have checked : settled.checkComplete b = settled :=
    State.checkComplete_of_awaiting bound' (Cycle.exists_awaits_withSettlement others _)
  unfold State.missInactive
  rw [bound]
  simp only [awaited, if_true, State.recordMiss_omitted bound no_sub]
  change (settled.handSettlement b i none).checkComplete b = settled
  rw [handed, checked]

theorem State.missInactive_not_awaited (none_awaits : ∀ k ∈ s.cyc.cycles, k.awaits i = false) (noSub : Bool) (b : Bank) :
    s.missInactive i noSub b = s := by
  unfold State.missInactive
  split
  · rfl
  · next bound => rw [if_neg (by simp [none_awaits _ (State.cycleAt_some bound).1])]

theorem State.settleLeft_of_not_awaited (none_awaits : ∀ k ∈ s.cyc.cycles, k.awaits i = false) (noSub : Bool) :
    s.settleLeft i noSub = s :=
  List.foldlRecOn (motive := fun t => t = s) _ _ rfl fun t same b _ => by
    rw [same]
    exact State.missInactive_not_awaited none_awaits noSub b

theorem State.settleLeft_singleton (one : s.cyc.cycles = [k]) (noSub : Bool) : s.settleLeft i noSub = s.missInactive i noSub k.bank := by
  rw [State.settleLeft, one]
  rfl

/-! ## The INBAND source (01 R21) -/

theorem State.inbandNow_congr {s t : State} (same : ∀ j, (t.sensor j).mode = (s.sensor j).mode ∧ (t.sensor j).flags = (s.sensor j).flags
    ∧ (t.sensor j).config = (s.sensor j).config) : t.inbandNow = s.inbandNow := by
  unfold State.inbandNow State.isActive Sensor.requestsHold
  simp only [(same _).1, (same _).2.1, (same _).2.2]

theorem State.reportInband_of_same (same : s.inbandNow = s.loop.inband) : s.reportInband = s := if_pos same

theorem State.updCycle_updCycle (s : State) (b : Bank) (f g : Cycle → Cycle) (bank : ∀ k, (f k).bank = k.bank := by exact fun _ => rfl) :
    (s.updCycle b f).updCycle b g = s.updCycle b fun k => g (f k) := by
  have each : ∀ k : Cycle, (if (if k.bank = b then f k else k).bank = b then g (if k.bank = b then f k else k)
      else if k.bank = b then f k else k) = if k.bank = b then g (f k) else k := fun k => by
    by_cases here : k.bank = b
    · simp [here, bank]
    · simp [here]
  simp [State.updCycle, Function.comp_def, each]

theorem State.enqueueJob_of_busy (busy : s.recon.inFlight ≠ none) (j : Job) : s.enqueueJob j
    = ({ s with recon := { s.recon with queue := s.recon.queue ++ [j] } } : State).updCycle j.bank
        fun k => { k with outstanding := k.outstanding + 1 } := by
  obtain ⟨f, runs⟩ := Option.ne_none_iff_exists'.1 busy
  unfold State.enqueueJob State.startJob
  simp only [State.updCycle_recon, runs]

theorem State.enqueueJob_of_idle (idle : s.recon.inFlight = none) (empty : s.recon.queue = []) (j : Job) :
    ∃ f : Flight, f.job = j ∧ f.orphan = false ∧ s.enqueueJob j
      = ({ s with recon := { s.recon with inFlight := some f, queue := [] } } : State).updCycle j.bank
        fun k => { k with outstanding := k.outstanding + 1 } := by
  let queued := ({ s with recon := { s.recon with queue := [j] } } : State).updCycle j.bank fun k => { k with outstanding := k.outstanding + 1 }
  refine ⟨queued.flightOf j, rfl, rfl, ?_⟩
  have asked : s.enqueueJob j = queued.startJob := by
    unfold State.enqueueJob
    rw [empty]
    rfl
  rw [asked, State.startJob]
  simp only [queued, State.updCycle_recon, idle]
  rfl

end

/-! ## What a change of the holds leaves to the sensors -/

theorem State.intake_applyDeferred (s : State) : s.applyDeferred.intake = s.intake := by
  unfold State.applyDeferred
  split
  · rfl
  · dsimp only
    unfold State.applyEdit
    split <;> split
    · exact (State.Aside.commit _).intake
    · exact (State.Aside.commit _).intake
    · rfl
    · rfl

theorem State.intake_abandon (s : State) (b : Bank) (entry : Bool) : (s.abandon b entry).intake = s.intake := by
  unfold State.abandon
  split
  · rfl
  · dsimp only
    split
    · rfl
    · split
      · split
        · rfl
        · split
          · exact (State.Aside.judgeTally _ _ _).intake
          · rfl
      · rfl
      · exact State.intake_applyDeferred _

theorem State.intake_holdsChanged (s : State) (before : HoldSet) : (s.holdsChanged before).intake = s.intake := by
  have set (t : State) (l : LoopState) : (t.setLoop l).intake = t.intake := by
    unfold State.setLoop
    split <;> rfl
  have marked (t : State) : t.markOnset.intake = t.intake := by
    rw [State.markOnset_eq]
  have discarded (t : State) : t.abandonLaw.intake = t.intake := by
    unfold State.abandonLaw
    split
    · rfl
    · exact State.intake_abandon _ _ _
  have onset : s.onset.intake = s.intake := by
    unfold State.onset
    dsimp only
    split
    · rw [discarded, marked, State.raise_intake, set]
    · rw [marked, State.raise_intake, set]
  unfold State.holdsChanged
  split
  · split
    · exact onset
    · rfl
  · split
    · exact set s .closed
    · split <;> rfl
  · rfl

theorem State.intake_reportInband (s : State) : s.reportInband.intake = s.intake := by
  unfold State.reportInband
  split
  · rfl
  · exact State.intake_holdsChanged _ _

end Sys2Proof.Machine

/-! Misses, the switching of sensors and the end of a cycle (01 section 1.6, 02 sections 2.4, 2.5 and 2.7). -/

namespace Sys2Proof.Machine
-- One theorem at a time: each worker thread reserves memory of its own.
set_option Elab.async false

/-! ## Miss handling and settlement reports (02 R41, 01 R16) -/

theorem countInc255_eq_min {c : Nat} (bounded : c ≤ 255) : countInc255 c = min 255 (c + 1) := by
  unfold countInc255
  split <;> omega

theorem State.cycles_updCycle {s : State} {k : Cycle} {b : Bank} (one : s.cyc.cycles = [k]) (bound : k.bank = b) (f : Cycle → Cycle) :
    (s.updCycle b f).cyc.cycles = [f k] := by rw [State.updCycle_singleton one bound]

theorem State.setSettlement_singleton {s : State} {k : Cycle} {b : Bank} (one : s.cyc.cycles = [k]) (bound : k.bank = b) (i : Fin 6)
    (st : Settlement) : s.setSettlement b i st = { s with cyc := { s.cyc with cycles := [k.withSettlement i st] } } :=
  State.updCycle_singleton one bound _

theorem State.setMode_of_ne {s : State} {i : Fin 6} {m : SensorMode} (other : (s.sensor i).mode ≠ m) :
    s.setMode i m = (s.updSensor i fun x => { x with mode := m }).raise .sensorState := if_neg other

theorem State.isActive_eq_true {s : State} {i : Fin 6} (active : (s.sensor i).mode = .active) : s.isActive i = true := by
  simpa [State.isActive] using active

/-- A LOST sensor's record, when no cycle awaits it (01 R16, R25). -/
theorem State.sensor_becomeLost {s : State} {i : Fin 6} (active : (s.sensor i).mode = .active)
    (none_awaits : ∀ k ∈ s.cyc.cycles, k.awaits i = false) : (s.becomeLost i).sensor i = { s.sensor i with
      mode := .lost, queue := []
      counters := { (s.sensor i).counters with
        lostFrames := counterAdd (s.sensor i).counters.lostFrames (s.sensor i).queue.length } } := by
  let lost := s.setMode i .lost
  have lost_eq : lost = (s.updSensor i fun x => { x with mode := .lost }).raise .sensorState :=
    State.setMode_of_ne (by rw [active]; decide)
  have left : lost.settleLeft i false = lost := State.settleLeft_of_not_awaited (by rw [lost_eq]; exact none_awaits) false
  have becomes : s.becomeLost i = (lost.loseQueue i).reportInband := by
    unfold State.becomeLost
    simp only [State.isActive_eq_true active, if_true]
    change ((lost.settleLeft i false).loseQueue i).reportInband = _
    rw [left]
  have lost_sensor : lost.sensor i = { s.sensor i with mode := .lost } := by
    rw [lost_eq]
    exact s.sensor_updSensor i fun x => { x with mode := .lost }
  rw [becomes, State.sensor, State.intake_reportInband]
  change (lost.loseQueue i).sensor i = _
  rw [State.loseQueue, State.sensor_updSensor, lost_sensor]

/-- Settles O22: the record of a miss by whether it substitutes, the report by the sensor's state and its miss count. -/
theorem missHandling : Obligations.MissHandling := by
  refine ⟨fun s k i excused one => ?miss, fun s i => ?report⟩
  case miss =>
    intro x may t job
    have bound := State.cycleAt_singleton one rfl
    let subbed := (s.setSettlement k.bank i (.substituted excused)).setPendingSub i (s.pendingSub i + 1)
    have subbed_eq : subbed = { s with cyc := { s.cyc with
        cycles := [k.withSettlement i (.substituted excused)], pendingSubs := s.cyc.pendingSubs.set i (s.pendingSub i + 1) } } := by
      simp only [subbed, State.setSettlement_singleton one rfl]
      rfl
    have pending : ∀ j : Fin 6, (s.cyc.pendingSubs.set i (s.pendingSub i + 1))[j] = if j = i then s.pendingSub i + 1 else s.pendingSub j := by
      intro j
      by_cases same : j = i
      · subst same
        simp
      · rw [if_neg same]
        exact Vector.getElem_set_ne i.isLt j.isLt fun h => same (Fin.ext h.symm)
    refine ⟨fun subs busy => ?_, fun subs idle empty => ?_, fun omits => ?_⟩
    · have t_eq : t = subbed.enqueueJob job := State.recordMiss_substituted bound ((s.substitutes_iff k i).2 subs) excused
      have cycles : subbed.cyc.cycles = [k.withSettlement i (.substituted excused)] := by rw [subbed_eq]
      rw [t_eq, State.enqueueJob_of_busy (s := subbed) busy job]
      refine ⟨State.cycles_updCycle (s := { subbed with recon := { subbed.recon with queue := subbed.recon.queue ++ [job] } }) cycles rfl _,
        rfl, ?_⟩
      rw [subbed_eq]
      exact pending
    · have t_eq : t = subbed.enqueueJob job := State.recordMiss_substituted bound ((s.substitutes_iff k i).2 subs) excused
      obtain ⟨f, named, own, asked⟩ := State.enqueueJob_of_idle (s := subbed) idle empty job
      rw [t_eq, asked, subbed_eq]
      exact ⟨rfl, ⟨f, rfl, named, own⟩, (pending i).trans (if_pos rfl)⟩
    · have no_sub : s.substitutes k i = false := by
        rw [Bool.eq_false_iff]
        exact fun subs => omits ((s.substitutes_iff k i).1 subs)
      exact (State.recordMiss_omitted bound (.inr no_sub) excused).trans (State.setSettlement_singleton one rfl i _)
  case report =>
    intro x y counted
    refine ⟨fun inactive => ⟨?_, ?_⟩, fun active => ?_, fun active below bounded => ?_, fun active reached bounded none_live => ?_⟩
    · exact (congrArg (State.sensor · i) (State.reportSettledMiss_inactive inactive true)).trans (s.sensor_updSensor i _)
    · exact (congrArg (State.sensor · i) (State.reportSettledMiss_inactive inactive false)).trans (s.sensor_updSensor i _)
    · exact (congrArg (State.sensor · i) (State.reportSettledMiss_excused active)).trans (s.sensor_updSensor i _)
    · have counts := countInc255_eq_min bounded
      rw [← counts] at below ⊢
      exact (congrArg (State.sensor · i) (State.reportSettledMiss_below active below)).trans (s.sensor_updSensor i _)
    · rw [← countInc255_eq_min bounded] at reached
      let missed := s.updSensor i fun x => { x.countMiss with missCount := 0 }
      have missed_sensor : missed.sensor i = { x.countMiss with missCount := 0 } := s.sensor_updSensor i _
      have lost := State.sensor_becomeLost (s := missed) (i := i) (by rw [missed_sensor]; exact active)
        (fun k mem => absurd (show k ∈ s.cyc.cycles from mem) (by simp [none_live]))
      have y_eq : y false = (missed.becomeLost i).sensor i := congrArg (State.sensor · i) (State.reportSettledMiss_lost active reached)
      rw [y_eq, lost, missed_sensor]
      rfl

/-! ## SNS.ENABLE and SNS.DISABLE (01 R18, R19, R25) -/

theorem State.canPass_of_open {s : State} {k : Cycle} {rest : List Cycle} (cycles : s.cyc.cycles = k :: rest)
    (not_draining : k.state ≠ .draining) : s.canPass = false := by
  simp [State.canPass, cycles, not_draining]

/-- A DISABLED sensor with an empty queue and no valid saved contribution (01 R18). -/
def State.switchedOff (s : State) (i : Fin 6) : State :=
  ((s.updSensor i fun x => { x with mode := .disabled, queue := [] }).raise .sensorState).updSaved i fun x => { x with valid := false }

theorem exec_snsDisable {s : State} {i : Fin 6} (heard : s.hears .snsDisable (u16s [i.val]) = true)
    (enabled : (s.sensor i).mode ≠ .disabled) :
    exec .snsDisable s = .next (((s.disableSensor i).settle .nothing).reply .done []) := by
  change execSnsDisable s = _
  rw [execSnsDisable, runMessage_of_hears heard, withSensor_eq]
  exact congrArg Host.Outcome.next (if_neg enabled)

theorem State.disableSensor_of_not_awaited {s : State} {i : Fin 6} (enabled : (s.sensor i).mode ≠ .disabled)
    (none_awaits : ∀ k ∈ s.cyc.cycles, k.awaits i = false) : s.disableSensor i = (s.switchedOff i).reportInband := by
  let off := s.setMode i .disabled
  have off_eq : off = (s.updSensor i fun x => { x with mode := .disabled }).raise .sensorState := State.setMode_of_ne enabled
  have left : off.settleLeft i true = off := State.settleLeft_of_not_awaited (by rw [off_eq]; exact none_awaits) true
  have disables : s.disableSensor i = ((off.updSensor i fun x => { x with queue := [] }).invalidate i).reportInband := by
    unfold State.disableSensor
    change ((((if s.isActive i then off.settleLeft i true else off).updSensor i fun x => { x with queue := [] }).invalidate i).reportInband) = _
    rw [left, ite_self]
  have merged : (off.updSensor i fun x => { x with queue := [] }).invalidate i = s.switchedOff i := by
    rw [off_eq]
    change (((s.updSensor i fun x => { x with mode := .disabled }).updSensor i fun x => { x with queue := [] }).raise .sensorState).invalidate i = _
    rw [State.updSensor_updSensor]
    rfl
  rw [disables, merged]

/-- The only cycle still awaits others: the sensor is settled there as missed (02 R42). -/
theorem State.disableSensor_of_awaited {s : State} {i : Fin 6} {k : Cycle} (active : (s.sensor i).mode = .active)
    (one : s.cyc.cycles = [k]) (awaited : k.awaits i = true) (unmarked : k.calMark = false) (others : ∃ j, j ≠ i ∧ k.awaits j = true) :
    s.disableSensor i = (((s.switchedOff i).updSensor i Sensor.countMiss).withCyc
      { s.cyc with cycles := [k.withSettlement i (.omitted false)] }).reportInband := by
  let off := s.setMode i .disabled
  have off_eq : off = (s.updSensor i fun x => { x with mode := .disabled }).raise .sensorState :=
    State.setMode_of_ne (by rw [active]; decide)
  have one' : off.cyc.cycles = [k] := by rw [off_eq]; exact one
  have left : off.settleLeft i true = (off.setSettlement k.bank i (.omitted false)).updSensor i Sensor.countMiss := by
    rw [State.settleLeft_singleton one',
      State.missInactive_omitted (State.cycleAt_singleton one' rfl) awaited unmarked (.inl rfl) others]
  have disables : s.disableSensor i = ((((off.setSettlement k.bank i (.omitted false)).updSensor i Sensor.countMiss).updSensor i
      fun x => { x with queue := [] }).invalidate i).reportInband := by
    unfold State.disableSensor
    simp only [State.isActive_eq_true active, if_true]
    change ((((off.settleLeft i true).updSensor i fun x => { x with queue := [] }).invalidate i).reportInband) = _
    rw [left]
  rw [disables, State.setSettlement_singleton one' rfl, off_eq]
  simp [State.switchedOff, State.withCyc, State.updSensor, State.invalidate, State.updSaved, State.raise, Sensor.countMiss]

/-- A step ends where it stands when no head waits to be offered, no cycle can pass and no job or transfer is to begin. -/
theorem State.settle_of_calm {s t : State} (reoffer : t.cyc.reoffer = false) (no_pass : t.canPass = false) (jobs : s.jobsQuiet = true)
    (flight : t.recon.inFlight = s.recon.inFlight) (queue : t.recon.queue = s.recon.queue) (arbiter : t.mem.arbiter = s.mem.arbiter) :
    t.settle .nothing = t := by
  refine settle_of_quiet ((State.quiet_iff t).2 ⟨reoffer, no_pass, ?_⟩)
  rw [← jobs]
  unfold State.jobsQuiet
  rw [flight, queue, arbiter]

theorem State.canPass_congr {s t : State} (cycles : t.cyc.cycles = s.cyc.cycles) (law : t.law.inProgress = s.law.inProgress) :
    t.canPass = s.canPass := by
  unfold State.canPass
  rw [cycles, law]

/-- A count does not move the INBAND source. -/
theorem State.inbandNow_countMiss (s : State) (i : Fin 6) (c : CycleController) :
    ((s.updSensor i Sensor.countMiss).withCyc c).inbandNow = s.inbandNow := by
  refine State.inbandNow_congr fun j => ?_
  change ((s.updSensor i Sensor.countMiss).sensor j).mode = _ ∧ ((s.updSensor i Sensor.countMiss).sensor j).flags = _
    ∧ ((s.updSensor i Sensor.countMiss).sensor j).config = _
  by_cases same : j = i
  · subst same
    rw [State.sensor_updSensor]
    exact ⟨rfl, rfl, rfl⟩
  · rw [State.sensor_updSensor_ne _ _ same]
    exact ⟨rfl, rfl, rfl⟩

/-- Settles O18: the refusals by the branches; a sensor that is switched off is settled first where a cycle awaits it. -/
theorem sensorSwitching : Obligations.SensorSwitching := by
  refine ⟨fun s i heard => ?enable, fun s i heard => ?disable⟩
  case enable =>
    have acts : exec .snsEnable s = .next (if (s.sensor i).mode ≠ .disabled then s.refuse .wrongState
        else if (s.sensor i).config.nSub = 0 then s.refuse .notReady else (s.enableSensor i).reply .done []) := by
      change execSnsEnable s = _
      rw [execSnsEnable, runMessage_of_hears heard, withSensor_eq]
    refine ⟨fun enabled => ?_, fun disabled no_geometry => ?_, fun disabled geometry => ?_⟩
    · rw [acts, if_pos enabled]
    · rw [acts, if_neg (not_not.2 disabled), if_pos no_geometry]
    · have starts : s.enableSensor i = (s.updSensor i fun x => { x with
          mode := .acquiring, acquire := 0, missCount := 0, staleRun := 0, copy := none,
          flags := { shutter := false, holdreq := false, fx := false } }).raise .sensorState := by
        unfold State.enableSensor
        rw [State.setMode_of_ne (by rw [State.sensor_updSensor, disabled]; decide), State.updSensor_updSensor]
        rfl
      rw [acts, if_neg (not_not.2 disabled), if_neg geometry, starts]
  case disable =>
    intro off
    have off_eq : off = s.switchedOff i := rfl
    refine ⟨fun disabled => ?_, fun enabled quiet inband none_awaits => ?_, fun k active one awaited unmarked others inband quiet => ?_⟩
    · change execSnsDisable s = _
      rw [execSnsDisable, runMessage_of_hears heard, withSensor_eq]
      exact congrArg Host.Outcome.next (if_pos disabled)
    · obtain ⟨reoffer, no_pass, jobs⟩ := (State.quiet_iff s).1 quiet
      have settled : (s.switchedOff i).settle .nothing = s.switchedOff i :=
        State.settle_of_calm (s := s) reoffer ((State.canPass_congr rfl rfl).trans no_pass) jobs rfl rfl rfl
      have same : (s.switchedOff i).inbandNow = (s.switchedOff i).loop.inband := inband
      rw [exec_snsDisable heard enabled, State.disableSensor_of_not_awaited enabled none_awaits,
        State.reportInband_of_same (s := s.switchedOff i) same, settled]
      rfl
    · obtain ⟨reoffer, no_pass, jobs⟩ := (State.quiet_iff s).1 quiet
      obtain ⟨live, -, -⟩ := (k.awaits_iff i).1 awaited
      have acc := ((k.isOpen_iff).1 live).2
      have same : (((s.switchedOff i).updSensor i Sensor.countMiss).withCyc
          { s.cyc with cycles := [k.withSettlement i (.omitted false)] }).inbandNow = s.loop.inband :=
        ((s.switchedOff i).inbandNow_countMiss i _).trans inband
      rw [exec_snsDisable heard (by rw [active]; decide), State.disableSensor_of_awaited active one awaited unmarked others,
        State.reportInband_of_same same]
      have settled := State.settle_of_calm (s := s) (t := ((s.switchedOff i).updSensor i Sensor.countMiss).withCyc
        { s.cyc with cycles := [k.withSettlement i (.omitted false)] }) reoffer
        (State.canPass_of_open (k := k.withSettlement i (.omitted false)) rfl (by change k.state ≠ _; rw [acc]; decide)) jobs rfl rfl rfl
      rw [settled]
      rfl

/-! ## The misses that close a cycle (02 R45, R46) -/

/-- Settlements with the sensors of a list that a cycle awaits missed (02 R45). -/
def Cycle.missedOf (k : Cycle) (l : List (Fin 6)) (v : Vector Settlement 6) : Vector Settlement 6 :=
  Vector.ofFn fun j => if j ∈ l ∧ k.awaits j = true then .omitted false else v[j]

/-- The sensors of a list that a cycle awaits, missed: their settlement, their miss count and their counters. -/
def State.allMissed (s : State) (b : Bank) (k : Cycle) (l : List (Fin 6)) : State :=
  { s.updCycle b (fun c => { c with settlement := k.missedOf l c.settlement }) with
    intake := { s.intake with
      sensors := Vector.ofFn fun j => if j ∈ l ∧ k.awaits j = true then (s.sensor j).missed else s.sensor j } }

section
variable {s : State} {b : Bank} {k : Cycle} {l : List (Fin 6)} {i : Fin 6}

theorem Cycle.missedOf_nil (k : Cycle) (v : Vector Settlement 6) : k.missedOf [] v = v := by simp [Cycle.missedOf]

theorem Cycle.missedOf_append (awaited : k.awaits i = true) (v : Vector Settlement 6) :
    (k.missedOf l v).set i (.omitted false) = k.missedOf (l ++ [i]) v := by
  ext j small
  rw [Vector.getElem_set]
  by_cases here : i.val = j
  · subst here
    simp [Cycle.missedOf, awaited]
  · have apart : (⟨j, small⟩ : Fin 6) ≠ i := fun h => here (congrArg Fin.val h).symm
    simp [Cycle.missedOf, here, apart]

theorem State.allMissed_nil : s.allMissed b k [] = s := by
  unfold State.allMissed State.updCycle
  simp [Cycle.missedOf_nil, State.sensor]

theorem State.sensor_allMissed (s : State) (b : Bank) (k : Cycle) (l : List (Fin 6)) (j : Fin 6) :
    (s.allMissed b k l).sensor j = if j ∈ l ∧ k.awaits j = true then (s.sensor j).missed else s.sensor j := by
  simp [State.allMissed, State.sensor]

theorem State.cycleAt_allMissed (bound : s.cycleAt b = some k) (l : List (Fin 6)) :
    (s.allMissed b k l).cycleAt b = some { k with settlement := k.missedOf l k.settlement } := State.cycleAt_updCycle bound rfl

theorem Cycle.awaits_missedOf (k : Cycle) (outside : i ∉ l) :
    ({ k with settlement := k.missedOf l k.settlement } : Cycle).awaits i = k.awaits i := by
  have same : (k.missedOf l k.settlement)[i] = k.settlement[i] := by simp [Cycle.missedOf, outside]
  unfold Cycle.awaits
  simp only [same]
  rfl

theorem State.allMissed_append (awaited : k.awaits i = true)
    (outside : i ∉ l) : ((s.allMissed b k l).setSettlement b i (.omitted false)).updSensor i Sensor.missed
      = s.allMissed b k (l ++ [i]) := by
  have sensors : (s.allMissed b k l).intake.sensors.set i ((s.allMissed b k l).sensor i).missed
      = (s.allMissed b k (l ++ [i])).intake.sensors := by
    rw [State.sensor_allMissed, if_neg (fun both => outside both.1)]
    ext j small
    rw [Vector.getElem_set]
    by_cases here : i.val = j
    · subst here
      simp [State.allMissed, awaited]
    · have apart : (⟨j, small⟩ : Fin 6) ≠ i := fun h => here (congrArg Fin.val h).symm
      simp [State.allMissed, here, apart]
  have cycles : ((s.allMissed b k l).setSettlement b i (.omitted false)).cyc = (s.allMissed b k (l ++ [i])).cyc := by
    change ((s.updCycle b fun c => { c with settlement := k.missedOf l c.settlement }).updCycle b
      fun c => { c with settlement := c.settlement.set i (.omitted false) }).cyc = _
    rw [State.updCycle_updCycle s b (fun c => { c with settlement := k.missedOf l c.settlement })
      fun c => { c with settlement := c.settlement.set i (.omitted false) }]
    simp only [Cycle.missedOf_append awaited]
    rfl
  change ({ (s.allMissed b k l) with
    intake := { s.intake with sensors := (s.allMissed b k l).intake.sensors.set i ((s.allMissed b k l).sensor i).missed }
    cyc := ((s.allMissed b k l).setSettlement b i (.omitted false)).cyc } : State) = _
  rw [sensors, cycles]
  rfl

end

/-- A sensor that the cycle does not await adds nothing to those missed. -/
theorem Cycle.mem_append_and_awaits {k : Cycle} {l : List (Fin 6)} {i : Fin 6} (done : ¬ k.awaits i = true) (j : Fin 6) :
    j ∈ l ++ [i] ∧ k.awaits j = true ↔ j ∈ l ∧ k.awaits j = true := by
  rw [List.mem_append, List.mem_singleton]
  constructor
  · rintro ⟨inside | rfl, waits⟩
    · exact ⟨inside, waits⟩
    · exact absurd waits done
  · exact fun ⟨inside, waits⟩ => ⟨.inl inside, waits⟩

theorem State.foldl_markMissed {s : State} {b : Bank} {k : Cycle} (bound : s.cycleAt b = some k) (unmarked : k.calMark = false)
    (below : ∀ i, k.awaits i = true → (s.sensor i).mode = .active ∧ countInc255 (s.sensor i).missCount < (s.sensor i).config.kMiss
      ∧ (s.sensor i).config.policy = .omit) (l : List (Fin 6)) (distinct : l.Nodup) :
    l.foldl (fun t i => t.markMissed b i false false) s = s.allMissed b k l := by
  induction l using List.reverseRecOn with
  | nil => exact State.allMissed_nil.symm
  | append_singleton l i ih =>
    obtain ⟨before, -, apart⟩ := List.nodup_append.1 distinct
    have outside : i ∉ l := fun mem => apart i mem i (List.mem_singleton_self i) rfl
    have bound' := State.cycleAt_allMissed bound l
    have awaits := k.awaits_missedOf outside
    rw [List.foldl_append, ih before]
    change (s.allMissed b k l).markMissed b i false false = _
    by_cases awaited : k.awaits i = true
    · obtain ⟨active, below, never⟩ := below i awaited
      have same : (s.allMissed b k l).sensor i = s.sensor i := by rw [State.sensor_allMissed, if_neg fun both => outside both.1]
      rw [← same] at active below never
      rw [State.markMissed_omitted bound' (awaits.trans awaited) unmarked (State.substitutes_of_omit never) active below (.inl rfl)]
      exact State.allMissed_append awaited outside
    · have left : (s.allMissed b k l).markMissed b i false false = s.allMissed b k l := by
        unfold State.markMissed
        rw [bound']
        exact if_neg (by rw [awaits]; exact awaited)
      rw [left]
      unfold State.allMissed Cycle.missedOf
      simp only [Cycle.mem_append_and_awaits awaited]

/-- A live cycle that no run marks, closed (02 R43). -/
def State.closed (s : State) (b : Bank) (k : Cycle) (reason : CloseReason) : State :=
  ({ s with
      cyc := countClose { s.cyc with lastClosed := some k.fn } reason
      mon := { s.mon with deadlineClose := decide (reason = .deadline) } } : State).updCycle b
    fun c => { c with state := .draining, deadline := none, closeReason := some reason }

theorem State.close_unmarked {s : State} {b : Bank} {k : Cycle} (bound : s.cycleAt b = some k) (unmarked : k.calMark = false)
    (reason : CloseReason) : s.close b reason = s.closed b k reason := by
  unfold State.close
  rw [bound]
  simp only [unmarked, Bool.false_eq_true, if_false]
  rfl

/-- The misses that a deadline or an overrun makes, and the close (02 R45, R46). -/
theorem State.closeWithMisses_of_omit {s : State} {b : Bank} {k : Cycle} (bound : s.cycleAt b = some k) (unmarked : k.calMark = false)
    (below : ∀ i, k.awaits i = true → (s.sensor i).mode = .active ∧ countInc255 (s.sensor i).missCount < (s.sensor i).config.kMiss
      ∧ (s.sensor i).config.policy = .omit) (reason : CloseReason) :
    s.closeWithMisses b reason = (s.allMissed b k allSensors).closed b k reason := by
  unfold State.closeWithMisses
  rw [State.foldl_markMissed bound unmarked below allSensors (by decide)]
  exact State.close_unmarked (State.cycleAt_allMissed bound allSensors) unmarked reason

theorem Cycle.missedOf_allSensors (k : Cycle) (v : Vector Settlement 6) :
    k.missedOf allSensors v = Vector.ofFn fun i => if k.awaits i then .omitted false else v[i] := by
  simp [Cycle.missedOf, mem_allSensors]

/-! ## Abandonment (02 R49) -/

theorem State.recon_applyDeferred (s : State) : s.applyDeferred.recon = s.recon := by
  unfold State.applyDeferred
  split
  · rfl
  · dsimp only
    unfold State.applyEdit
    split <;> split
    · exact (State.Aside.commit _).recon
    · exact (State.Aside.commit _).recon
    · rfl
    · rfl

/-- An abandoned cycle that was ACCUMULATING, DRAINING or in LAW; what its state adds follows. -/
def State.abandonedFirst (s : State) (b : Bank) : State :=
  (({ s with cyc := { s.cyc with abandonedCount := counterInc s.cyc.abandonedCount } } : State).updCycle b
    fun k => { k with abandoned := true }).removeJobs b

section
variable {s : State} {b : Bank} {k : Cycle} {entry : Bool}

theorem State.cycles_abandonedFirst (one : s.cyc.cycles = [k]) (bound : k.bank = b) : (s.abandonedFirst b).cyc.cycles
    = [{ k with abandoned := true, outstanding := k.outstanding - (s.recon.queue.filter fun j => decide (j.bank = b)).length }] := by
  let counted := ({ s with cyc := { s.cyc with abandonedCount := counterInc s.cyc.abandonedCount } } : State).updCycle b
    fun k => { k with abandoned := true }
  have counted_eq : counted.cyc.cycles = [{ k with abandoned := true }] :=
    State.cycles_updCycle (s := { s with cyc := { s.cyc with abandonedCount := counterInc s.cyc.abandonedCount } }) one bound _
  have queued : counted.recon.queue = s.recon.queue := rfl
  change (counted.removeJobs b).cyc.cycles = _
  unfold State.removeJobs
  refine (State.cycles_updCycle (k := { k with abandoned := true }) counted_eq bound _).trans ?_
  rw [queued]

theorem State.abandon_twice (bound : s.cycleAt b = some k) (gone : k.abandoned = true) : s.abandon b entry = s := by
  unfold State.abandon
  rw [bound]
  exact if_pos gone

theorem State.abandon_draining (bound : s.cycleAt b = some k) (live : k.abandoned = false) (draining : k.state = .draining) :
    s.abandon b entry = s.abandonedFirst b := by
  unfold State.abandon
  simp only [bound, live, draining, Bool.false_eq_true, if_false]
  rfl

/-- The close that an abandoned ACCUMULATING cycle gets: no reason and no report of it. -/
def State.abandonedOpen (s : State) (b : Bank) (k : Cycle) : State :=
  ({ s.abandonedFirst b with cyc := { (s.abandonedFirst b).cyc with lastClosed := some k.fn } } : State).updCycle b
    fun k => { k with state := .draining, deadline := none }

theorem State.abandon_open (bound : s.cycleAt b = some k) (live : k.abandoned = false) (acc : k.state = .accumulating)
    (no_void : k.calMark = false ∨ entry = true) :
    s.abandon b entry = s.abandonedOpen b k ∨ s.abandon b entry = (s.abandonedOpen b k).dropTally b := by
  unfold State.abandon
  simp only [bound, live, acc, Bool.false_eq_true, if_false]
  rcases no_void with unmarked | entered
  · simp only [unmarked, Bool.false_eq_true, if_false]
    cases entry
    · exact .inl rfl
    · exact .inr rfl
  · simp only [entered, if_true]
    exact .inr rfl

theorem State.abandon_in_law (bound : s.cycleAt b = some k) (live : k.abandoned = false) (in_law : k.state = .law) :
    s.abandon b entry = (s.abandonedFirst b).discardLaw b := by
  unfold State.abandon
  simp only [bound, live, in_law, Bool.false_eq_true, if_false]
  rfl

end

theorem length_filter_bank (queue : List Job) (b : Bank) : (queue.filter fun j => decide (j.bank = b)).length
    = queue.length - (queue.filter fun j => decide (j.bank ≠ b)).length := by
  have both := List.length_eq_length_filter_add (l := queue) fun j => decide (j.bank = b)
  have other : (queue.filter fun j => !decide (j.bank = b)) = queue.filter fun j => decide (j.bank ≠ b) := by simp
  rw [other] at both
  omega

/-- Settles O21: the misses sensor by sensor and then the close; an abandoned cycle by its state. -/
theorem cyclesEnd : Obligations.CyclesEnd := by
  refine ⟨fun s k one live acc timed unmarked jobs_left quiet below => ?deadline, fun s k entry one no_void => ?abandoned⟩
  case deadline =>
    obtain ⟨reoffer, -, jobs⟩ := (State.quiet_iff s).1 quiet
    have bound := State.cycleAt_singleton one rfl
    have counts (i : Fin 6) (awaited : k.awaits i = true) : countInc255 (s.sensor i).missCount = (s.sensor i).missCount + 1 :=
      if_pos (below i awaited).2.2.1
    let missed := s.allMissed k.bank k allSensors
    let t := missed.closed k.bank k .deadline
    have closes : s.closeWithMisses k.bank .deadline = t := State.closeWithMisses_of_omit bound unmarked (fun i awaited => by
      obtain ⟨active, few, -, never⟩ := below i awaited
      exact ⟨active, (counts i awaited).symm ▸ few, never⟩) .deadline
    have t_cycles : t.cyc.cycles = [{ k with
        state := .draining, deadline := none, closeReason := some .deadline
        settlement := Vector.ofFn fun i => if k.awaits i then .omitted false else k.settlement[i] }] := by
      have missed_cycles : missed.cyc.cycles = [{ k with settlement := k.missedOf allSensors k.settlement }] :=
        State.cycles_updCycle one rfl _
      rw [← k.missedOf_allSensors]
      exact State.cycles_updCycle (k := { k with settlement := k.missedOf allSensors k.settlement }) missed_cycles rfl _
    have settled : t.settle .nothing = t := State.settle_of_calm (s := s) reoffer
      (by simp [State.canPass, t_cycles, Nat.ne_of_gt jobs_left]) jobs rfl rfl rfl
    have runs : exec (.deadlineExpiry k.bank) s = .next t := by
      change execDeadlineExpiry k.bank s = _
      have runs : (k.isOpen && k.deadline.isSome) = true := by
        simp [Cycle.isOpen, live, acc, Option.isSome_iff_ne_none.2 timed]
      unfold execDeadlineExpiry
      simp only [bound, runs, if_true, closes, settled]
    refine ⟨t, runs, ?_, fun i => ?_, rfl, rfl, rfl, rfl, rfl, rfl, rfl, rfl⟩
    · rw [← t_cycles]
      rfl
    · have sensor : t.sensor i = missed.sensor i := rfl
      rw [sensor, State.sensor_allMissed]
      by_cases awaited : k.awaits i = true
      · rw [if_pos ⟨mem_allSensors i, awaited⟩, if_pos awaited, ← counts i awaited]
        rfl
      · rw [if_neg (fun both => awaited both.2), if_neg awaited]
  case abandoned =>
    have bound := State.cycleAt_singleton one rfl
    have first := State.cycles_abandonedFirst one rfl
    intro t kept gone
    have gone_eq : (s.recon.queue.filter fun j => decide (j.bank = k.bank)).length = gone := length_filter_bank _ _
    rw [gone_eq] at first
    refine ⟨fun twice => State.abandon_twice bound twice, fun live => ?counted, fun live draining => ?draining, fun live acc => ?acc,
      fun live in_law none_deferred => ?law⟩
    case counted =>
      cases st : k.state with
      | accumulating =>
        rcases State.abandon_open (entry := entry) bound live st no_void with t_eq | t_eq
        · exact ⟨congrArg (·.cyc.abandonedCount) t_eq, congrArg (·.recon.queue) t_eq⟩
        · exact ⟨congrArg (·.cyc.abandonedCount) t_eq, congrArg (·.recon.queue) t_eq⟩
      | draining =>
        have t_eq : t = s.abandonedFirst k.bank := State.abandon_draining bound live st
        rw [t_eq]
        exact ⟨rfl, rfl⟩
      | law =>
        have t_eq : t = (s.abandonedFirst k.bank).discardLaw k.bank := State.abandon_in_law bound live st
        let ended : State := { s.abandonedFirst k.bank with law := { (s.abandonedFirst k.bank).law with inProgress := none } }
        rw [t_eq]
        exact ⟨congrArg (·.abandonedCount) ended.cyc_applyDeferred, congrArg (·.queue) ended.recon_applyDeferred⟩
    case draining =>
      have t_eq : t = s.abandonedFirst k.bank := State.abandon_draining bound live draining
      rw [t_eq]
      exact ⟨first, rfl⟩
    case acc =>
      have cycles := State.cycles_updCycle (s := { s.abandonedFirst k.bank with cyc := { (s.abandonedFirst k.bank).cyc with lastClosed := some k.fn } })
        first (b := k.bank) rfl (fun k => { k with state := .draining, deadline := none })
      rcases State.abandon_open (entry := entry) bound live acc no_void with t_eq | t_eq
      · exact ⟨(congrArg (·.cyc.cycles) t_eq).trans cycles, congrArg (·.cyc.lastClosed) t_eq⟩
      · exact ⟨(congrArg (·.cyc.cycles) t_eq).trans cycles, congrArg (·.cyc.lastClosed) t_eq⟩
    case law =>
      have t_eq : t = (s.abandonedFirst k.bank).discardLaw k.bank := State.abandon_in_law bound live in_law
      have no_edit : ({ s.abandonedFirst k.bank with law := { (s.abandonedFirst k.bank).law with inProgress := none } } : State).applyDeferred
          = { s.abandonedFirst k.bank with law := { (s.abandonedFirst k.bank).law with inProgress := none } } :=
        State.applyDeferred_of_none none_deferred
      unfold State.discardLaw at t_eq
      rw [no_edit] at t_eq
      rw [t_eq]
      refine ⟨?_, rfl⟩
      change ((s.abandonedFirst k.bank).cyc.cycles.filter fun c => decide (c.bank ≠ k.bank)) = []
      rw [first]
      simp

end Sys2Proof.Machine

/-! The arrival of a sensor frame (01): the checks, the flag record, the stale test and the frames that no cycle takes. -/

namespace Sys2Proof.Machine
-- One theorem at a time: each worker thread reserves memory of its own.
set_option Elab.async false

/-! ## Updates of one sensor -/

section
variable {s : State} {i : Fin 6}

theorem Sensor.restartRun_eq (x : Sensor) : x.restartRun = { x with acquire := if x.mode = .acquiring then 0 else x.acquire } := by
  unfold Sensor.restartRun
  split
  · rfl
  · rfl

/-- A bad frame counted, an acquisition run restarted (01 R1, R15). -/
theorem State.restartRun_updCounters (s : State) (i : Fin 6) (c : SensorCounters → SensorCounters) :
    (s.updSensor i Sensor.restartRun).updCounters i c = s.updSensor i fun x => { x with
      acquire := if (s.sensor i).mode = .acquiring then 0 else (s.sensor i).acquire, counters := c x.counters } := by
  unfold State.updCounters
  rw [State.updSensor_updSensor]
  exact s.updSensor_congr (by rw [Sensor.restartRun_eq])

/-! ## The flag record (01 R20, R21) -/

theorem State.recordFlags_of_same {fl : Flags} (same : (s.sensor i).flags = fl) : s.recordFlags i fl = s := if_pos same

/-- The INBAND source takes its value; outside CLOSED and HELD nothing follows (06 R125). -/
def State.inbandTaken (s : State) : State := s.withLoop { s.loop with inband := s.inbandNow }

theorem State.reportInband_outside (not_closed : s.loop.state ≠ .closed) (not_held : s.loop.state ≠ .held) :
    s.reportInband = s.inbandTaken := by
  unfold State.reportInband
  split
  next same =>
    rw [State.inbandTaken, same]
    rfl
  next =>
    exact State.holdsChanged_of_outside (s := ({ s with loop := { s.loop with inband := s.inbandNow } } : State)) not_closed not_held _

theorem State.recordFlags_outside {fl : Flags} (changed : (s.sensor i).flags ≠ fl) (not_closed : s.loop.state ≠ .closed)
    (not_held : s.loop.state ≠ .held) : s.recordFlags i fl
      = ((s.updSensor i fun x => { x with flags := fl }).raise .inbandChange).inbandTaken := by
  unfold State.recordFlags
  rw [if_neg changed]
  exact State.reportInband_outside (s := (s.updSensor i fun x => { x with flags := fl }).raise .inbandChange) not_closed not_held

end

/-! ## Frames that fail a check (01 R1 to R4) -/

section
variable {s : State} {i : Fin 6} {b : List Byte}

theorem frameSyntaxError_iff (i : Fin 6) (nSub : Nat) (b : List Byte) : frameSyntaxError i nSub b = true ↔
    byteAt b 0 ≠ i.val ∨ ((b.getD 1 0).getLsbD 0 = true ∧ rd16 b 4 ≠ 0)
      ∨ ((b.getD 1 0).getLsbD 0 = false ∧ rd16 b 4 ≠ 2 * nSub) ∨ b.length ≠ 10 + 2 * rd16 b 4 := by
  simp only [frameSyntaxError, Bool.or_eq_true, decide_eq_true_eq, Bool.and_eq_true, Bool.not_eq_true', or_assoc]
  rfl

theorem frameContentError_iff (b : List Byte) : frameContentError b = true ↔
    BitVec.ofNat 32 (rd32 b (6 + 2 * rd16 b 4)) ≠ crc32 (b.take (6 + 2 * rd16 b 4)) := by
  simp only [frameContentError, decide_eq_true_eq]
  rfl

theorem exec_sensorFrameArrival_of_disabled (disabled : (s.sensor i).mode = .disabled) :
    exec (.sensorFrameArrival i b) s = .next (s.updCounters i fun c => { c with ignored := counterInc c.ignored }) := by
  change execSensorFrameArrival i b s = _
  exact if_pos disabled

theorem exec_sensorFrameArrival_of_syntax (enabled : (s.sensor i).mode ≠ .disabled)
    (bad : frameSyntaxError i (s.sensor i).config.nSub b = true) : exec (.sensorFrameArrival i b) s
      = .next ((s.updSensor i Sensor.restartRun).updCounters i fun c => { c with syntaxErrors := counterInc c.syntaxErrors }) := by
  change execSensorFrameArrival i b s = _
  unfold execSensorFrameArrival
  rw [if_neg enabled, if_pos bad]

/-- A frame with a content error alone: the run restarted and the frame counted. -/
def State.contentCounted (s : State) (i : Fin 6) : State :=
  (s.updSensor i Sensor.restartRun).updCounters i fun c => { c with contentErrors := counterInc c.contentErrors }

theorem State.sensor_contentCounted (s : State) (i : Fin 6) : (s.contentCounted i).sensor i = { s.sensor i with
    acquire := if (s.sensor i).mode = .acquiring then 0 else (s.sensor i).acquire
    counters := { (s.sensor i).counters with contentErrors := counterInc (s.sensor i).counters.contentErrors } } := by
  rw [State.contentCounted, State.restartRun_updCounters, State.sensor_updSensor]

theorem exec_sensorFrameArrival_of_content (enabled : (s.sensor i).mode ≠ .disabled)
    (good : frameSyntaxError i (s.sensor i).config.nSub b = false) (bad : frameContentError b = true) :
    exec (.sensorFrameArrival i b) s = .next (((s.contentCounted i).badFlags i (frameFlags b)).settle .nothing) := by
  change execSensorFrameArrival i b s = _
  unfold execSensorFrameArrival
  rw [if_neg enabled, good, if_neg Bool.false_ne_true, if_pos bad]
  rfl

/-- With the gate ON the flags of a bad frame are left (01 R4). -/
theorem State.badFlags_of_gated (gated : s.loop.params.flagGate = true) (fl : Flags) : s.badFlags i fl = s := if_pos gated

theorem State.badFlags_of_open (open_gate : s.loop.params.flagGate = false) {fl : Flags} : s.badFlags i fl =
    if fl.fx = true ∧ (s.sensor i).config.fx = .dropSaved then
      (s.recordFlags i { fl with shutter := (s.sensor i).flags.shutter }).invalidate i
    else s.recordFlags i { fl with shutter := (s.sensor i).flags.shutter } := by
  unfold State.badFlags
  rw [open_gate, if_neg Bool.false_ne_true]
  simp only [Bool.and_eq_true, decide_eq_true_eq]

end

/-- Settles O13: the checks in their order; with the gate OFF by whether the flags differ and whether they drop. -/
theorem droppedFramesAreCounted : Obligations.DroppedFramesAreCounted := by
  refine ⟨fun s i b => ?counted, fun s i b => ?gate_off⟩
  case counted =>
    intro x bad damaged run
    refine ⟨fun disabled => exec_sensorFrameArrival_of_disabled disabled, fun enabled ill => ?_, fun enabled good content gated quiet => ?_⟩
    · rw [exec_sensorFrameArrival_of_syntax enabled ((frameSyntaxError_iff ..).2 ill), State.restartRun_updCounters]
    · have good : frameSyntaxError i (s.sensor i).config.nSub b = false := by
        rw [Bool.eq_false_iff]
        exact fun h => good ((frameSyntaxError_iff ..).1 h)
      obtain ⟨reoffer, no_pass, jobs⟩ := (State.quiet_iff s).1 quiet
      have settled : (s.contentCounted i).settle .nothing = s.contentCounted i :=
        State.settle_of_calm (s := s) reoffer no_pass jobs rfl rfl rfl
      rw [exec_sensorFrameArrival_of_content enabled good ((frameContentError_iff b).2 content),
        State.badFlags_of_gated (s := s.contentCounted i) gated, settled, State.contentCounted, State.restartRun_updCounters]
  case gate_off =>
    intro x flags enabled good content open_gate quiet not_closed not_held
    obtain ⟨reoffer, no_pass, jobs⟩ := (State.quiet_iff s).1 quiet
    let counted := s.contentCounted i
    have counted_sensor := s.sensor_contentCounted i
    have counted_flags : (counted.sensor i).flags = x.flags := by rw [counted_sensor]
    let recorded := counted.recordFlags i flags
    let t := if flags.fx = true ∧ x.config.fx = .dropSaved then recorded.invalidate i else recorded
    have bad_flags : counted.badFlags i (frameFlags b) = t := by
      have flags_eq : ({ frameFlags b with shutter := (counted.sensor i).flags.shutter } : Flags) = flags := by
        rw [counted_flags]
        rfl
      have config : (counted.sensor i).config = x.config := by rw [counted_sensor]
      rw [State.badFlags_of_open (s := counted) open_gate, flags_eq, config]
      rfl
    obtain ⟨recorded_recon, recorded_cases⟩ : recorded.recon = s.recon ∧ ((flags = x.flags ∧ recorded = counted) ∨ (flags ≠ x.flags
        ∧ recorded = ((counted.updSensor i fun y => { y with flags := flags }).raise .inbandChange).inbandTaken)) := by
      by_cases same : flags = x.flags
      · have kept : recorded = counted := State.recordFlags_of_same (counted_flags.trans same.symm)
        exact ⟨by rw [kept]; rfl, .inl ⟨same, kept⟩⟩
      · have taken := State.recordFlags_outside (s := counted) (i := i) (fl := flags)
          (by rw [counted_flags]; exact fun h => same h.symm) not_closed not_held
        exact ⟨(congrArg (·.recon) taken).trans rfl, .inr ⟨same, taken⟩⟩
    obtain ⟨r, t_eq, flight, queue, drops, keeps⟩ : ∃ r, t = recorded.withRecon r
        ∧ r.inFlight = s.recon.inFlight ∧ r.queue = s.recon.queue
        ∧ (flags.fx = true ∧ x.config.fx = .dropSaved → r = { s.recon with
            saved := s.recon.saved.set i { s.savedOf i with valid := false } })
        ∧ (flags.fx = false ∨ x.config.fx ≠ .dropSaved → r = s.recon) := by
      by_cases drop : flags.fx = true ∧ x.config.fx = .dropSaved
      · refine ⟨(recorded.invalidate i).recon, if_pos drop, congrArg (·.inFlight) recorded_recon,
          congrArg (·.queue) recorded_recon, fun _ => ?_, fun keep => ?_⟩
        · unfold State.invalidate State.updSaved
          rw [recorded_recon]
          rfl
        · rcases keep with no_fx | other
          · rw [no_fx] at drop
            exact absurd drop.1 Bool.false_ne_true
          · exact absurd drop.2 other
      · exact ⟨recorded.recon, if_neg drop, congrArg (·.inFlight) recorded_recon, congrArg (·.queue) recorded_recon,
          fun h => absurd h drop, fun _ => recorded_recon⟩
    have settled : t.settle .nothing = t := by
      rw [t_eq]
      rcases recorded_cases with ⟨-, kept⟩ | ⟨-, taken⟩
      · rw [kept]
        exact State.settle_of_calm (s := s) reoffer no_pass jobs flight queue rfl
      · rw [taken]
        exact State.settle_of_calm (s := s) reoffer no_pass jobs flight queue rfl
    refine ⟨t, by rw [exec_sensorFrameArrival_of_content enabled good content, bad_flags, settled], ?_⟩
    have others (j : Fin 6) (other : j ≠ i) : counted.sensor j = s.sensor j := by
      change ((s.updSensor i Sensor.restartRun).updSensor i _).sensor j = _
      rw [State.sensor_updSensor_ne _ _ other, State.sensor_updSensor_ne _ _ other]
    rcases recorded_cases with ⟨same, kept⟩ | ⟨changed, taken⟩
    · have t_sensor (j : Fin 6) : t.sensor j = counted.sensor j := by rw [t_eq, kept]; rfl
      have own : t.sensor i = _ := (t_sensor i).trans counted_sensor
      rw [if_pos same, if_pos same, own, same]
      refine ⟨rfl, ?_, ?_, fun j other => (t_sensor j).trans (others j other), rfl, ?_⟩
      · rw [t_eq, kept]; rfl
      · rw [t_eq, kept]; rfl
      · rw [← same, t_eq, kept]
        exact ⟨drops, keeps, rfl, rfl, rfl, rfl, rfl, rfl⟩
    · have t_sensor (j : Fin 6) : t.sensor j = (counted.updSensor i fun y => { y with flags := flags }).sensor j := by
        rw [t_eq, taken]; rfl
      have own := t_sensor i
      rw [State.sensor_updSensor, counted_sensor] at own
      rw [if_neg changed, if_neg changed]
      refine ⟨by rw [own], ?_, ?_, fun j other => ?_, own, ?_⟩
      · rw [t_eq, taken]; rfl
      · rw [t_eq, taken]; rfl
      · rw [t_sensor, State.sensor_updSensor_ne _ _ other, others j other]
      · rw [t_eq, taken]
        exact ⟨drops, keeps, rfl, rfl, rfl, rfl, rfl, rfl⟩

end Sys2Proof.Machine

/-! A checked frame (01 R5, R15, R17): the stale test, the queue, and the offer of a frame that arrives at an empty queue. -/

namespace Sys2Proof.Machine
-- One theorem at a time: each worker thread reserves memory of its own.
set_option Elab.async false

/-! ## The end of a step that offers one head -/

theorem State.settle_headOf_taken {a u : State} {i : Fin 6} (reoffer : a.cyc.reoffer = false) (no_pass : a.canPass = false)
    (offers : a.offerHead i = (u, true)) (reoffer' : u.cyc.reoffer = false) (no_pass' : u.canPass = false)
    (emptied : (u.sensor i).queue = []) : a.settle (.headOf i) = u.settle .nothing := by
  have no_head : u.offerHead i = (u, false) := by
    unfold State.offerHead
    rw [emptied]
  have followed : State.followUp a.followBound (.headOf i) a = u := by
    obtain ⟨n, bound⟩ := a.followBound_large
    rw [bound, State.followUp, reoffer, no_pass, if_neg Bool.false_ne_true, if_neg Bool.false_ne_true]
    change State.followUp (n + 2) (if (a.offerHead i).2 = true then .headOf i else .nothing) (a.offerHead i).1 = u
    rw [offers, if_pos rfl, State.followUp, reoffer', no_pass', if_neg Bool.false_ne_true, if_neg Bool.false_ne_true]
    change State.followUp (n + 1) (if (u.offerHead i).2 = true then .headOf i else .nothing) (u.offerHead i).1 = u
    rw [no_head]
    exact followUp_of_still reoffer' no_pass' _
  unfold State.settle
  rw [followed, followUp_of_still reoffer' no_pass']

/-- The head is left waiting: the step ends as if nothing were offered (02 R33, R35). -/
theorem State.settle_headOf_left {a u : State} {i : Fin 6} (reoffer : a.cyc.reoffer = false) (no_pass : a.canPass = false)
    (offers : a.offerHead i = (u, false)) (reoffer' : u.cyc.reoffer = false) (no_pass' : u.canPass = false) :
    a.settle (.headOf i) = u.settle .nothing := by
  have followed : State.followUp a.followBound (.headOf i) a = u := by
    obtain ⟨n, bound⟩ := a.followBound_large
    rw [bound, State.followUp, reoffer, no_pass, if_neg Bool.false_ne_true, if_neg Bool.false_ne_true]
    change State.followUp (n + 2) (if (a.offerHead i).2 = true then .headOf i else .nothing) (a.offerHead i).1 = u
    rw [offers]
    exact followUp_of_still reoffer' no_pass' _
  unfold State.settle
  rw [followed, followUp_of_still reoffer' no_pass']

/-- What the start of a job and the grant may change. -/
def State.withJobs (s : State) (f : Option Flight) (q : List Job) (a : Arbiter) : State :=
  ({ s with recon := { s.recon with inFlight := f, queue := q } } : State).setArbiter a

theorem State.settle_calm_eq {u : State} (reoffer : u.cyc.reoffer = false) (no_pass : u.canPass = false) :
    ∃ f q a, u.settle .nothing = u.withJobs f q a := by
  obtain ⟨f, q, starts⟩ := u.startJob_eq
  obtain ⟨a, grants⟩ := u.startJob.grant_eq
  refine ⟨f, q, a, ?_⟩
  unfold State.settle
  rw [followUp_of_still reoffer no_pass, grants, starts]
  rfl

/-- With a job in flight the unit stays as it is whatever joins its queue. -/
theorem State.jobsQuiet_of_busy {s u : State} (jobs : s.jobsQuiet = true) (busy : s.recon.inFlight ≠ none)
    (flight : u.recon.inFlight = s.recon.inFlight) (arbiter : u.mem.arbiter = s.mem.arbiter) : u.jobsQuiet = true := by
  have runs : s.recon.inFlight.isSome = true := Option.isSome_iff_ne_none.2 busy
  have both := jobs
  unfold State.jobsQuiet at both ⊢
  rw [flight, arbiter]
  rw [runs] at both ⊢
  exact both

/-! ## The comparison copy and the stale run (01 R17) -/

theorem Sensor.staleTested_eq (x : Sensor) (slopes : List Int) : x.staleTested slopes
    = { x with copy := some slopes, staleRun := if x.copy = some slopes then countInc255 x.staleRun else 0 } := by
  unfold Sensor.staleTested
  cases held : x.copy with
  | none => simp
  | some c =>
    by_cases same : c = slopes
    · subst same
      simp [← held]
    · simp [same]

/-- The sensor after a frame that is not stale, before its state is updated. -/
def Sensor.compared (x : Sensor) (f : Frame) : Sensor := if f.flags.shutter then x.restartRun else x.staleTested f.slopes

theorem Sensor.compared_shutter {f : Frame} (shut : f.flags.shutter = true) (x : Sensor) : x.compared f = x.restartRun := if_pos shut

theorem Sensor.compared_open {f : Frame} (seen : f.flags.shutter = false) (x : Sensor) : x.compared f = x.staleTested f.slopes :=
  if_neg (by rw [seen]; exact Bool.false_ne_true)

/-- The fields that the stale test leaves to the sensor. -/
theorem Sensor.compared_eq (x : Sensor) (f : Frame) : x.compared f
    = { x with acquire := (x.compared f).acquire, copy := (x.compared f).copy, staleRun := (x.compared f).staleRun } := by
  unfold Sensor.compared
  split
  · rw [Sensor.restartRun_eq]
  · rw [Sensor.staleTested_eq]

section
variable {s : State} {i : Fin 6} {f : Frame}

/-- A good frame leaves an ACTIVE sensor as it is (01 R15). -/
theorem State.goodUpdate_of_active (active : (s.sensor i).mode = .active) : s.goodUpdate i = s := by
  unfold State.goodUpdate
  simp only [active]

theorem State.frameUpdate_of_active (active : (s.sensor i).mode = .active) 
    (untested : f.flags.shutter = true ∨ (s.sensor i).config.nStale = 0) : s.frameUpdate i f
      = (s.updSensor i fun x => x.compared f, false) := by
  unfold State.frameUpdate
  cases shut : f.flags.shutter with
  | true => simp [Sensor.compared, shut]
  | false =>
    have tested : (s.updSensor i fun x => x.staleTested f.slopes).sensor i = (s.sensor i).staleTested f.slopes := s.sensor_updSensor i _
    have fresh : ((s.sensor i).staleTested f.slopes).staleNow = false := by
      have never : (s.sensor i).config.nStale = 0 := untested.resolve_left (by rw [shut]; exact Bool.false_ne_true)
      rw [Sensor.staleTested_eq]
      simp [Sensor.staleNow, never]
    have good : (s.updSensor i fun x => x.staleTested f.slopes).goodUpdate i = s.updSensor i fun x => x.staleTested f.slopes := by
      refine State.goodUpdate_of_active ?_
      rw [tested, Sensor.staleTested_eq]
      exact active
    have compared : (s.updSensor i fun x => x.compared f) = s.updSensor i fun x => x.staleTested f.slopes :=
      s.updSensor_congr (Sensor.compared_open shut _)
    simp only [Bool.false_eq_true, if_false, tested, fresh, good, compared]

/-! ## A frame that arrives at an empty queue -/

/-- The frame is the only one of its queue (01 R6). -/
def State.arrived (s : State) (i : Fin 6) (f : Frame) : State :=
  ({ s with intake := { s.intake with arrivals := s.intake.arrivals + 1 } } : State).updSensor i
    fun x => { x.compared f with queue := [{ f with stamp := s.intake.arrivals }] }

/-- The frame of a sensor that is ACTIVE and has no frame waiting is offered (01 R5, R6). -/
theorem State.checkedFrame_of_active {t : State} (recorded : s.recordFlags i f.flags = t) (active : (t.sensor i).mode = .active)
    (empty : (t.sensor i).queue = []) (untested : f.flags.shutter = true ∨ (t.sensor i).config.nStale = 0) (quiet : t.quiet = true) :
    s.checkedFrame i f = (t.arrived i f).settle (.headOf i) := by
  obtain ⟨reoffer, no_pass, jobs⟩ := (State.quiet_iff t).1 quiet
  let compared := t.updSensor i fun x => x.compared f
  have settled : compared.settle .nothing = compared := State.settle_of_calm (s := t) reoffer no_pass jobs rfl rfl rfl
  have sensor : compared.sensor i = (t.sensor i).compared f := t.sensor_updSensor i _
  have queue : (compared.sensor i).queue = [] := by rw [sensor, Sensor.compared_eq]; exact empty
  have on : compared.isActive i = true := State.isActive_eq_true (by rw [sensor, Sensor.compared_eq]; exact active)
  have offers : (compared.sensor i).offersOnJoin = true := by simp [Sensor.offersOnJoin, queue]
  have joined : compared.joinQueue i f = t.arrived i f := by
    unfold State.joinQueue State.arrived
    simp only [compared]
    change ((({ t with intake := { t.intake with arrivals := t.intake.arrivals + 1 } } : State).updSensor i
      fun x => x.compared f).updSensor i _) = _
    rw [State.updSensor_updSensor]
    refine State.updSensor_congr _ ?_
    have bare : ((t.sensor i).compared f).queue = [] := by rw [← sensor]; exact queue
    refine (if_neg (c := 2 ≤ ((t.sensor i).compared f).queue.length) (by rw [bare]; decide)).trans ?_
    exact congrArg (fun q => { (t.sensor i).compared f with queue := q ++ [{ f with stamp := t.intake.arrivals }] }) bare
  unfold State.checkedFrame
  rw [recorded, State.frameUpdate_of_active active untested]
  change ((compared.settle .nothing).dispose i f false) = _
  rw [settled]
  unfold State.dispose
  rw [if_neg Bool.false_ne_true, if_pos on, if_pos offers, joined]

/-! ## A frame that is taken (01 R5, R22) -/

/-- The reconstruction unit's record after the drop request of a frame that is taken (01 R22). -/
def State.droppedRecon (s : State) (i : Fin 6) (f : Frame) : Reconstruction :=
  if f.flags.fx = true ∧ (s.sensor i).config.fx = .dropSaved then
    { s.recon with saved := s.recon.saved.set i { s.savedOf i with valid := false } } else s.recon

theorem State.droppedRecon_frame (s : State) (i : Fin 6) (f : Frame) :
    (s.droppedRecon i f).inFlight = s.recon.inFlight ∧ (s.droppedRecon i f).queue = s.recon.queue := by
  unfold State.droppedRecon
  split
  · exact ⟨rfl, rfl⟩
  · exact ⟨rfl, rfl⟩

theorem State.dropOnTake_eq (s : State) (i : Fin 6) (f : Frame) : s.dropOnTake i f = s.withRecon (s.droppedRecon i f) := by
  unfold State.dropOnTake State.droppedRecon
  by_cases drop : f.flags.fx = true ∧ (s.sensor i).config.fx = .dropSaved
  · rw [if_pos (by simpa using drop), if_pos drop]
    rfl
  · rw [if_neg (by simpa using drop), if_neg drop]
    rfl

/-- The sensor with the frame taken: compared, its queue empty, the frame counted (01 R5). -/
def Sensor.received (x : Sensor) (f : Frame) : Sensor :=
  { x.compared f with
    queue := [], counters := { (x.compared f).counters with taken := counterInc (x.compared f).counters.taken } }

theorem Sensor.received_eq (x : Sensor) (f : Frame) : x.received f = { x with
    acquire := (x.compared f).acquire, copy := (x.compared f).copy, staleRun := (x.compared f).staleRun
    queue := [], counters := { x.counters with taken := counterInc x.counters.taken } } := by
  unfold Sensor.received
  rw [Sensor.compared_eq]

/-- The state once the frame has been taken, before what a cycle makes of it. -/
def State.received (s : State) (i : Fin 6) (f : Frame) : State :=
  ({ s with
    intake := { s.intake with arrivals := s.intake.arrivals + 1 }
    recon := s.droppedRecon i f } : State).updSensor i fun x => x.received f

theorem State.sensor_received (s : State) (i : Fin 6) (f : Frame) : (s.received i f).sensor i = (s.sensor i).received f :=
  State.sensor_updSensor (s := { s with
    intake := { s.intake with arrivals := s.intake.arrivals + 1 }, recon := s.droppedRecon i f }) i _

theorem State.queue_arrived (s : State) (i : Fin 6) (f : Frame) :
    ((s.arrived i f).sensor i).queue = [{ f with stamp := s.intake.arrivals }] := by
  rw [State.arrived, State.sensor_updSensor]

theorem State.takeHead_arrived (s : State) (i : Fin 6) (f : Frame) :
    (s.arrived i f).takeHead i { f with stamp := s.intake.arrivals } = s.received i f := by
  let counted := ({ s with intake := { s.intake with arrivals := s.intake.arrivals + 1 } } : State)
  let taken := counted.updSensor i fun x => x.received f
  have merged : (((s.arrived i f).updSensor i fun x => { x with queue := x.queue.tail }).updCounters i
      fun c => { c with taken := counterInc c.taken }) = taken := by
    unfold State.arrived State.updCounters
    rw [State.updSensor_updSensor, State.updSensor_updSensor]
    rfl
  have config : (taken.sensor i).config = (s.sensor i).config := by
    rw [State.sensor_updSensor, Sensor.received_eq]
    rfl
  have dropped : taken.droppedRecon i { f with stamp := s.intake.arrivals } = s.droppedRecon i f := by
    unfold State.droppedRecon
    rw [config]
    rfl
  unfold State.takeHead State.countTaken
  rw [merged, State.dropOnTake_eq, dropped]
  rfl

end

end Sys2Proof.Machine

/-! The frames that no cycle takes (01 R5, R8, R15, R17). -/

namespace Sys2Proof.Machine
-- One theorem at a time: each worker thread reserves memory of its own.
set_option Elab.async false

/-! ## The stale test and the state update (01 R15, R17) -/

section
variable {s : State} {i : Fin 6} {f : Frame}

/-- The sensor after the stale test (01 R17). -/
def State.tested (s : State) (i : Fin 6) (f : Frame) : State := s.updSensor i fun x => x.staleTested f.slopes

theorem State.sensor_tested (s : State) (i : Fin 6) (f : Frame) : (s.tested i f).sensor i = { s.sensor i with
    copy := some f.slopes
    staleRun := if (s.sensor i).copy = some f.slopes then countInc255 (s.sensor i).staleRun else 0 } := by
  rw [State.tested, State.sensor_updSensor, Sensor.staleTested_eq]

theorem State.frameUpdate_shutter (shut : f.flags.shutter = true) : s.frameUpdate i f = (s.updSensor i Sensor.restartRun, false) :=
  if_pos shut

theorem State.frameUpdate_open (seen : f.flags.shutter = false) : s.frameUpdate i f
    = if ((s.tested i f).sensor i).staleNow then ((s.tested i f).staleUpdate i (s.sensor i).staleRun, true)
      else ((s.tested i f).goodUpdate i, false) := by
  unfold State.frameUpdate
  rw [if_neg (by rw [seen]; exact Bool.false_ne_true)]
  rfl

theorem State.staleNow_tested (s : State) (i : Fin 6) (f : Frame) : ((s.tested i f).sensor i).staleNow = true ↔
    (s.sensor i).config.nStale ≠ 0
      ∧ (s.sensor i).config.nStale ≤ if (s.sensor i).copy = some f.slopes then countInc255 (s.sensor i).staleRun else 0 := by
  rw [State.sensor_tested]
  simp only [Sensor.staleNow, Bool.and_eq_true, decide_eq_true_eq]

theorem State.goodUpdate_acquiring (acquiring : (s.sensor i).mode = .acquiring) (below : (s.sensor i).acquire + 1 < (s.sensor i).config.aGood) :
    s.goodUpdate i = s.updSensor i fun y => { y with acquire := y.acquire + 1 } := by
  unfold State.goodUpdate
  simp only [acquiring, if_neg (Nat.not_le.2 below)]

end

/-! ## Correction (01 R8 to R10) -/

/-- The mean square and the counters of a correction (01 R9, R10). -/
def Sensor.correctedBy (x : Sensor) (p : Fin 2) (raw : List Int) : Sensor :=
  { x with
    meanSquare := meanSquareOf (x.slopeCases p raw)
    counters := { x.counters with
      noMeasurement := counterAdd x.counters.noMeasurement ((x.slopeCases p raw).filter fun c => decide (c = .noMeasurement)).length
      saturatedCorrection := counterAdd x.counters.saturatedCorrection ((x.slopeCases p raw).filter SlopeCase.isSaturated).length } }

/-- A frame's correction of the sensor's figures, unless its slopes are unused (01 R8). -/
def Sensor.corrects (x : Sensor) (p : Fin 2) (f : Frame) : Sensor := if x.slopesUnused f then x else x.correctedBy p f.slopes

theorem State.updSensor_id (s : State) (i : Fin 6) : (s.updSensor i fun x => x) = s := by simp [State.updSensor]

theorem State.correctFrame_eq (s : State) (i : Fin 6) (p : Fin 2) (f : Frame) :
    s.correctFrame i p f = s.updSensor i fun x => x.corrects p f := by
  unfold State.correctFrame
  split
  next unused => exact (s.updSensor_id i).symm.trans (s.updSensor_congr (if_pos unused).symm)
  next used => exact s.updSensor_congr (if_neg used).symm

theorem Sensor.corrects_unused {x : Sensor} {f : Frame} (unused : x.slopesUnused f = true) (p : Fin 2) : x.corrects p f = x := if_pos unused

theorem Sensor.corrects_used {x : Sensor} {f : Frame} (used : x.slopesUnused f = false) (p : Fin 2) :
    x.corrects p f = x.correctedBy p f.slopes := if_neg (by rw [used]; exact Bool.false_ne_true)

/-- The fields that a correction leaves to the sensor. -/
theorem Sensor.corrects_eq (x : Sensor) (p : Fin 2) (f : Frame) : x.corrects p f
    = { x with meanSquare := (x.corrects p f).meanSquare, counters := (x.corrects p f).counters } := by
  unfold Sensor.corrects
  split
  · rfl
  · rfl

/-! ## A frame taken with no cycle -/

/-- The frame counted, its drop request sent and its slopes corrected against the ACTIVE page (01 R5, R8, R22). -/
def Sensor.takenBy (x : Sensor) (f : Frame) : Sensor :=
  ({ x with counters := { x.counters with taken := counterInc x.counters.taken } } : Sensor).corrects x.activePage f

section
variable {s : State} {i : Fin 6} {f : Frame}

theorem State.dispose_untrusted (inactive : s.isActive i = false) : s.dispose i f false
    = (s.withRecon (s.droppedRecon i f)).updSensor i fun x => x.takenBy f := by
  unfold State.dispose
  rw [if_neg Bool.false_ne_true, inactive, if_neg Bool.false_ne_true, State.correctFrame_eq]
  unfold State.countTaken
  rw [State.dropOnTake_eq]
  have dropped : (s.updCounters i fun c => { c with taken := counterInc c.taken }).droppedRecon i f = s.droppedRecon i f := by
    unfold State.droppedRecon State.updCounters
    rw [State.sensor_updSensor]
    rfl
  rw [dropped]
  exact State.updSensor_updSensor (s.withRecon (s.droppedRecon i f)) i
    (fun x => { x with counters := { x.counters with taken := counterInc x.counters.taken } }) fun x => x.corrects (s.sensor i).activePage f

theorem State.withRecon_droppedRecon (s : State) (i : Fin 6) (f : Frame) : s.withRecon (s.droppedRecon i f)
    = if f.flags.fx = true ∧ (s.sensor i).config.fx = .dropSaved then s.updSaved i fun x => { x with valid := false } else s := by
  unfold State.droppedRecon
  split
  · rfl
  · rfl

/-- A sensor's own update before the frame is taken does not change its drop request. -/
theorem State.droppedRecon_updSensor {g : Sensor → Sensor} (config : (g (s.sensor i)).config = (s.sensor i).config) :
    (s.updSensor i g).droppedRecon i f = s.droppedRecon i f := by
  unfold State.droppedRecon
  rw [State.sensor_updSensor, config]
  rfl

/-- The frame of a sensor that is not ACTIVE after its update `g` is taken at once. -/
theorem State.checkedFrame_untrusted {g : Sensor → Sensor} (recorded : (s.sensor i).flags = f.flags)
    (updated : s.frameUpdate i f = (s.updSensor i g, false)) (config : (g (s.sensor i)).config = (s.sensor i).config)
    (inactive : (g (s.sensor i)).mode ≠ .active) (quiet : s.quiet = true) :
    s.checkedFrame i f = (s.withRecon (s.droppedRecon i f)).updSensor i fun x => (g x).takenBy f := by
  obtain ⟨reoffer, no_pass, jobs⟩ := (State.quiet_iff s).1 quiet
  have settled : (s.updSensor i g).settle .nothing = s.updSensor i g := State.settle_of_calm (s := s) reoffer no_pass jobs rfl rfl rfl
  have off : (s.updSensor i g).isActive i = false := by
    unfold State.isActive
    rw [State.sensor_updSensor]
    simpa using inactive
  unfold State.checkedFrame
  rw [State.recordFlags_of_same recorded, updated]
  change ((s.updSensor i g).settle .nothing).dispose i f false = _
  rw [settled, State.dispose_untrusted off, State.droppedRecon_updSensor config]
  change ((s.withRecon (s.droppedRecon i f)).updSensor i g).updSensor i _ = _
  rw [State.updSensor_updSensor]

/-- The frame of an ACTIVE sensor in IDLE or SAFE is taken at once (02 R30). -/
theorem State.checkedFrame_at_rest (recorded : (s.sensor i).flags = f.flags) (active : (s.sensor i).mode = .active)
    (untested : f.flags.shutter = true ∨ (s.sensor i).config.nStale = 0) (rest : s.loop.state.closedToCycles = true)
    (empty : (s.sensor i).queue = []) (quiet : s.quiet = true) :
    s.checkedFrame i f = (s.received i f).updSensor i fun x => x.corrects (s.sensor i).activePage f := by
  obtain ⟨reoffer, no_pass, jobs⟩ := (State.quiet_iff s).1 quiet
  let a := s.arrived i f
  let u := (s.received i f).updSensor i fun x => x.corrects (s.sensor i).activePage f
  have page : (a.sensor i).activePage = (s.sensor i).activePage := by
    simp only [a, State.arrived]
    rw [State.sensor_updSensor, Sensor.compared_eq]
    rfl
  have offers : a.offerHead i = (u, true) := by
    unfold State.offerHead
    rw [State.queue_arrived]
    simp only [show a.loop.state.closedToCycles = true from rest, if_true, page]
    rw [State.takeHead_arrived, State.correctFrame_eq]
    rfl
  have emptied : (u.sensor i).queue = [] := by
    rw [State.sensor_updSensor, Sensor.corrects_eq, State.sensor_received]
    rfl
  have settled : u.settle .nothing = u :=
    State.settle_of_calm (s := s) reoffer no_pass jobs (s.droppedRecon_frame i f).1 (s.droppedRecon_frame i f).2 rfl
  rw [State.checkedFrame_of_active (State.recordFlags_of_same recorded) active empty untested quiet,
    State.settle_headOf_taken (a := a) (u := u) reoffer no_pass offers reoffer no_pass emptied, settled]

end

/-! ## The checks of the frame, as the statements write them -/

theorem frameCount_of_open {i : Fin 6} {nSub : Nat} {b : List Byte} (good : frameSyntaxError i nSub b = false)
    (seen : (frameFlags b).shutter = false) : rd16 b 4 = 2 * nSub := by
  by_contra other
  have bad := (frameSyntaxError_iff i nSub b).2 (.inr (.inr (.inl ⟨seen, other⟩)))
  rw [good] at bad
  exact Bool.false_ne_true bad

theorem State.plainFrame_iff (s : State) (i : Fin 6) (b : List Byte) : s.plainFrame i b = true ↔
    frameSyntaxError i (s.sensor i).config.nSub b = false ∧ frameContentError b = false ∧ (s.sensor i).flags = frameFlags b
      ∧ (frameFlags b).shutter = false ∧ (s.sensor i).config.nStale = 0 := by
  simp only [State.plainFrame, Bool.and_eq_true, Bool.not_eq_true', decide_eq_true_eq, and_assoc, eq_comm (a := frameFlags b)]

/-- The frame that a well-formed run of bytes without SHUTTER gives. -/
theorem frameOf_open {i : Fin 6} {nSub : Nat} {b : List Byte} (good : frameSyntaxError i nSub b = false)
    (seen : (frameFlags b).shutter = false) :
    frameOf b = { fn := frameFn b, flags := frameFlags b, slopes := rdS16s b 6 (2 * nSub), stamp := 0 } := by
  unfold frameOf frameSlopes frameCount
  rw [frameCount_of_open good seen]

/-- Settles O14: a frame of a sensor that is not ACTIVE by its update; that of an ACTIVE one by the offer of its queue's head. -/
theorem frameTakenWithNoCycle : Obligations.FrameTakenWithNoCycle := by
  refine ⟨fun s i b => ?plain, fun s i b => ?shutter⟩
  case plain =>
    intro x fx slopes cases taken dropped plain quiet
    obtain ⟨good, content, flags, seen, untested⟩ := (s.plainFrame_iff i b).1 plain
    have frame := frameOf_open good seen
    have dropped_eq : s.withRecon (s.droppedRecon i (frameOf b)) = dropped := s.withRecon_droppedRecon i (frameOf b)
    have core (a : Nat) (q : List Frame) : ({ x with
        acquire := a, queue := q, copy := some slopes
        staleRun := if x.copy = some slopes then countInc255 x.staleRun else 0 } : Sensor).takenBy (frameOf b)
          = { taken x with acquire := a, queue := q } := by
      unfold Sensor.takenBy
      by_cases excluded : fx = true ∧ x.config.fx = .exclude
      · rw [Sensor.corrects_unused (by simp [Sensor.slopesUnused, frame, seen]; exact excluded)]
        simp only [taken, if_pos excluded]
      · rw [Sensor.corrects_used (by
          rw [Bool.eq_false_iff]
          simp [Sensor.slopesUnused, frame, seen]
          exact fun h e => excluded ⟨h, e⟩)]
        simp only [taken, cases, if_neg excluded, frame]
        rfl
    refine ⟨fun acquiring below => ?_, fun active rest empty => ?_⟩
    · have enabled : x.mode ≠ .disabled := by rw [acquiring]; decide
      have updated : s.frameUpdate i (frameOf b) = (s.updSensor i fun y => { y.staleTested slopes with acquire := x.acquire + 1 }, false) := by
        have fresh : ((s.tested i (frameOf b)).sensor i).staleNow = false := by
          rw [Bool.eq_false_iff]
          exact fun stale => ((s.staleNow_tested i (frameOf b)).1 stale).1 untested
        have tested := s.sensor_tested i (frameOf b)
        rw [State.frameUpdate_open seen, fresh, if_neg Bool.false_ne_true,
          State.goodUpdate_acquiring (s := s.tested i (frameOf b)) (by rw [tested]; exact acquiring) (by rw [tested]; exact below)]
        refine congrArg (Prod.mk · false) ?_
        unfold State.tested
        rw [State.updSensor_updSensor]
        refine s.updSensor_congr ?_
        rw [Sensor.staleTested_eq, Sensor.staleTested_eq, frame]
      rw [exec_sensorFrameArrival_of_checked enabled good content,
        State.checkedFrame_untrusted flags updated (by rw [Sensor.staleTested_eq])
          (by rw [Sensor.staleTested_eq]; change x.mode ≠ _; rw [acquiring]; decide) quiet, dropped_eq]
      refine congrArg Host.Outcome.next (State.updSensor_congr _ ?_)
      have same : dropped.sensor i = x := by rw [← dropped_eq]; rfl
      rw [same, Sensor.staleTested_eq]
      exact core (x.acquire + 1) x.queue
    · have enabled : x.mode ≠ .disabled := by rw [active]; decide
      rw [exec_sensorFrameArrival_of_checked enabled good content,
        State.checkedFrame_at_rest flags active (.inr untested) rest empty quiet, ← dropped_eq]
      refine congrArg Host.Outcome.next ?_
      let placed := ({ s with
        intake := { s.intake with arrivals := s.intake.arrivals + 1 }, recon := s.droppedRecon i (frameOf b) } : State)
      have own : (x.received (frameOf b)).corrects x.activePage (frameOf b) = taken x := by
        rw [Sensor.received_eq, Sensor.compared_open (by rw [frame]; exact seen), Sensor.staleTested_eq]
        have at_rest := core x.acquire []
        have emptied : ({ taken x with acquire := x.acquire, queue := [] } : Sensor) = taken x := by
          rw [← empty]
        rw [frame] at at_rest ⊢
        exact at_rest.trans emptied
      change (placed.updSensor i fun y => y.received (frameOf b)).updSensor i _ = placed.updSensor i taken
      rw [State.updSensor_updSensor]
      exact placed.updSensor_congr own
  case shutter =>
    intro x taken dropped good content shut flags quiet
    have unused (y : Sensor) : y.slopesUnused (frameOf b) = true := by
      have shutter : (frameOf b).flags.shutter = true := shut
      simp [Sensor.slopesUnused, shutter]
    have dropped_eq : s.withRecon (s.droppedRecon i (frameOf b)) = dropped := s.withRecon_droppedRecon i (frameOf b)
    refine ⟨fun untrusted => ?_, fun active rest empty => ?_⟩
    · have enabled : x.mode ≠ .disabled := by rcases untrusted with m | m <;> rw [m] <;> decide
      have inactive : x.mode ≠ .active := by rcases untrusted with m | m <;> rw [m] <;> decide
      rw [exec_sensorFrameArrival_of_checked enabled good content,
        State.checkedFrame_untrusted flags.symm (State.frameUpdate_shutter shut) (by rw [Sensor.restartRun_eq])
          (by rw [Sensor.restartRun_eq]; exact inactive) quiet, dropped_eq]
      refine congrArg Host.Outcome.next (State.updSensor_congr _ ?_)
      have same : dropped.sensor i = x := by rw [← dropped_eq]; rfl
      rw [same, Sensor.restartRun_eq, Sensor.takenBy, Sensor.corrects_unused (unused _)]
    · have enabled : x.mode ≠ .disabled := by rw [active]; decide
      rw [exec_sensorFrameArrival_of_checked enabled good content,
        State.checkedFrame_at_rest flags.symm active (.inl shut) rest empty quiet, ← dropped_eq]
      refine congrArg Host.Outcome.next ?_
      let placed := ({ s with
        intake := { s.intake with arrivals := s.intake.arrivals + 1 }, recon := s.droppedRecon i (frameOf b) } : State)
      have own : (x.received (frameOf b)).corrects x.activePage (frameOf b) = taken x := by
        have still : (if x.mode = .acquiring then 0 else x.acquire) = x.acquire := if_neg (by rw [active]; decide)
        rw [Sensor.corrects_unused (unused _), Sensor.received_eq, Sensor.compared_shutter shut, Sensor.restartRun_eq, still, ← empty]
      change (placed.updSensor i fun y => y.received (frameOf b)).updSensor i _ = placed.updSensor i taken
      rw [State.updSensor_updSensor]
      exact placed.updSensor_congr own

end Sys2Proof.Machine

/-! Acquisition, staleness and the intake queue (01 R6, R7, R15 to R17, R19, R25). -/

namespace Sys2Proof.Machine
-- One theorem at a time: each worker thread reserves memory of its own.
set_option Elab.async false

section
variable {s : State} {i : Fin 6}

/-! ## The state update of a frame (01 R15, R19) -/

theorem State.sensor_setMode (s : State) (i : Fin 6) (m : SensorMode) : (s.setMode i m).sensor i = { s.sensor i with mode := m } := by
  by_cases same : (s.sensor i).mode = m
  · rw [State.setMode, if_pos same, ← same]
  · rw [State.setMode_of_ne same]
    exact s.sensor_updSensor i fun x => { x with mode := m }

theorem State.sensor_reportInband (s : State) (j : Fin 6) : s.reportInband.sensor j = s.sensor j := by
  rw [State.sensor, State.intake_reportInband]
  rfl

theorem State.sensor_becomeActive (s : State) (i : Fin 6) : (s.becomeActive i).sensor i
    = { s.sensor i with mode := .active, acquire := 0, missCount := 0 } := by
  rw [State.becomeActive, State.sensor_reportInband, State.sensor_setMode, State.sensor_updSensor]

theorem State.sensor_goodUpdate (s : State) (i : Fin 6) : (s.goodUpdate i).sensor i =
    match (s.sensor i).mode with
    | .acquiring => if (s.sensor i).config.aGood ≤ (s.sensor i).acquire + 1 then { s.sensor i with mode := .active, acquire := 0, missCount := 0 }
        else { s.sensor i with acquire := (s.sensor i).acquire + 1 }
    | .lost => if (s.sensor i).config.aGood ≤ 1 then { s.sensor i with mode := .active, acquire := 0, missCount := 0 }
        else { s.sensor i with mode := .acquiring, acquire := 1 }
    | _ => s.sensor i := by
  cases mode : (s.sensor i).mode with
  | acquiring =>
    by_cases full : (s.sensor i).config.aGood ≤ (s.sensor i).acquire + 1
    · have becomes : s.goodUpdate i = s.becomeActive i := by
        unfold State.goodUpdate
        simp only [mode, if_pos full]
      rw [becomes, State.sensor_becomeActive]
      exact (if_pos full).symm
    · rw [State.goodUpdate_acquiring mode (Nat.not_le.1 full), State.sensor_updSensor]
      exact (if_neg full).symm
  | lost =>
    by_cases once : (s.sensor i).config.aGood ≤ 1
    · have becomes : s.goodUpdate i = s.becomeActive i := by
        unfold State.goodUpdate
        simp only [mode, if_pos once]
      rw [becomes, State.sensor_becomeActive]
      exact (if_pos once).symm
    · have acquires : s.goodUpdate i = (s.updSensor i fun y => { y with acquire := 1 }).setMode i .acquiring := by
        unfold State.goodUpdate
        simp only [mode, if_neg once]
      rw [acquires, State.sensor_setMode, State.sensor_updSensor]
      exact (if_neg once).symm
  | active =>
    rw [State.goodUpdate_of_active mode]
  | disabled =>
    unfold State.goodUpdate
    simp only [mode]

/-- The declaration of a stale sensor (01 R17): its run ended and the declaration counted. -/
def State.declaredStale (s : State) (i : Fin 6) : State :=
  (s.updSensor i fun y => { y with acquire := 0 }).updCounters i fun c => { c with staleDeclarations := counterInc c.staleDeclarations }

theorem State.sensor_declaredStale (s : State) (i : Fin 6) : (s.declaredStale i).sensor i = { s.sensor i with
    acquire := 0
    counters := { (s.sensor i).counters with staleDeclarations := counterInc (s.sensor i).counters.staleDeclarations } } := by
  unfold State.declaredStale State.updCounters
  rw [State.sensor_updSensor, State.sensor_updSensor]

theorem State.staleUpdate_declares {before : Nat} (below : before < (s.sensor i).config.nStale)
    (reached : (s.sensor i).staleRun = (s.sensor i).config.nStale) (trusted : (s.sensor i).mode = .acquiring ∨ (s.sensor i).mode = .active) :
    s.staleUpdate i before = (s.declaredStale i).becomeLost i := if_pos ⟨below, reached, trusted⟩

theorem State.staleUpdate_again {before : Nat} (past : (s.sensor i).config.nStale ≤ before ∨ (s.sensor i).mode = .lost) :
    s.staleUpdate i before = s.updSensor i Sensor.restartRun := by
  refine if_neg fun declares => ?_
  obtain ⟨below, -, trusted⟩ := declares
  rcases past with past | lost
  · exact Nat.not_lt.2 past below
  · rw [lost] at trusted
    rcases trusted with h | h <;> exact absurd h (by decide)

/-- An ACQUIRING sensor is awaited by nothing: LOST, its queue emptied into the counter (01 R19, R25). -/
theorem State.sensor_becomeLost_untrusted (inactive : s.isActive i = false) : (s.becomeLost i).sensor i = { s.sensor i with
    mode := .lost, queue := []
    counters := { (s.sensor i).counters with
      lostFrames := counterAdd (s.sensor i).counters.lostFrames (s.sensor i).queue.length } } := by
  have becomes : s.becomeLost i = ((s.setMode i .lost).loseQueue i).reportInband := by
    unfold State.becomeLost
    simp only [inactive, Bool.false_eq_true, if_false]
  rw [becomes, State.sensor_reportInband, State.loseQueue, State.sensor_updSensor, State.sensor_setMode]

end

/-! ## What a settlement leaves to the sensors (02 R40 to R44) -/

theorem State.intake_startJob (s : State) : s.startJob.intake = s.intake := by
  obtain ⟨f, q, starts⟩ := s.startJob_eq
  rw [starts]

theorem State.intake_recordMiss (s : State) (b : Bank) (i : Fin 6) (excused noSub : Bool) :
    (s.recordMiss b i excused noSub).intake = s.intake := by
  unfold State.recordMiss
  split
  · rfl
  · split
    · exact State.intake_startJob _
    · rfl

theorem State.intake_handSettlement (s : State) (b : Bank) (i : Fin 6) (slopes : Option (List Int)) :
    (s.handSettlement b i slopes).intake = s.intake := by
  unfold State.handSettlement
  split
  · rfl
  · split
    · rfl
    · rfl

theorem State.intake_close (s : State) (b : Bank) (reason : CloseReason) : (s.close b reason).intake = s.intake := by
  unfold State.close
  split
  · rfl
  · dsimp only
    split
    · exact (State.Aside.judgeTally _ _ _).intake
    · rfl

theorem State.intake_checkComplete (s : State) (b : Bank) : (s.checkComplete b).intake = s.intake := by
  unfold State.checkComplete
  split
  · rfl
  · split
    · exact State.intake_close _ _ _
    · rfl

/-- Only the counters of a sensor that left ACTIVE change where it is settled (01 R16). -/
theorem State.sensor_settleLeft (s : State) (i : Fin 6) (noSub : Bool) (j : Fin 6) :
    ∃ c, (s.settleLeft i noSub).sensor j = { s.sensor j with counters := c } := by
  refine List.foldlRecOn (motive := fun t : State => ∃ c, t.sensor j = { s.sensor j with counters := c }) _ _ ⟨_, rfl⟩ ?_
  rintro t ⟨c, same⟩ b -
  unfold State.missInactive
  split
  · exact ⟨c, same⟩
  next k bound =>
    split
    · let recorded := t.recordMiss b i false noSub
      have recorded_sensor : recorded.sensor j = t.sensor j := congrArg (fun k : Intake => k.sensors[j]) (State.intake_recordMiss ..)
      have kept : ((((recorded.updCounters i fun c => { c with misses := counterInc c.misses }).handSettlement b i none).checkComplete b).sensor j)
          = (recorded.updCounters i fun c => { c with misses := counterInc c.misses }).sensor j :=
        congrArg (fun k : Intake => k.sensors[j]) ((State.intake_checkComplete ..).trans (State.intake_handSettlement ..))
      rw [kept]
      by_cases own : j = i
      · subst own
        exact ⟨{ c with misses := counterInc c.misses }, by rw [State.updCounters, State.sensor_updSensor, recorded_sensor, same]⟩
      · exact ⟨c, by rw [State.updCounters, State.sensor_updSensor_ne _ _ own, recorded_sensor, same]⟩
    · exact ⟨c, same⟩

/-- The comparison copy and the stale run of a sensor that becomes LOST stay. -/
theorem State.compared_becomeLost (s : State) (i : Fin 6) :
    ((s.becomeLost i).sensor i).staleRun = (s.sensor i).staleRun ∧ ((s.becomeLost i).sensor i).copy = (s.sensor i).copy := by
  let lost := s.setMode i .lost
  let left := if s.isActive i then lost.settleLeft i false else lost
  have left_sensor : ∃ c, left.sensor i = { lost.sensor i with counters := c } := by
    simp only [left]
    split
    · exact lost.sensor_settleLeft i false i
    · exact ⟨_, rfl⟩
  obtain ⟨c, left_eq⟩ := left_sensor
  have becomes : (s.becomeLost i).sensor i = (left.loseQueue i).sensor i := State.sensor_reportInband _ _
  rw [becomes, State.loseQueue, State.sensor_updSensor, left_eq, State.sensor_setMode]
  exact ⟨rfl, rfl⟩

/-! ## The sensor that a stale frame makes LOST -/

section
variable {s : State} {i : Fin 6}

/-- A cycle with a sensor that it awaits missed. -/
def Cycle.missedOne (k : Cycle) (i : Fin 6) : Cycle :=
  if k.awaits i then { k with settlement := k.settlement.set i (.omitted false) } else k

/-- The sensor LOST: missed where a cycle awaited it, its queue emptied into the counter (01 R16, R25). -/
def Sensor.lostBy (x : Sensor) (awaited : Bool) : Sensor :=
  { x with
    mode := .lost, queue := []
    counters := { x.counters with
      misses := if awaited then counterInc x.counters.misses else x.counters.misses
      lostFrames := counterAdd x.counters.lostFrames x.queue.length } }

/-- With at most one cycle and policy OMIT an ACTIVE sensor leaves by one omitted miss at the most. -/
theorem State.becomeLost_of_omit (active : (s.sensor i).mode = .active) (policy : (s.sensor i).config.policy = .omit)
    (few : s.cyc.cycles.length ≤ 1)
    (others : ∀ k ∈ s.cyc.cycles, k.awaits i = true → k.calMark = false ∧ ∃ j, j ≠ i ∧ k.awaits j = true) :
    s.becomeLost i = (((s.updSensor i fun x => x.lostBy (s.cyc.cycles.any fun k => k.awaits i)).raise .sensorState).withCyc
      { s.cyc with cycles := s.cyc.cycles.map fun k => k.missedOne i }).reportInband := by
  let lost := s.setMode i .lost
  have lost_eq : lost = (s.updSensor i fun x => { x with mode := .lost }).raise .sensorState :=
    State.setMode_of_ne (by rw [active]; decide)
  have becomes : s.becomeLost i = ((lost.settleLeft i false).loseQueue i).reportInband := by
    unfold State.becomeLost
    simp only [State.isActive_eq_true active, if_true]
    rfl
  have lost_cycles : lost.cyc = s.cyc := by rw [lost_eq]; rfl
  by_cases awaited : s.cyc.cycles.any (fun k => k.awaits i) = true
  · obtain ⟨k, mem, waits⟩ := List.any_eq_true.1 awaited
    have one : s.cyc.cycles = [k] := by
      match cycles : s.cyc.cycles with
      | [] => rw [cycles] at mem; exact absurd mem (List.not_mem_nil)
      | [c] => rw [cycles] at mem; rw [List.mem_singleton.1 mem]
      | _ :: _ :: _ => rw [cycles] at few; simp at few
    obtain ⟨unmarked, more⟩ := others k mem waits
    have no_sub : lost.substitutes k i = false := State.substitutes_of_omit (by rw [State.sensor_setMode]; exact policy)
    have one' : lost.cyc.cycles = [k] := by rw [lost_cycles, one]
    have left : lost.settleLeft i false = (lost.setSettlement k.bank i (.omitted false)).updSensor i Sensor.countMiss := by
      rw [State.settleLeft_singleton one', State.missInactive_omitted (State.cycleAt_singleton one' rfl) waits unmarked (.inr no_sub) more]
    rw [becomes, left, State.setSettlement_singleton one' rfl, lost_eq, awaited, one]
    have missed : k.missedOne i = k.withSettlement i (.omitted false) := if_pos waits
    simp only [List.map_cons, List.map_nil, missed]
    refine congrArg State.reportInband ?_
    simp [State.loseQueue, State.withCyc, State.updSensor, State.raise, Sensor.countMiss, Sensor.lostBy]
  · have none_awaits : ∀ k ∈ s.cyc.cycles, k.awaits i = false := fun k mem => by
      rw [Bool.eq_false_iff]
      exact fun waits => awaited (List.any_eq_true.2 ⟨k, mem, waits⟩)
    have left : lost.settleLeft i false = lost := State.settleLeft_of_not_awaited (by rw [lost_cycles]; exact none_awaits) false
    have unmoved : (s.cyc.cycles.map fun k => k.missedOne i) = s.cyc.cycles := by
      have each : ∀ k ∈ s.cyc.cycles, k.missedOne i = id k := fun k mem => if_neg (by rw [none_awaits k mem]; exact Bool.false_ne_true)
      rw [List.map_congr_left each, List.map_id]
    rw [becomes, left, lost_eq, unmoved, (Bool.not_eq_true _).mp awaited]
    refine congrArg State.reportInband ?_
    simp [State.loseQueue, State.withCyc, State.updSensor, State.raise, Sensor.lostBy]

end

theorem Cycle.missedOne_frame (k : Cycle) (i : Fin 6) :
    (k.missedOne i).state = k.state ∧ (k.missedOne i).outstanding = k.outstanding := by
  unfold Cycle.missedOne
  split
  · exact ⟨rfl, rfl⟩
  · exact ⟨rfl, rfl⟩

/-- A change of the cycles that keeps each one's state and jobs passes none of them to LAW. -/
theorem State.canPass_map {s t : State} {f : Cycle → Cycle} (cycles : t.cyc.cycles = s.cyc.cycles.map f)
    (law : t.law.inProgress = s.law.inProgress) (same : ∀ k, (f k).state = k.state ∧ (f k).outstanding = k.outstanding) :
    t.canPass = s.canPass := by
  unfold State.canPass
  rw [cycles, law]
  cases s.cyc.cycles with
  | nil => rfl
  | cons k l =>
    obtain ⟨state, jobs⟩ := same k
    simp only [List.map_cons, state, jobs]

/-- Settles O15: the sensor's update by the stale test and its state; the loss through the cycle that awaits it; the queue by its
length. -/
theorem acquisitionAndQueue : Obligations.AcquisitionAndQueue := by
  refine ⟨fun s i f => ?update, fun s i b => ?lost, fun s i f g h => ?queue⟩
  case update =>
    intro x y run stale
    have tested := s.sensor_tested i f
    have shut_update (shut : f.flags.shutter = true) : s.frameUpdate i f = (s.updSensor i Sensor.restartRun, false) :=
      State.frameUpdate_shutter shut
    have fresh_update (seen : f.flags.shutter = false) (fresh : ¬ stale) :
        s.frameUpdate i f = ((s.tested i f).goodUpdate i, false) := by
      rw [State.frameUpdate_open seen, if_neg fun now => fresh ⟨seen, (s.staleNow_tested i f).1 now⟩]
    have stale_update (is_stale : stale) : s.frameUpdate i f = ((s.tested i f).staleUpdate i x.staleRun, true) := by
      rw [State.frameUpdate_open is_stale.1, if_pos ((s.staleNow_tested i f).2 is_stale.2)]
    have fresh_sensor (seen : f.flags.shutter = false) (fresh : ¬ stale) : y = ((s.tested i f).goodUpdate i).sensor i :=
      congrArg (fun r => r.1.sensor i) (fresh_update seen fresh)
    have stale_sensor (is_stale : stale) : y = ((s.tested i f).staleUpdate i x.staleRun).sensor i :=
      congrArg (fun r => r.1.sensor i) (stale_update is_stale)
    refine ⟨?mark, fun shut => ?shutter, fun seen => ?compared, fun seen fresh acquiring below => ?run, fun seen fresh acquiring full => ?trusted,
      fun seen fresh lost twice => ?again, fun seen fresh lost once => ?at_once, fun seen fresh active => ?stays,
      fun is_stale below reached acquiring => ?declared, fun is_stale lost => ?lost_again, fun is_stale active past => ?past⟩
    case mark =>
      constructor
      · intro marked
        by_contra fresh
        cases shut : f.flags.shutter with
        | true => rw [shut_update shut] at marked; exact Bool.false_ne_true marked
        | false => rw [fresh_update shut fresh] at marked; exact Bool.false_ne_true marked
      · intro is_stale
        rw [stale_update is_stale]
    case shutter =>
      have y_eq : y = (s.updSensor i Sensor.restartRun).sensor i := congrArg (fun r => r.1.sensor i) (shut_update shut)
      rw [y_eq, State.sensor_updSensor, Sensor.restartRun_eq]
    case compared =>
      by_cases is_stale : stale
      · rw [stale_sensor is_stale]
        unfold State.staleUpdate
        dsimp only
        split
        · obtain ⟨kept_run, kept_copy⟩ := ((s.tested i f).declaredStale i).compared_becomeLost i
          rw [State.sensor_declaredStale, tested] at kept_run kept_copy
          exact ⟨kept_run, kept_copy⟩
        · rw [State.sensor_updSensor, Sensor.restartRun_eq, tested]
          exact ⟨rfl, rfl⟩
      · rw [fresh_sensor seen is_stale, State.sensor_goodUpdate, tested]
        dsimp only
        split
        · split
          · exact ⟨rfl, rfl⟩
          · exact ⟨rfl, rfl⟩
        · split
          · exact ⟨rfl, rfl⟩
          · exact ⟨rfl, rfl⟩
        · exact ⟨rfl, rfl⟩
    case run =>
      rw [fresh_sensor seen fresh, State.sensor_goodUpdate, tested]
      dsimp only
      rw [acquiring]
      dsimp only
      rw [if_neg (Nat.not_le.2 below)]
      exact ⟨rfl, rfl⟩
    case trusted =>
      rw [fresh_sensor seen fresh, State.sensor_goodUpdate, tested]
      dsimp only
      rw [acquiring]
      dsimp only
      rw [if_pos full]
      exact ⟨rfl, rfl, rfl⟩
    case again =>
      rw [fresh_sensor seen fresh, State.sensor_goodUpdate, tested]
      dsimp only
      rw [lost]
      dsimp only
      rw [if_neg (Nat.not_le.2 twice)]
      exact ⟨rfl, rfl⟩
    case at_once =>
      rw [fresh_sensor seen fresh, State.sensor_goodUpdate, tested]
      dsimp only
      rw [lost]
      dsimp only
      rw [if_pos (Nat.le_of_eq once)]
    case stays =>
      rw [fresh_sensor seen fresh, State.sensor_goodUpdate, tested]
      dsimp only
      rw [active]
    case declared =>
      have declares : (s.tested i f).staleUpdate i x.staleRun = ((s.tested i f).declaredStale i).becomeLost i :=
        State.staleUpdate_declares (by rw [tested]; exact below) (by rw [tested]; exact reached) (by rw [tested]; exact .inl acquiring)
      have untrusted : ((s.tested i f).declaredStale i).isActive i = false := by
        unfold State.isActive
        rw [State.sensor_declaredStale, tested]
        simpa using (show x.mode ≠ .active by rw [acquiring]; decide)
      rw [stale_sensor is_stale, declares, State.sensor_becomeLost_untrusted untrusted, State.sensor_declaredStale, tested]
      exact ⟨rfl, rfl, rfl⟩
    case lost_again =>
      rw [stale_sensor is_stale, State.staleUpdate_again (.inr (by rw [tested]; exact lost)), State.sensor_updSensor, Sensor.restartRun_eq,
        tested]
      dsimp only
      rw [if_neg (by rw [lost]; decide)]
    case past =>
      have held : x.copy = some f.slopes := by
        by_contra other
        have zero : run = 0 := if_neg other
        obtain ⟨-, tests, reached⟩ := is_stale
        omega
      rw [stale_sensor is_stale, State.staleUpdate_again (.inl (by rw [tested]; exact past)), State.sensor_updSensor, Sensor.restartRun_eq,
        tested]
      dsimp only
      rw [if_neg (by rw [active]; decide)]
      exact congrArg (fun c => { x with staleRun := run, copy := c }) held.symm
  case lost =>
    intro x awaited missed drop active good content flags seen held reached bounded policy quiet not_closed not_held few others
    obtain ⟨reoffer, no_pass, jobs⟩ := (State.quiet_iff s).1 quiet
    have seen' : (frameFlags b).shutter = false := by rw [flags]; exact seen
    let f := frameOf b
    have slopes : f.slopes = rdS16s b 6 (2 * x.config.nSub) := congrArg Frame.slopes (frameOf_open good seen')
    have tested : (s.tested i f).sensor i = { x with staleRun := x.config.nStale } := by
      have run : countInc255 x.staleRun = x.config.nStale := by
        rw [← reached]
        exact if_pos (by omega)
      rw [State.sensor_tested, slopes]
      change ({ x with copy := _, staleRun := if x.copy = _ then _ else _ } : Sensor) = _
      rw [if_pos held, run, ← held]
    let declared := (s.tested i f).declaredStale i
    have declared_sensor : declared.sensor i = { x with
        staleRun := x.config.nStale, acquire := 0
        counters := { x.counters with staleDeclarations := counterInc x.counters.staleDeclarations } } := by
      rw [State.sensor_declaredStale, tested]
    have updated : s.frameUpdate i f = (declared.becomeLost i, true) := by
      have below : x.staleRun < x.config.nStale := by omega
      have stale : ((s.tested i f).sensor i).staleNow = true := by
        rw [tested]
        simp only [Sensor.staleNow, Bool.and_eq_true, decide_eq_true_eq]
        omega
      rw [State.frameUpdate_open seen', if_pos stale, State.staleUpdate_declares (by rw [tested]; exact below)
        (by rw [tested]) (by rw [tested]; exact .inr active)]
    let lost := ((declared.updSensor i fun x => x.lostBy awaited).raise .sensorState).withCyc
      { s.cyc with cycles := s.cyc.cycles.map fun k => k.missedOne i }
    have becomes : declared.becomeLost i = lost.inbandTaken :=
      (State.becomeLost_of_omit (s := declared) (by rw [declared_sensor]; exact active) (by rw [declared_sensor]; exact policy) few others).trans
        (State.reportInband_outside (s := lost) not_closed not_held)
    have still : lost.inbandTaken.canPass = false :=
      (State.canPass_map (t := lost.inbandTaken) (f := fun k => k.missedOne i) rfl rfl fun k => k.missedOne_frame i).trans no_pass
    have settled : lost.inbandTaken.settle .nothing = lost.inbandTaken :=
      State.settle_of_calm (s := s) reoffer still jobs rfl rfl rfl
    let t := lost.inbandTaken.countTaken i f
    have runs : s.checkedFrame i f = t := by
      unfold State.checkedFrame
      rw [State.recordFlags_of_same (show (s.sensor i).flags = f.flags from flags.symm), updated]
      change ((declared.becomeLost i).settle .nothing).dispose i f true = t
      rw [becomes, settled]
      exact if_pos rfl
    refine ⟨t, by rw [exec_sensorFrameArrival_of_checked (by rw [active]; decide) good content, runs], ?_⟩
    let counted := lost.inbandTaken.updCounters i fun c => { c with taken := counterInc c.taken }
    have t_eq : t = counted.withRecon (counted.droppedRecon i f) := counted.dropOnTake_eq i f
    have lost_sensor : lost.sensor i = (declared.sensor i).lostBy awaited := declared.sensor_updSensor i fun x => x.lostBy awaited
    have counted_sensor : counted.sensor i = { lost.sensor i with
        counters := { (lost.sensor i).counters with taken := counterInc (lost.sensor i).counters.taken } } :=
      lost.inbandTaken.sensor_updSensor i _
    have others_lost (j : Fin 6) (other : j ≠ i) : lost.sensor j = s.sensor j := by
      change (declared.updSensor i fun x => x.lostBy awaited).sensor j = _
      rw [State.sensor_updSensor_ne _ _ other]
      simp only [declared, State.declaredStale, State.updCounters]
      rw [State.sensor_updSensor_ne _ _ other, State.sensor_updSensor_ne _ _ other, State.tested, State.sensor_updSensor_ne _ _ other]
    have others_kept (j : Fin 6) (other : j ≠ i) : t.sensor j = s.sensor j := by
      have kept : t.sensor j = counted.sensor j := by rw [t_eq]; rfl
      rw [kept]
      simp only [counted, State.updCounters]
      rw [State.sensor_updSensor_ne _ _ other]
      exact others_lost j other
    have inband : lost.inbandNow = allSensors.any fun j => decide (j ≠ i) && decide ((s.sensor j).mode = .active)
        && ((s.sensor j).flags.holdreq || ((s.sensor j).flags.fx && decide ((s.sensor j).config.fx = .hold))) := by
      unfold State.inbandNow
      refine congrArg (allSensors.any ·) (funext fun j => ?_)
      unfold State.isActive Sensor.requestsHold
      by_cases own : j = i
      · subst own
        rw [lost_sensor]
        simp [Sensor.lostBy]
      · rw [others_lost j own]
        simp [own]
    have dropped : counted.droppedRecon i f = if drop then { s.recon with
        saved := s.recon.saved.set i { s.savedOf i with valid := false } } else s.recon := by
      have config : (counted.sensor i).config = x.config := by
        rw [counted_sensor, lost_sensor, declared_sensor]
        rfl
      have fx : f.flags.fx = x.flags.fx := congrArg Flags.fx flags
      unfold State.droppedRecon
      rw [config, fx]
      rfl
    have own : t.sensor i = counted.sensor i := by rw [t_eq]; rfl
    have t_loop : t.loop = { s.loop with inband := lost.inbandNow } := by rw [t_eq]; rfl
    have t_recon : t.recon = counted.droppedRecon i f := by rw [t_eq]; rfl
    rw [t_loop, inband, t_recon, dropped]
    refine ⟨?_, others_kept, ?_, ?_, rfl, fun drops => if_pos drops, fun keeps => if_neg keeps, ?_⟩
    · rw [own, counted_sensor, lost_sensor, declared_sensor]
      rfl
    · rw [t_eq]; rfl
    · rw [t_eq]; rfl
    · rw [t_eq]
      exact ⟨rfl, rfl, rfl, rfl, rfl⟩
  case queue =>
    intro k x
    let counted := ({ s with intake := { s.intake with arrivals := s.intake.arrivals + 1 } } : State)
    have sensor : (s.joinQueue i f).sensor i = if 2 ≤ x.queue.length then
        { x with queue := x.queue.tail ++ [k], counters := { x.counters with lostFrames := counterInc x.counters.lostFrames } }
      else { x with queue := x.queue ++ [k] } := counted.sensor_updSensor i _
    refine ⟨fun none => ?_, fun one => ?_, fun two => ?_⟩
    · rw [sensor, none]
      exact if_neg (by decide)
    · rw [sensor, one]
      exact if_neg (by simp)
    · rw [sensor, two]
      exact if_pos (by simp)

end Sys2Proof.Machine

/-! The opening of a cycle (02 R36 to R39). -/

namespace Sys2Proof.Machine
-- One theorem at a time: each worker thread reserves memory of its own.
set_option Elab.async false

/-! ## What a change of the holds moves when no law is discarded (06 R126 to R128) -/

/-- The loop, the mark of an onset and the notices replaced. -/
def State.withHold (s : State) (l : LoopSupervisor) (seen : Bool) (n : NoticeBits) : State :=
  { s with loop := l, mon := { s.mon with onsetSeen := seen }, link := { s.link with notices := n } }

theorem State.holdsChanged_frame {s : State} (keeps_law : s.loop.params.timing = .atBoundary ∨ s.loop.state ≠ .closed ∨ s.cyc.cycles = [])
    (before : HoldSet) : ∃ l seen n, s.holdsChanged before = s.withHold l seen n := by
  have same : ∃ l seen n, s = s.withHold l seen n := ⟨s.loop, s.mon.onsetSeen, s.link.notices, rfl⟩
  have moved (l : LoopState) : ∃ r n, r.params = s.loop.params ∧ (s.setLoop l).raise .holdChange = s.withHold r s.mon.onsetSeen n := by
    unfold State.setLoop
    split
    · exact ⟨s.loop, _, rfl, rfl⟩
    · exact ⟨{ s.loop with state := l }, _, rfl, rfl⟩
  unfold State.holdsChanged
  split
  next closed =>
    split
    · obtain ⟨r, n, params, moves⟩ := moved .held
      obtain ⟨seen, marks⟩ : ∃ seen, (s.withHold r s.mon.onsetSeen n).markOnset = s.withHold r seen n := by
        unfold State.markOnset
        split
        · exact ⟨true, rfl⟩
        · exact ⟨s.mon.onsetSeen, rfl⟩
      have onset : s.onset = (match s.loop.params.timing with
          | .immediate => (s.withHold r seen n).abandonLaw
          | .atBoundary => s.withHold r seen n) := by
        unfold State.onset
        dsimp only
        rw [moves, marks]
        exact congrArg (fun p : LoopParams => match p.timing with
          | .immediate => (s.withHold r seen n).abandonLaw
          | .atBoundary => s.withHold r seen n) params
      rw [onset]
      split
      next immediate =>
        have none_left : s.cyc.cycles = [] := by
          rcases keeps_law with boundary | other | empty
          · rw [boundary] at immediate
            exact absurd immediate (by decide)
          · exact absurd closed other
          · exact empty
        refine ⟨r, seen, n, ?_⟩
        unfold State.abandonLaw State.abandon State.cycleAt
        simp only [State.withHold, none_left, List.find?_nil]
        split <;> rfl
      next => exact ⟨r, seen, n, rfl⟩
    · exact same
  next held =>
    split
    · unfold State.release
      obtain ⟨r, n, -, moves⟩ := moved .closed
      rw [moves]
      exact ⟨_, _, _, rfl⟩
    · split
      · exact same
      · exact ⟨_, _, _, rfl⟩
  next => exact same

/-! ## The opening (02 R36) -/

section
variable {s : State} {bank : Bank} {fn : Half}

/-- The state in which a new cycle joins, but for the loop and what reports it. -/
def State.opensInto (s : State) (bank : Bank) : State :=
  { s with
    cyc := { s.cyc with degraded := s.chooseSet.2 }
    intake := { s.intake with sensors := s.intake.sensors.map Sensor.carryOut }
    recon := ((s.setBank bank zeroVector).invalidateOthers s.chooseSet.1).recon
    mon := (s.setBuffer bank (Vector.replicate 6 none)).mon }

theorem State.readyToOpen_eq (keeps_law : s.loop.params.timing = .atBoundary ∨ s.loop.state ≠ .closed ∨ s.cyc.cycles = []) (bank : Bank) :
    ∃ l seen n, s.readyToOpen bank = (s.opensInto bank).withHold l seen n := by
  let cleared := (s.setBank bank zeroVector).setBuffer bank (Vector.replicate 6 none)
  let degraded := ({ cleared with cyc := { cleared.cyc with degraded := s.chooseSet.2 } } : State)
  have same : cleared.loop = s.loop ∧ cleared.cyc = s.cyc := by
    cases bank
    · exact ⟨rfl, rfl⟩
    · exact ⟨rfl, rfl⟩
  obtain ⟨same_loop, same_cyc⟩ := same
  obtain ⟨l, seen, n, holds⟩ := State.holdsChanged_frame (s := degraded) (by
    change cleared.loop.params.timing = _ ∨ cleared.loop.state ≠ _ ∨ cleared.cyc.cycles = _
    rw [same_loop, same_cyc]
    exact keeps_law) cleared.holding
  refine ⟨l, seen, n, ?_⟩
  unfold State.readyToOpen State.setDegraded
  change ((degraded.holdsChanged cleared.holding).carryOutCommits.invalidateOthers s.chooseSet.1) = _
  rw [holds]
  cases bank
  · rfl
  · rfl

theorem State.sensor_opensInto (s : State) (bank : Bank) (i : Fin 6) : (s.opensInto bank).sensor i = (s.sensor i).carryOut :=
  s.sensor_carryOutCommits i

end

/-- Settles O23: the choice of the set by the selection; the record and the markers are those of `State.openCycle_eq`, read in the
state that `State.readyToOpen_eq` names. -/
theorem openingRecord : Obligations.OpeningRecord := by
  intro s bank fn no_discard t index entry set
  have entry_eq : s.currentEntry = entry := by
    unfold State.currentEntry State.degEntry
    rw [State.sensorMask_presence]
  have chosen : s.chooseSet.1 = set ∧ s.chooseSet.2 = decide (s.cyc.selection = .auto ∧ set = none) := by
    unfold State.chooseSet
    cases selection : s.cyc.selection with
    | fixed m => simp [set, selection]
    | auto =>
      rw [entry_eq]
      cases named : entry with
      | none => simp [set, selection, named]
      | some m =>
        by_cases complete : (s.setRec m).state = .complete
        · simp [set, selection, named, complete]
        · simp [set, selection, named, complete]
  obtain ⟨set_eq, degraded_eq⟩ := chosen
  obtain ⟨l, seen, n, ready⟩ := State.readyToOpen_eq (no_discard.imp id .inl) bank
  let v := (s.opensInto bank).withHold l seen n
  let k := v.newCycle bank fn s.chooseSet.1
  have t_eq : t = (v.joinCycle k).openTally bank := by
    change s.openCycle bank fn = _
    rw [State.openCycle_eq, ready]
  have tallied : ∃ c, t = { v.joinCycle k with cal := c } := by
    rw [t_eq]
    unfold State.openTally
    split
    · exact ⟨_, rfl⟩
    · exact ⟨_, rfl⟩
  obtain ⟨c, t_eq⟩ := tallied
  have sensors (i : Fin 6) : v.sensor i = (s.sensor i).carryOut := s.sensor_opensInto bank i
  have page (i : Fin 6) : (v.sensor i).activePage = k.binding[i] := by simp [k, State.newCycle]
  refine ⟨k, ?_, rfl, rfl, rfl, set_eq, rfl, rfl, rfl, rfl, rfl, fun i => ⟨?_, ?_, ?_, ?_, ?_, ?_, ?_⟩, ?_, ?_, ?_, ?_, ?_, ?_⟩
  · rw [t_eq]; rfl
  · simp [k, State.newCycle]
  · rw [← page i, sensors i, Sensor.carryOut_eq]
  · have presence : k.presence[i] = v.isActive i := by simp [k, State.newCycle, State.presence]
    rw [presence, State.isActive, sensors i, Sensor.carryOut_eq]
  · have expected : k.expected[i] = (v.isActive i && (s.cal.running || s.chooseSet.1.isNone || s.participates s.chooseSet.1 i)) := by
      simp only [k, State.newCycle, State.expectedFor, Fin.getElem_fin, Vector.getElem_ofFn, Fin.eta]
      rfl
    have active : v.isActive i = true ↔ (s.sensor i).mode = .active := by
      rw [State.isActive_iff, sensors i, Sensor.carryOut_eq]
    rw [expected, Bool.and_eq_true, active, Bool.or_eq_true, Bool.or_eq_true, Option.isNone_iff_eq_none, State.participates_iff, set_eq, or_assoc]
  · have own : t.sensor i = v.sensor i := by rw [t_eq]; rfl
    rw [own, ← page i]
  · have own : t.sensor i = v.sensor i := by rw [t_eq]; rfl
    rw [own, sensors i, Sensor.carryOut_eq]
  · have own : t.savedOf i = v.savedOf i := by rw [t_eq]; rfl
    have read : v.savedOf i = if ((s.savedOf i).valid && decide (some (s.savedOf i).setTag ≠ s.chooseSet.1)) = true then
        { s.savedOf i with valid := false } else s.savedOf i := by
      cases bank
      · exact Vector.getElem_map ..
      · exact Vector.getElem_map ..
    rw [own, read, ← set_eq]
    by_cases tagged : some (s.savedOf i).setTag = s.chooseSet.1
    · simp [tagged]
    · have other : s.chooseSet.1 ≠ some (s.savedOf i).setTag := fun h => tagged h.symm
      cases valid : (s.savedOf i).valid with
      | true => simp [tagged, other]
      | false => simp [valid]
  · rw [t_eq, ← degraded_eq]; rfl
  · rw [t_eq]
    cases bank
    · rfl
    · rfl
  · rw [t_eq]; rfl
  · rw [t_eq, ← set_eq]; rfl
  · rw [t_eq]; rfl
  · rw [t_eq]
    change counterAdd s.cyc.skipped (skippedBy s.cyc.lastOpened fn) = _
    unfold skippedBy fnSkipped
    cases s.cyc.lastOpened with
    | none => rfl
    | some l => rfl

end Sys2Proof.Machine

/-! Where the frame of an ACTIVE sensor goes (02 R30 to R35): the offer of a frame that arrives at an empty queue, by cases. -/

namespace Sys2Proof.Machine
-- One theorem at a time: each worker thread reserves memory of its own.
set_option Elab.async false

/-! ## Offers -/

section
variable {s : State} {i : Fin 6} {f : Frame}

/-- The frame as it stands in the queue. -/
def Frame.stampedAt (f : Frame) (n : Nat) : Frame := { f with stamp := n }

theorem State.takeInto_arrived (s : State) (k : Cycle) (i : Fin 6) (f : Frame) :
    (s.arrived i f).takeInto k i (f.stampedAt s.intake.arrivals)
      = if k.expected[i] && decide (k.settlement[i] ≠ .unsettled) then
          (s.received i f).updCounters i fun c => { c with duplicate := counterInc c.duplicate }
        else ((s.received i f).updSensor i fun x => x.corrects k.binding[i] f).assign k.bank i (f.stampedAt s.intake.arrivals)
          (((s.received i f).sensor i).corrected k.binding[i] f.slopes) := by
  unfold State.takeInto
  rw [Frame.stampedAt, State.takeHead_arrived]
  simp only [State.correctFrame_eq]
  rfl

theorem State.offerHead_own {k : Cycle} (opens : s.loop.state.closedToCycles = false) (own : s.openCycleOf f.fn = some k) :
    (s.arrived i f).offerHead i = ((s.arrived i f).takeInto k i (f.stampedAt s.intake.arrivals), true) := by
  unfold State.offerHead
  rw [State.queue_arrived]
  have own' : (s.arrived i f).openCycleOf f.fn = some k := own
  simp only [show (s.arrived i f).loop.state.closedToCycles = false from opens, Bool.false_eq_true, if_false, own']
  rfl

theorem State.offerHead_late (opens : s.loop.state.closedToCycles = false) (none_own : s.openCycleOf f.fn = none)
    (late : s.isLate f.fn = true) : (s.arrived i f).offerHead i
      = ((s.received i f).updCounters i fun c => { c with late := counterInc c.late }, true) := by
  unfold State.offerHead
  rw [State.queue_arrived]
  have none_own' : (s.arrived i f).openCycleOf f.fn = none := none_own
  have late' : (s.arrived i f).isLate f.fn = true := late
  simp only [show (s.arrived i f).loop.state.closedToCycles = false from opens, Bool.false_eq_true, if_false, none_own', late', if_true]
  rw [State.takeHead_arrived]

theorem State.offerHead_opens (opens : s.loop.state.closedToCycles = false) (none_own : s.openCycleOf f.fn = none)
    (new : s.isLate f.fn = false) (few : s.cyc.cycles.length < 2) :
    (s.arrived i f).offerHead i = ((s.arrived i f).openWith i (f.stampedAt s.intake.arrivals), true) := by
  unfold State.offerHead
  rw [State.queue_arrived]
  have none_own' : (s.arrived i f).openCycleOf f.fn = none := none_own
  have new' : (s.arrived i f).isLate f.fn = false := new
  have few' : (s.arrived i f).cyc.cycles.length < 2 := few
  simp only [show (s.arrived i f).loop.state.closedToCycles = false from opens, Bool.false_eq_true, if_false, none_own', new', if_pos few']
  rfl

theorem State.offerHead_waits {k k' : Cycle} (opens : s.loop.state.closedToCycles = false) (none_own : s.openCycleOf f.fn = none)
    (new : s.isLate f.fn = false) (two : s.cyc.cycles = [k, k']) (busy : k.isOpen = false ∨ k'.isOpen = false) :
    (s.arrived i f).offerHead i = (s.arrived i f, false) := by
  unfold State.offerHead
  rw [State.queue_arrived]
  have none_own' : (s.arrived i f).openCycleOf f.fn = none := none_own
  have new' : (s.arrived i f).isLate f.fn = false := new
  have two' : (s.arrived i f).cyc.cycles = [k, k'] := two
  have not_all : (List.all [k, k'] Cycle.isOpen) = false := by
    rcases busy with h | h <;> simp [h]
  simp only [show (s.arrived i f).loop.state.closedToCycles = false from opens, Bool.false_eq_true, if_false, none_own', new', two', not_all]
  rfl

theorem State.offerHead_overrun {k k' : Cycle} (opens : s.loop.state.closedToCycles = false) (none_own : s.openCycleOf f.fn = none)
    (new : s.isLate f.fn = false) (two : s.cyc.cycles = [k, k']) (both : k.isOpen = true ∧ k'.isOpen = true) :
    (s.arrived i f).offerHead i = ((s.arrived i f).closeWithMisses k.bank .overrun, false) := by
  unfold State.offerHead
  rw [State.queue_arrived]
  have none_own' : (s.arrived i f).openCycleOf f.fn = none := none_own
  have new' : (s.arrived i f).isLate f.fn = false := new
  have two' : (s.arrived i f).cyc.cycles = [k, k'] := two
  have all : (List.all [k, k'] Cycle.isOpen) = true := by simp [both.1, both.2]
  simp only [show (s.arrived i f).loop.state.closedToCycles = false from opens, Bool.false_eq_true, if_false, none_own', new', two', all, if_true]
  rfl

theorem State.openCycleOf_none {fn : Half} (none_own : ∀ k ∈ s.cyc.cycles, k.isOpen = true → k.fn ≠ fn) : s.openCycleOf fn = none := by
  refine List.find?_eq_none.2 fun k mem => ?_
  simpa using none_own k mem

theorem State.openCycleOf_singleton {k : Cycle} (one : s.cyc.cycles = [k]) (opened : k.isOpen = true) : s.openCycleOf k.fn = some k := by
  unfold State.openCycleOf
  rw [one]
  simp [opened]

/-- A frame of the newer of two open cycles (02 R34). -/
theorem State.openCycleOf_newer {k k' : Cycle} (two : s.cyc.cycles = [k, k']) (other : k.fn ≠ k'.fn) (opened : k'.isOpen = true) :
    s.openCycleOf k'.fn = some k' := by
  unfold State.openCycleOf
  rw [two]
  simp [opened, other]

theorem State.isLate_iff (s : State) (fn : Half) : s.isLate fn = true ↔
    (∃ k ∈ s.cyc.cycles, k.abandoned = false ∧ fnNewer fn k.fn = false) ∨ (∃ c, s.cyc.lastClosed = some c ∧ fnNewer fn c = false) := by
  have closed : (match s.cyc.lastClosed with | none => false | some c => !fnNewer fn c) = true
      ↔ ∃ c, s.cyc.lastClosed = some c ∧ fnNewer fn c = false := by
    cases s.cyc.lastClosed <;> simp
  unfold State.isLate
  rw [Bool.or_eq_true]
  refine or_congr ?_ closed
  simp

theorem fnNewer_self (fn : Half) : fnNewer fn fn = false := by simp [fnNewer]

end

/-! ## A contribution (02 R40, 09 R169) -/

section
variable {s : State} {b : Bank} {i : Fin 6} {k : Cycle} {slopes : List Int}

/-- A job that joins its queue: what it makes of the unit's record, and its cycle's count (04 R77). -/
theorem State.enqueueJob_eq (s : State) (j : Job) : ∃ r, s.enqueueJob j
      = (s.withRecon r).updCycle j.bank (fun k => { k with outstanding := k.outstanding + 1 })
    ∧ (s.recon.inFlight ≠ none → r = { s.recon with queue := s.recon.queue ++ [j] }) := by
  by_cases busy : s.recon.inFlight = none
  · obtain ⟨f, q, starts⟩ := State.startJob_eq ((s.withRecon { s.recon with queue := s.recon.queue ++ [j] }).updCycle j.bank
      fun k => { k with outstanding := k.outstanding + 1 })
    exact ⟨{ s.recon with queue := q, inFlight := f }, starts, fun h => absurd busy h⟩
  · exact ⟨_, State.enqueueJob_of_busy busy j, fun _ => rfl⟩

/-- A sensor's contribution entered into its cycle, with `n` jobs more, a record of the reconstruction unit and the slopes in the
bank's buffer; the sensor's miss count returns to 0. -/
def State.contributed (s : State) (b : Bank) (i : Fin 6) (slopes : List Int) (n : Nat) (r : Reconstruction) : State :=
  (({ s with
    recon := r
    mon := (s.setBuffer b ((s.buffer b).set i (some slopes))).mon } : State).updCycle b fun c =>
      { c with settlement := c.settlement.set i .contributed, outstanding := c.outstanding + n }).updSensor i
    fun x => { x with missCount := 0 }

/-- The slopes of a contribution enter the buffer, and an ACTIVE sensor's miss count returns to 0 (09 R169, 01 R16). -/
def State.buffered (s : State) (b : Bank) (i : Fin 6) (slopes : List Int) : State :=
  let v := s.setBuffer b ((s.buffer b).set i (some slopes))
  if v.isActive i then v.updSensor i fun x => { x with missCount := 0 } else v

theorem State.buffered_active (active : s.isActive i = true) : s.buffered b i slopes
    = (s.setBuffer b ((s.buffer b).set i (some slopes))).updSensor i fun x => { x with missCount := 0 } := by
  refine if_pos ?_
  cases b
  · exact active
  · exact active

theorem State.contribute_eq (bound : s.cycleAt b = some k) (active : s.isActive i = true) : ∃ r,
    s.contribute b i slopes = (((s.contributed b i slopes (if s.participates k.set i then 1 else 0) r).handSettlement b i
      (some slopes)).checkComplete b)
    ∧ (s.participates k.set i = false → r = s.recon)
    ∧ (s.participates k.set i = true → s.recon.inFlight ≠ none → r = { s.recon with
        queue := s.recon.queue ++ [{ kind := .contribution slopes, bank := b, sensor := i }] }) := by
  let settled := s.setSettlement b i .contributed
  let job : Job := { kind := .contribution slopes, bank := b, sensor := i }
  have steps : s.contribute b i slopes = (((if s.participates k.set i then settled.enqueueJob job else settled).buffered b i slopes
      ).handSettlement b i (some slopes)).checkComplete b := by
    unfold State.contribute
    rw [bound]
    rfl
  rw [steps]
  cases part : s.participates k.set i with
  | false =>
    refine ⟨s.recon, ?_, fun _ => rfl, fun h => absurd h Bool.false_ne_true⟩
    rw [if_neg Bool.false_ne_true, if_neg Bool.false_ne_true, State.buffered_active (s := settled) active]
    cases b
    · rfl
    · rfl
  | true =>
    obtain ⟨r, queued, busy⟩ := settled.enqueueJob_eq job
    let entered := (s.withRecon r).updCycle b fun c =>
      { c with settlement := c.settlement.set i .contributed, outstanding := c.outstanding + 1 }
    have merged : settled.enqueueJob job = entered :=
      queued.trans (State.updCycle_updCycle (s.withRecon r) b (fun c => { c with settlement := c.settlement.set i .contributed })
        fun c => { c with outstanding := c.outstanding + 1 })
    refine ⟨r, ?_, fun h => absurd h.symm Bool.false_ne_true, fun _ => busy⟩
    rw [if_pos rfl, if_pos rfl, merged, State.buffered_active (s := entered) active]
    cases b
    · rfl
    · rfl

end

end Sys2Proof.Machine

/-! What the offer of a frame that arrives at an empty queue leaves (02 R30 to R35, R40, R44). -/

namespace Sys2Proof.Machine
-- One theorem at a time: each worker thread reserves memory of its own.
set_option Elab.async false

/-! ## Assignment (02 R31, R34) -/

section
variable {s t : State} {b : Bank} {i : Fin 6} {f : Frame} {k : Cycle} {slopes : List Int}

theorem State.skipAhead_singleton (one : s.cyc.cycles = [k]) : s.skipAhead k.bank i = s := by
  unfold State.skipAhead State.olderBanks
  simp [one]

theorem State.skipAhead_newer {k' : Cycle} (two : s.cyc.cycles = [k, k']) (other : k.bank ≠ k'.bank) :
    s.skipAhead k'.bank i = s.markMissed k.bank i false true := by
  unfold State.skipAhead State.olderBanks
  simp [two, other]

theorem State.assign_contributes (skip : s.skipAhead b i = t) (bound : t.cycleAt b = some k) (awaited : k.awaits i = true)
    (used : (t.sensor i).slopesUnused f = false) : s.assign b i f slopes = t.contribute b i slopes := by
  unfold State.assign
  rw [skip]
  simp only [bound, awaited, used, if_true, Bool.false_eq_true, if_false]

theorem State.assign_excused (skip : s.skipAhead b i = t) (bound : t.cycleAt b = some k) (awaited : k.awaits i = true)
    (unused : (t.sensor i).slopesUnused f = true) : s.assign b i f slopes = t.markMissed b i true true := by
  unfold State.assign
  rw [skip]
  simp only [bound, awaited, unused, if_true]

theorem State.assign_not_awaited (skip : s.skipAhead b i = t) (bound : t.cycleAt b = some k) (done : k.awaits i = false) :
    s.assign b i f slopes = t := by
  unfold State.assign
  rw [skip]
  simp only [bound, done, Bool.false_eq_true, if_false]

/-- A cycle with a contribution entered and `n` jobs more. -/
def Cycle.contributedBy (k : Cycle) (i : Fin 6) (n : Nat) : Cycle :=
  { k with settlement := k.settlement.set i .contributed, outstanding := k.outstanding + n }

theorem State.cycleAt_contributed (bound : s.cycleAt b = some k) (n : Nat) (r : Reconstruction) :
    (s.contributed b i slopes n r).cycleAt b = some (k.contributedBy i n) :=
  State.cycleAt_updCycle (s := { s with recon := r, mon := (s.setBuffer b ((s.buffer b).set i (some slopes))).mon }) bound rfl

/-- In an unmarked cycle that awaits others the contribution is entered and nothing follows. -/
theorem State.contribute_more (bound : s.cycleAt b = some k) (active : s.isActive i = true) (unmarked : k.calMark = false)
    (others : ∃ j, j ≠ i ∧ k.awaits j = true) : ∃ r,
    s.contribute b i slopes = s.contributed b i slopes (if s.participates k.set i then 1 else 0) r
    ∧ (s.participates k.set i = false → r = s.recon)
    ∧ (s.participates k.set i = true → s.recon.inFlight ≠ none → r = { s.recon with
        queue := s.recon.queue ++ [{ kind := .contribution slopes, bank := b, sensor := i }] }) := by
  obtain ⟨r, enters, apart, joins⟩ := State.contribute_eq (slopes := slopes) bound active
  have bound' := State.cycleAt_contributed (i := i) (slopes := slopes) bound (if s.participates k.set i then 1 else 0) r
  have awaiting : ∃ j, (k.contributedBy i (if s.participates k.set i then 1 else 0)).awaits j = true :=
    Cycle.exists_awaits_withSettlement others .contributed
  rw [State.handSettlement_unmarked bound' unmarked, State.checkComplete_of_awaiting bound' awaiting] at enters
  exact ⟨r, enters, apart, joins⟩

end

/-! ## Frames that no cycle takes (02 R30 cases 1 and 3, R33) -/

section
variable {s : State} {i : Fin 6} {f : Frame} {k : Cycle}

/-- An update of a frame's counters keeps what the step's end looks at. -/
theorem State.settle_received (quiet : s.quiet = true) (g : Sensor → Sensor) :
    ((s.received i f).updSensor i g).settle .nothing = (s.received i f).updSensor i g := by
  obtain ⟨reoffer, no_pass, jobs⟩ := (State.quiet_iff s).1 quiet
  exact State.settle_of_calm (s := s) reoffer no_pass jobs (s.droppedRecon_frame i f).1 (s.droppedRecon_frame i f).2 rfl

/-- A frame that is taken and changes its sensor alone ends the step. -/
theorem State.settle_headOf_received (quiet : s.quiet = true) {g : Sensor → Sensor} (emptied : ∀ x, (g x).queue = x.queue)
    (offers : (s.arrived i f).offerHead i = ((s.received i f).updSensor i g, true)) :
    (s.arrived i f).settle (.headOf i) = (s.received i f).updSensor i g := by
  obtain ⟨reoffer, no_pass, -⟩ := (State.quiet_iff s).1 quiet
  rw [State.settle_headOf_taken (a := s.arrived i f) reoffer no_pass offers reoffer no_pass
    (by rw [State.sensor_updSensor, emptied, State.sensor_received]; rfl), State.settle_received quiet]

/-- A late frame is taken and counted (02 R30 case 3). -/
theorem State.settle_late (quiet : s.quiet = true) (opens : s.loop.state.closedToCycles = false)
    (none_own : ∀ k ∈ s.cyc.cycles, k.isOpen = true → k.fn ≠ f.fn) (late : s.isLate f.fn = true) :
    (s.arrived i f).settle (.headOf i) = (s.received i f).updSensor i fun x =>
      { x with counters := { x.counters with late := counterInc x.counters.late } } :=
  State.settle_headOf_received quiet (fun _ => rfl) (State.offerHead_late opens (State.openCycleOf_none none_own) late)

/-- The second frame of a sensor in one exposure (02 R31). -/
theorem State.settle_duplicate (quiet : s.quiet = true) (opens : s.loop.state.closedToCycles = false) (one : s.cyc.cycles = [k])
    (opened : k.isOpen = true) (own : k.fn = f.fn) (expected : k.expected[i] = true) (settled : k.settlement[i] ≠ .unsettled) :
    (s.arrived i f).settle (.headOf i) = (s.received i f).updSensor i fun x =>
      { x with counters := { x.counters with duplicate := counterInc x.counters.duplicate } } := by
  refine State.settle_headOf_received quiet (fun _ => rfl) ?_
  rw [State.offerHead_own opens (own ▸ State.openCycleOf_singleton one opened), State.takeInto_arrived, if_pos (by
    rw [expected, Bool.true_and]
    exact decide_eq_true settled)]
  rfl

/-- A sensor that the cycle of its exposure does not expect gives its statistics alone (02 R31). -/
theorem State.settle_unexpected (quiet : s.quiet = true) (opens : s.loop.state.closedToCycles = false) (one : s.cyc.cycles = [k])
    (opened : k.isOpen = true) (own : k.fn = f.fn) (unexpected : k.expected[i] = false) :
    (s.arrived i f).settle (.headOf i) = (s.received i f).updSensor i fun x => x.corrects k.binding[i] f := by
  refine State.settle_headOf_received quiet (fun x => by rw [Sensor.corrects_eq]) ?_
  let corrected := (s.received i f).updSensor i fun x => x.corrects k.binding[i] f
  have one' : corrected.cyc.cycles = [k] := one
  rw [State.offerHead_own opens (own ▸ State.openCycleOf_singleton one opened), State.takeInto_arrived, if_neg (by simp [unexpected]),
    State.assign_not_awaited (State.skipAhead_singleton one') (State.cycleAt_singleton one' rfl) (by simp [Cycle.awaits, unexpected])]

/-- A new exposure waits while both banks are bound and one of the cycles is no longer open (02 R33). -/
theorem State.settle_waits {k' : Cycle} (quiet : s.quiet = true) (opens : s.loop.state.closedToCycles = false)
    (none_own : ∀ k ∈ s.cyc.cycles, k.isOpen = true → k.fn ≠ f.fn) (new : s.isLate f.fn = false) (two : s.cyc.cycles = [k, k'])
    (busy : k.isOpen = false ∨ k'.isOpen = false) : (s.arrived i f).settle (.headOf i) = s.arrived i f := by
  obtain ⟨reoffer, no_pass, jobs⟩ := (State.quiet_iff s).1 quiet
  rw [State.settle_headOf_left (a := s.arrived i f) reoffer no_pass
    (State.offerHead_waits opens (State.openCycleOf_none none_own) new two busy) reoffer no_pass]
  exact State.settle_of_calm (s := s) reoffer no_pass jobs rfl rfl rfl

end

/-! ## A frame that contributes (02 R31, R40) -/

section
variable {s : State} {i : Fin 6} {f : Frame} {k : Cycle}

/-- The frame taken and its slopes corrected against a page. -/
def State.correctedFrame (s : State) (i : Fin 6) (f : Frame) (p : Fin 2) : State :=
  (s.received i f).updSensor i fun x => x.corrects p f

theorem State.sensor_correctedFrame (s : State) (i : Fin 6) (f : Frame) (p : Fin 2) :
    (s.correctedFrame i f p).sensor i = ((s.sensor i).received f).corrects p f := by
  rw [State.correctedFrame, State.sensor_updSensor, State.sensor_received]

theorem Sensor.slopesUnused_congr {x y : Sensor} (config : y.config = x.config) (f : Frame) : y.slopesUnused f = x.slopesUnused f := by
  unfold Sensor.slopesUnused
  rw [config]

theorem Cycle.not_draining_of_open (opened : k.isOpen = true) : k.state ≠ .draining := by
  rw [((k.isOpen_iff).1 opened).2]
  decide

/-- The fields that the frame and its correction leave to the sensor. -/
theorem State.correctedFrame_frame (s : State) (i : Fin 6) (f : Frame) (p : Fin 2) :
    ((s.correctedFrame i f p).sensor i).mode = (s.sensor i).mode ∧ ((s.correctedFrame i f p).sensor i).config = (s.sensor i).config
      ∧ ((s.correctedFrame i f p).sensor i).queue = [] ∧ ((s.correctedFrame i f p).sensor i).missCount = (s.sensor i).missCount
      ∧ ((s.correctedFrame i f p).sensor i).flags = (s.sensor i).flags := by
  rw [State.sensor_correctedFrame, Sensor.corrects_eq, Sensor.received_eq]
  exact ⟨rfl, rfl, rfl, rfl, rfl⟩

theorem Sensor.corrects_taken (x : Sensor) (p : Fin 2) (f : Frame) :
    ((x.received f).corrects p f).counters.taken = counterInc x.counters.taken
      ∧ ((x.received f).corrects p f).counters.misses = x.counters.misses := by
  rw [Sensor.received_eq]
  unfold Sensor.corrects
  split
  · exact ⟨rfl, rfl⟩
  · exact ⟨rfl, rfl⟩

theorem Sensor.corrected_received (x : Sensor) (p : Fin 2) (f : Frame) (raw : List Int) : (x.received f).corrected p raw = x.corrected p raw := by
  rw [Sensor.received_eq]
  rfl

/-- The end of a step that leaves the calm state `u`: nothing is left to be done, or a job and a transfer begin. -/
def State.EndsAt (t u : State) : Prop :=
  (∃ f q a, t = u.withJobs f q a) ∧ (u.jobsQuiet = true → t = u)

theorem State.endsAt_of_calm {u : State} (reoffer : u.cyc.reoffer = false) (no_pass : u.canPass = false) :
    (u.settle .nothing).EndsAt u :=
  ⟨State.settle_calm_eq reoffer no_pass, fun jobs => State.settle_of_calm (s := u) reoffer no_pass jobs rfl rfl rfl⟩

/-- The slopes of a frame that the cycle awaits contribute, and others are still awaited. -/
theorem State.settle_contributes (quiet : s.quiet = true) (opens : s.loop.state.closedToCycles = false)
    (active : (s.sensor i).mode = .active) (used : (s.sensor i).slopesUnused f = false) (one : s.cyc.cycles = [k])
    (opened : k.isOpen = true) (own : k.fn = f.fn) (awaited : k.awaits i = true) (unmarked : k.calMark = false)
    (others : ∃ j, j ≠ i ∧ k.awaits j = true) : ∃ r,
    ((s.arrived i f).settle (.headOf i)).EndsAt ((s.correctedFrame i f k.binding[i]).contributed k.bank i
      ((s.sensor i).corrected k.binding[i] f.slopes) (if s.participates k.set i then 1 else 0) r)
    ∧ (s.participates k.set i = false → r = s.droppedRecon i f)
    ∧ (s.participates k.set i = true → s.recon.inFlight ≠ none → r = { s.droppedRecon i f with
        queue := s.recon.queue ++ [{ kind := .contribution ((s.sensor i).corrected k.binding[i] f.slopes), bank := k.bank, sensor := i }] }) := by
  obtain ⟨reoffer, no_pass, -⟩ := (State.quiet_iff s).1 quiet
  obtain ⟨-, expected, unsettled⟩ := (k.awaits_iff i).1 awaited
  obtain ⟨mode, config, queue, -, -⟩ := s.correctedFrame_frame i f k.binding[i]
  obtain ⟨flight, queued⟩ := s.droppedRecon_frame i f
  let v := s.correctedFrame i f k.binding[i]
  let slopes := (s.sensor i).corrected k.binding[i] f.slopes
  have one' : v.cyc.cycles = [k] := one
  obtain ⟨r, enters, apart, joins⟩ := State.contribute_more (s := v) (slopes := slopes) (State.cycleAt_singleton one' rfl)
    (State.isActive_eq_true (mode.trans active)) unmarked others
  let u := v.contributed k.bank i slopes (if s.participates k.set i then 1 else 0) r
  have assigned : v.assign k.bank i (f.stampedAt s.intake.arrivals) slopes = u :=
    (State.assign_contributes (State.skipAhead_singleton one') (State.cycleAt_singleton one' rfl) awaited
      ((Sensor.slopesUnused_congr config f).trans used)).trans enters
  have offers : (s.arrived i f).offerHead i = (u, true) := by
    rw [State.offerHead_own opens (own ▸ State.openCycleOf_singleton one opened), State.takeInto_arrived,
      if_neg (by simp [unsettled]), State.sensor_received, Sensor.corrected_received]
    exact congrArg (Prod.mk · true) assigned
  have cycles : u.cyc.cycles = [k.contributedBy i (if s.participates k.set i then 1 else 0)] :=
    State.cycles_updCycle (s := { v with recon := r, mon := (v.setBuffer k.bank ((v.buffer k.bank).set i (some slopes))).mon }) one' rfl _
  have no_pass' : u.canPass = false := State.canPass_of_open cycles (Cycle.not_draining_of_open opened)
  have emptied : (u.sensor i).queue = [] := by
    simp only [u, State.contributed]
    rw [State.sensor_updSensor]
    exact queue
  refine ⟨r, ?_, apart, fun part busy => ?_⟩
  · rw [State.settle_headOf_taken (a := s.arrived i f) reoffer no_pass offers reoffer no_pass' emptied]
    exact State.endsAt_of_calm reoffer no_pass'
  · rw [joins part (by change (s.droppedRecon i f).inFlight ≠ none; rw [flight]; exact busy)]
    change ({ s.droppedRecon i f with queue := (s.droppedRecon i f).queue ++ _ } : Reconstruction) = _
    rw [queued]

end

end Sys2Proof.Machine

/-! Skip-ahead, OVERRUN and excused misses at the offer of a frame (02 R33, R34, R41, R46; 01 R22). -/

namespace Sys2Proof.Machine
-- One theorem at a time: each worker thread reserves memory of its own.
set_option Elab.async false

/-! ## Two cycles -/

section
variable {s : State} {i : Fin 6} {f : Frame} {k k' : Cycle}

theorem State.cycleAt_older (two : s.cyc.cycles = [k, k']) : s.cycleAt k.bank = some k := by
  unfold State.cycleAt
  rw [two]
  simp

theorem State.cycleAt_newer (two : s.cyc.cycles = [k, k']) (other : k.bank ≠ k'.bank) : s.cycleAt k'.bank = some k' := by
  unfold State.cycleAt
  rw [two]
  simp [other]

theorem State.cycles_updCycle_older (two : s.cyc.cycles = [k, k']) (other : k.bank ≠ k'.bank) (g : Cycle → Cycle) :
    (s.updCycle k.bank g).cyc.cycles = [g k, k'] := by
  unfold State.updCycle
  simp [two, other.symm]

theorem State.cycles_updCycle_newer (two : s.cyc.cycles = [k, k']) (other : k.bank ≠ k'.bank) (g : Cycle → Cycle) :
    (s.updCycle k'.bank g).cyc.cycles = [k, g k'] := by
  unfold State.updCycle
  simp [two, other]

/-- A frame of the newer of two open cycles that await its sensor: missed in the older one, then contributed (02 R34). -/
theorem State.settle_skips (quiet : s.quiet = true) (opens : s.loop.state.closedToCycles = false)
    (active : (s.sensor i).mode = .active) (used : (s.sensor i).slopesUnused f = false) (two : s.cyc.cycles = [k, k'])
    (apart : k.bank ≠ k'.bank) (opened : k.isOpen = true) (opened' : k'.isOpen = true) (other : k.fn ≠ f.fn) (own : k'.fn = f.fn)
    (awaited : k.awaits i = true) (awaited' : k'.awaits i = true) (unmarked : k.calMark = false) (unmarked' : k'.calMark = false)
    (others : ∃ j, j ≠ i ∧ k.awaits j = true) (others' : ∃ j, j ≠ i ∧ k'.awaits j = true)
    (policy : (s.sensor i).config.policy = .omit) (below : countInc255 (s.sensor i).missCount < (s.sensor i).config.kMiss) : ∃ r,
    ((s.arrived i f).settle (.headOf i)).EndsAt ((((s.correctedFrame i f k'.binding[i]).setSettlement k.bank i (.omitted false)).updSensor i
      Sensor.missed).contributed k'.bank i ((s.sensor i).corrected k'.binding[i] f.slopes) (if s.participates k'.set i then 1 else 0) r) := by
  obtain ⟨reoffer, no_pass, -⟩ := (State.quiet_iff s).1 quiet
  obtain ⟨-, -, unsettled⟩ := (k'.awaits_iff i).1 awaited'
  obtain ⟨mode, config, queue, missCount, -⟩ := s.correctedFrame_frame i f k'.binding[i]
  let v := s.correctedFrame i f k'.binding[i]
  let slopes := (s.sensor i).corrected k'.binding[i] f.slopes
  let w := (v.setSettlement k.bank i (.omitted false)).updSensor i Sensor.missed
  have two_v : v.cyc.cycles = [k, k'] := two
  have skipped : v.skipAhead k'.bank i = w := by
    rw [State.skipAhead_newer two_v apart]
    exact State.markMissed_omitted (State.cycleAt_older two_v) awaited unmarked
      (State.substitutes_of_omit ((congrArg SensorConfig.policy config).trans policy)) (mode.trans active)
      (by rw [missCount, config]; exact below) (.inr others)
  have two_w : w.cyc.cycles = [k.withSettlement i (.omitted false), k'] := State.cycles_updCycle_older two_v apart _
  have apart_w : (k.withSettlement i (.omitted false)).bank ≠ k'.bank := apart
  have bound_w := State.cycleAt_newer two_w apart_w
  have sensor_w : w.sensor i = (v.sensor i).missed := State.sensor_updSensor (s := v.setSettlement k.bank i (.omitted false)) i _
  obtain ⟨r, enters, -, -⟩ := State.contribute_more (s := w) (slopes := slopes) bound_w
    (State.isActive_eq_true (by rw [sensor_w]; exact mode.trans active)) unmarked' others'
  let u := w.contributed k'.bank i slopes (if s.participates k'.set i then 1 else 0) r
  have assigned : v.assign k'.bank i (f.stampedAt s.intake.arrivals) slopes = u :=
    (State.assign_contributes skipped bound_w awaited'
      ((Sensor.slopesUnused_congr (by rw [sensor_w]; exact config) f).trans used)).trans enters
  have offers : (s.arrived i f).offerHead i = (u, true) := by
    rw [State.offerHead_own opens (own ▸ State.openCycleOf_newer two (own ▸ other) opened'), State.takeInto_arrived,
      if_neg (by simp [unsettled]), State.sensor_received, Sensor.corrected_received]
    exact congrArg (Prod.mk · true) assigned
  have cycles : u.cyc.cycles = [k.withSettlement i (.omitted false), k'.contributedBy i (if s.participates k'.set i then 1 else 0)] :=
    State.cycles_updCycle_newer
      (s := { w with recon := r, mon := (w.setBuffer k'.bank ((w.buffer k'.bank).set i (some slopes))).mon }) two_w apart_w _
  have no_pass' : u.canPass = false := State.canPass_of_open cycles (Cycle.not_draining_of_open opened)
  have emptied : (u.sensor i).queue = [] := by
    simp only [u, State.contributed]
    rw [State.sensor_updSensor]
    change (w.sensor i).queue = []
    rw [sensor_w]
    exact queue
  refine ⟨r, ?_⟩
  rw [State.settle_headOf_taken (a := s.arrived i f) reoffer no_pass offers reoffer no_pass' emptied]
  exact State.endsAt_of_calm reoffer no_pass'

/-- A new exposure that finds two open cycles closes the older one and waits (02 R33, R46). -/
theorem State.settle_overrun (quiet : s.quiet = true) (opens : s.loop.state.closedToCycles = false) (two : s.cyc.cycles = [k, k'])
    (apart : k.bank ≠ k'.bank) (opened : k.isOpen = true) (opened' : k'.isOpen = true) (new : s.isLate f.fn = false)
    (unmarked : k.calMark = false) (jobs_left : 0 < k.outstanding)
    (below : ∀ j, k.awaits j = true → (s.sensor j).mode = .active ∧ countInc255 (s.sensor j).missCount < (s.sensor j).config.kMiss
      ∧ (s.sensor j).config.policy = .omit) :
    (s.arrived i f).settle (.headOf i) = ((s.arrived i f).allMissed k.bank k allSensors).closed k.bank k .overrun := by
  obtain ⟨reoffer, no_pass, jobs⟩ := (State.quiet_iff s).1 quiet
  let a := s.arrived i f
  have two_a : a.cyc.cycles = [k, k'] := two
  have none_own : s.openCycleOf f.fn = none := State.openCycleOf_none fun c mem live own => by
    have late := (s.isLate_iff f.fn).2 (.inl ⟨c, mem, ((c.isOpen_iff).1 live).1, own ▸ fnNewer_self f.fn⟩)
    rw [new] at late
    exact Bool.false_ne_true late
  have frame (j : Fin 6) : (a.sensor j).mode = (s.sensor j).mode ∧ (a.sensor j).missCount = (s.sensor j).missCount
      ∧ (a.sensor j).config = (s.sensor j).config := by
    simp only [a, State.arrived]
    by_cases same : j = i
    · subst same
      rw [State.sensor_updSensor, Sensor.compared_eq]
      exact ⟨rfl, rfl, rfl⟩
    · rw [State.sensor_updSensor_ne _ _ same]
      exact ⟨rfl, rfl, rfl⟩
  have closes : a.closeWithMisses k.bank .overrun = (a.allMissed k.bank k allSensors).closed k.bank k .overrun :=
    State.closeWithMisses_of_omit (State.cycleAt_older two_a) unmarked (fun j waits => by
      obtain ⟨mode, count, config⟩ := frame j
      rw [mode, count, config]
      exact below j waits) .overrun
  have cycles : ((a.allMissed k.bank k allSensors).closed k.bank k .overrun).cyc.cycles
      = [{ k with state := .draining, deadline := none, closeReason := some .overrun
                  settlement := k.missedOf allSensors k.settlement }, k'] := by
    have missed : (a.allMissed k.bank k allSensors).cyc.cycles = [{ k with settlement := k.missedOf allSensors k.settlement }, k'] :=
      State.cycles_updCycle_older two_a apart _
    exact State.cycles_updCycle_older (k := { k with settlement := k.missedOf allSensors k.settlement }) missed apart _
  have no_pass' : ((a.allMissed k.bank k allSensors).closed k.bank k .overrun).canPass = false := by
    simp [State.canPass, cycles, Nat.ne_of_gt jobs_left]
  rw [State.settle_headOf_left (a := a) reoffer no_pass (State.offerHead_overrun opens none_own new two ⟨opened, opened'⟩)
    (by rw [closes]; exact reoffer) (by rw [closes]; exact no_pass'), closes]
  exact State.settle_of_calm (s := s) reoffer no_pass' jobs rfl rfl rfl

end

end Sys2Proof.Machine

/-! A frame that opens a cycle, and one whose slopes are unused (02 R33, R36, R41; 01 R22). -/

namespace Sys2Proof.Machine
-- One theorem at a time: each worker thread reserves memory of its own.
set_option Elab.async false

/-! ## The opening of the only cycle -/

section
variable {s t : State} {i : Fin 6} {f : Frame} {k : Cycle}

/-- The choice of a set looks at the sensors' states, the sets and the selection. -/
theorem State.chooseSet_congr (modes : ∀ j, (t.sensor j).mode = (s.sensor j).mode) (cyc : t.cyc = s.cyc) (mem : t.mem = s.mem) :
    t.chooseSet = s.chooseSet := by
  have presence : t.presence = s.presence := by
    unfold State.presence State.isActive
    simp only [modes]
  unfold State.chooseSet State.currentEntry State.degEntry State.setRec
  rw [presence, cyc, mem]

theorem State.expectedFor_congr (modes : ∀ j, (t.sensor j).mode = (s.sensor j).mode) (mem : t.mem = s.mem) (cal : t.cal = s.cal)
    (set : SetId) : t.expectedFor set = s.expectedFor set := by
  unfold State.expectedFor State.isActive State.participates State.setRec
  simp only [modes, mem, cal]

theorem State.mode_received (s : State) (i : Fin 6) (f : Frame) (j : Fin 6) : ((s.received i f).sensor j).mode = (s.sensor j).mode := by
  by_cases same : j = i
  · subst same
    rw [State.sensor_received, Sensor.received_eq]
  · rw [State.received, State.sensor_updSensor_ne _ _ same]
    rfl

/-- Outside a measuring run no tally opens (08 R153). -/
theorem State.openTally_of_no_run (still : s.cal.running = false) (b : Bank) : s.openTally b = s := by
  unfold State.openTally
  rw [if_neg (by simp [Calibration.measuring, still])]

/-- A frame opens a cycle, is corrected against its binding and assigned to it (02 R33, R36). -/
theorem State.openWith_of {o : State} {b : Bank} (free : s.freeBank = b) (opened : (s.takeHead i f).openCycle b f.fn = o)
    (bound : o.cycleAt b = some k) : s.openWith i f
      = ((o.correctFrame i k.binding[i] f).assign b i f ((o.sensor i).corrected k.binding[i] f.slopes)).checkComplete b := by
  unfold State.openWith
  simp only [free, opened, bound]

/-- The record of the cycle that a frame opens in bank A. -/
def State.firstCycle (s : State) (i : Fin 6) (f : Frame) : Cycle :=
  ((s.received i f).opensInto .bankA).newCycle .bankA f.fn s.chooseSet.1

/-- The state with that cycle opened. -/
def State.openedBy (s : State) (i : Fin 6) (f : Frame) (l : LoopSupervisor) (seen : Bool) (n : NoticeBits) : State :=
  (((s.received i f).opensInto .bankA).withHold l seen n).joinCycle (s.firstCycle i f)

theorem State.expected_firstCycle (s : State) (i : Fin 6) (f : Frame) : (s.firstCycle i f).expected = s.expectedFor s.chooseSet.1 :=
  State.expectedFor_congr (s := s) (t := (s.received i f).opensInto .bankA) (fun j => by
    rw [State.sensor_opensInto, Sensor.carryOut_eq]
    exact s.mode_received i f j) rfl rfl _

/-- The frame opens the only cycle and contributes to it; others are awaited. -/
theorem State.settle_opens (quiet : s.quiet = true) (opens : s.loop.state.closedToCycles = false) (active : (s.sensor i).mode = .active)
    (used : (s.sensor i).slopesUnused f = false) (none_left : s.cyc.cycles = []) (new : s.isLate f.fn = false)
    (expected : (s.expectedFor s.chooseSet.1)[i] = true) (others : ∃ j, j ≠ i ∧ (s.expectedFor s.chooseSet.1)[j] = true)
    (still : s.cal.running = false) : ∃ l seen n r slopes,
    ((s.arrived i f).settle (.headOf i)).EndsAt (((s.openedBy i f l seen n).updSensor i fun x =>
      x.corrects (s.firstCycle i f).binding[i] f).contributed .bankA i slopes (if s.participates s.chooseSet.1 i then 1 else 0) r) := by
  obtain ⟨reoffer, no_pass, -⟩ := (State.quiet_iff s).1 quiet
  let p := s.received i f
  let k := s.firstCycle i f
  have none_p : p.cyc.cycles = [] := none_left
  obtain ⟨l, seen, n, ready⟩ := State.readyToOpen_eq (s := p) (.inr (.inr none_p)) .bankA
  let o := s.openedBy i f l seen n
  have chosen : p.chooseSet = s.chooseSet := State.chooseSet_congr (s.mode_received i f) rfl rfl
  have opened : p.openCycle .bankA f.fn = o := by
    rw [State.openCycle_eq, ready, chosen]
    exact State.openTally_of_no_run (s := o) still .bankA
  have one_o : o.cyc.cycles = [k] := congrArg (· ++ [k]) none_p
  let w := o.updSensor i fun x => x.corrects k.binding[i] f
  have one_w : w.cyc.cycles = [k] := one_o
  have bound_w : w.cycleAt .bankA = some k := State.cycleAt_singleton one_w rfl
  have sensor_o : o.sensor i = ((s.sensor i).received f).carryOut := by
    change (p.opensInto .bankA).sensor i = _
    rw [State.sensor_opensInto, State.sensor_received]
  have sensor_w : w.sensor i = (((s.sensor i).received f).carryOut).corrects k.binding[i] f := by
    rw [State.sensor_updSensor, sensor_o]
  have fields : (w.sensor i).mode = (s.sensor i).mode ∧ (w.sensor i).config = (s.sensor i).config ∧ (w.sensor i).queue = [] := by
    rw [sensor_w, Sensor.corrects_eq, Sensor.carryOut_eq, Sensor.received_eq]
    exact ⟨rfl, rfl, rfl⟩
  obtain ⟨mode, config, queue⟩ := fields
  have awaits (j : Fin 6) (named : (s.expectedFor s.chooseSet.1)[j] = true) : k.awaits j = true := by
    refine (k.awaits_iff j).2 ⟨rfl, ?_, ?_⟩
    · rw [← named]
      exact congrArg (fun v : Vector Bool 6 => v[j]) (s.expected_firstCycle i f)
    · exact Vector.getElem_replicate ..
  obtain ⟨j, apart, named⟩ := others
  have more : ∃ j, j ≠ i ∧ k.awaits j = true := ⟨j, apart, awaits j named⟩
  let slopes := (o.sensor i).corrected k.binding[i] f.slopes
  obtain ⟨r, enters, -, -⟩ := State.contribute_more (s := w) (slopes := slopes) bound_w (State.isActive_eq_true (mode.trans active)) still more
  let u := w.contributed .bankA i slopes (if s.participates s.chooseSet.1 i then 1 else 0) r
  have assigned : w.assign .bankA i (f.stampedAt s.intake.arrivals) slopes = u :=
    (State.assign_contributes (State.skipAhead_singleton (k := k) one_w) bound_w (awaits i expected)
      ((Sensor.slopesUnused_congr config f).trans used)).trans enters
  have bound_u : u.cycleAt .bankA = some (k.contributedBy i (if s.participates s.chooseSet.1 i then 1 else 0)) :=
    State.cycleAt_contributed bound_w _ r
  have checked : u.checkComplete .bankA = u :=
    State.checkComplete_of_awaiting bound_u (Cycle.exists_awaits_withSettlement more .contributed)
  have opens_with : (s.arrived i f).openWith i (f.stampedAt s.intake.arrivals) = u := by
    have free : (s.arrived i f).freeBank = .bankA := by
      unfold State.freeBank State.cycleAt
      rw [show (s.arrived i f).cyc.cycles = [] from none_left]
      rfl
    have bound_o : o.cycleAt .bankA = some k := State.cycleAt_singleton one_o rfl
    rw [State.openWith_of (o := o) free (by rw [Frame.stampedAt, State.takeHead_arrived]; exact opened) bound_o, State.correctFrame_eq]
    change (w.assign .bankA i (f.stampedAt s.intake.arrivals) slopes).checkComplete .bankA = u
    rw [assigned, checked]
  have offers : (s.arrived i f).offerHead i = (u, true) := by
    rw [State.offerHead_opens opens (State.openCycleOf_none (by simp [none_left])) new (by simp [none_left]), opens_with]
  have cycles : u.cyc.cycles = [k.contributedBy i (if s.participates s.chooseSet.1 i then 1 else 0)] :=
    State.cycles_updCycle (s := { w with recon := r, mon := (w.setBuffer .bankA ((w.buffer .bankA).set i (some slopes))).mon }) one_w rfl _
  have no_pass' : u.canPass = false := State.canPass_of_open cycles (Cycle.not_draining_of_open (k := k) rfl)
  have emptied : (u.sensor i).queue = [] := by
    simp only [u, State.contributed]
    rw [State.sensor_updSensor]
    exact queue
  refine ⟨l, seen, n, r, slopes, ?_⟩
  rw [State.settle_headOf_taken (a := s.arrived i f) reoffer no_pass offers reoffer no_pass' emptied]
  exact State.endsAt_of_calm reoffer no_pass'

end

/-! ## An excused miss (01 R22, 02 R40, R41) -/

section
variable {s : State} {b : Bank} {i : Fin 6} {f : Frame} {k : Cycle}

/-- A miss entered into its cycle, with `n` jobs more, a record of the reconstruction unit and the pending substitutions. -/
def State.missEntered (s : State) (b : Bank) (i : Fin 6) (st : Settlement) (n : Nat) (r : Reconstruction) (p : Vector Nat 6) : State :=
  ({ s with recon := r, cyc := { s.cyc with pendingSubs := p } } : State).updCycle b fun c =>
    { c with settlement := c.settlement.set i st, outstanding := c.outstanding + n }

theorem State.cycleAt_missEntered (bound : s.cycleAt b = some k) (st : Settlement) (n : Nat) (r : Reconstruction) (p : Vector Nat 6) :
    (s.missEntered b i st n r p).cycleAt b
      = some { k with settlement := k.settlement.set i st, outstanding := k.outstanding + n } :=
  State.cycleAt_updCycle (s := { s with recon := r, cyc := { s.cyc with pendingSubs := p } }) bound rfl

theorem State.recordMiss_eq (bound : s.cycleAt b = some k) (excused : Bool) : ∃ st n r p,
    s.recordMiss b i excused false = s.missEntered b i st n r p
    ∧ (s.substitutes k i = false → st = .omitted excused ∧ n = 0 ∧ r = s.recon ∧ p = s.cyc.pendingSubs)
    ∧ (s.substitutes k i = true → st = .substituted excused ∧ n = 1 ∧ (s.recon.inFlight ≠ none → r = { s.recon with
        queue := s.recon.queue ++ [{ kind := .substitution, bank := b, sensor := i }] })) := by
  cases may : s.substitutes k i with
  | false => exact ⟨.omitted excused, 0, s.recon, s.cyc.pendingSubs, State.recordMiss_omitted bound (.inr may) excused,
      fun _ => ⟨rfl, rfl, rfl, rfl⟩, fun h => absurd h Bool.false_ne_true⟩
  | true =>
    let pending := (s.setSettlement b i (.substituted excused)).setPendingSub i (s.pendingSub i + 1)
    obtain ⟨r, queued, busy⟩ := pending.enqueueJob_eq { kind := .substitution, bank := b, sensor := i }
    let subs := s.cyc.pendingSubs.set i (s.pendingSub i + 1)
    have merged := State.updCycle_updCycle ({ s with recon := r, cyc := { s.cyc with pendingSubs := subs } } : State) b
      (fun c => { c with settlement := c.settlement.set i (.substituted excused) }) (fun c => { c with outstanding := c.outstanding + 1 })
    exact ⟨.substituted excused, 1, r, subs, (State.recordMiss_substituted bound may excused).trans (queued.trans merged),
      fun h => absurd h.symm Bool.false_ne_true, fun _ => ⟨rfl, rfl, busy⟩⟩

/-- An excused miss of an ACTIVE sensor, in an unmarked cycle that awaits others. -/
theorem State.markMissed_excused (bound : s.cycleAt b = some k) (awaited : k.awaits i = true) (unmarked : k.calMark = false)
    (active : (s.sensor i).mode = .active) (others : ∃ j, j ≠ i ∧ k.awaits j = true) : ∃ st n r p,
    s.markMissed b i true true = (s.missEntered b i st n r p).updSensor i (fun x =>
      { x with counters := { x.counters with excusedMisses := counterInc x.counters.excusedMisses } })
    ∧ (s.substitutes k i = false → st = .omitted true ∧ n = 0 ∧ r = s.recon ∧ p = s.cyc.pendingSubs)
    ∧ (s.substitutes k i = true → st = .substituted true ∧ n = 1 ∧ (s.recon.inFlight ≠ none → r = { s.recon with
        queue := s.recon.queue ++ [{ kind := .substitution, bank := b, sensor := i }] })) := by
  obtain ⟨st, n, r, p, records, omits, subs⟩ := State.recordMiss_eq (i := i) bound true
  refine ⟨st, n, r, p, ?_, omits, subs⟩
  let counted := (s.missEntered b i st n r p).updSensor i fun x =>
    { x with counters := { x.counters with excusedMisses := counterInc x.counters.excusedMisses } }
  have reported : (s.recordMiss b i true false).reportSettledMiss i true = counted := by
    rw [records]
    exact State.reportSettledMiss_excused (s := s.missEntered b i st n r p) active
  have bound' : counted.cycleAt b = some { k with settlement := k.settlement.set i st, outstanding := k.outstanding + n } :=
    State.cycleAt_missEntered bound st n r p
  have awaiting : ∃ j, ({ k with settlement := k.settlement.set i st, outstanding := k.outstanding + n } : Cycle).awaits j = true :=
    Cycle.exists_awaits_withSettlement others st
  unfold State.markMissed
  rw [bound]
  simp only [awaited, if_true, reported]
  rw [State.handSettlement_unmarked bound' unmarked, State.checkComplete_of_awaiting bound' awaiting]

/-- A frame whose slopes are unused, taken into the cycle that awaits its sensor. -/
theorem State.settle_excused (quiet : s.quiet = true) (opens : s.loop.state.closedToCycles = false)
    (active : (s.sensor i).mode = .active) (unused : (s.sensor i).slopesUnused f = true) (one : s.cyc.cycles = [k])
    (opened : k.isOpen = true) (own : k.fn = f.fn) (awaited : k.awaits i = true) (unmarked : k.calMark = false)
    (others : ∃ j, j ≠ i ∧ k.awaits j = true) : ∃ st n r p,
    ((s.arrived i f).settle (.headOf i)).EndsAt (((s.received i f).missEntered k.bank i st n r p).updSensor i (fun x =>
      { x with counters := { x.counters with excusedMisses := counterInc x.counters.excusedMisses } }))
    ∧ ((s.received i f).substitutes k i = false → st = .omitted true ∧ n = 0 ∧ r = s.droppedRecon i f ∧ p = s.cyc.pendingSubs)
    ∧ ((s.received i f).substitutes k i = true → st = .substituted true ∧ n = 1 ∧ (s.recon.inFlight ≠ none → r = { s.droppedRecon i f with
        queue := s.recon.queue ++ [{ kind := .substitution, bank := k.bank, sensor := i }] })) := by
  obtain ⟨reoffer, no_pass, -⟩ := (State.quiet_iff s).1 quiet
  obtain ⟨-, -, unsettled⟩ := (k.awaits_iff i).1 awaited
  obtain ⟨flight, queued⟩ := s.droppedRecon_frame i f
  let v := s.received i f
  have one_v : v.cyc.cycles = [k] := one
  have config : (v.sensor i).config = (s.sensor i).config := by rw [State.sensor_received, Sensor.received_eq]
  have unused_v : (v.sensor i).slopesUnused f = true := (Sensor.slopesUnused_congr config f).trans unused
  have uncorrected : (v.updSensor i fun x => x.corrects k.binding[i] f) = v :=
    (v.updSensor_congr (Sensor.corrects_unused unused_v _)).trans (v.updSensor_id i)
  obtain ⟨st, n, r, p, marks, omits, subs⟩ := State.markMissed_excused (s := v) (State.cycleAt_singleton one_v rfl) awaited unmarked
    ((s.mode_received i f i).trans active) others
  let u := (v.missEntered k.bank i st n r p).updSensor i fun x =>
    { x with counters := { x.counters with excusedMisses := counterInc x.counters.excusedMisses } }
  have offers : (s.arrived i f).offerHead i = (u, true) := by
    rw [State.offerHead_own opens (own ▸ State.openCycleOf_singleton one opened), State.takeInto_arrived,
      if_neg (by simp [unsettled]), uncorrected]
    refine congrArg (Prod.mk · true) ?_
    exact (State.assign_excused (State.skipAhead_singleton one_v) (State.cycleAt_singleton one_v rfl) awaited unused_v).trans marks
  have cycles : u.cyc.cycles = [{ k with settlement := k.settlement.set i st, outstanding := k.outstanding + n }] :=
    State.cycles_updCycle (s := { v with recon := r, cyc := { v.cyc with pendingSubs := p } }) one_v rfl _
  have no_pass' : u.canPass = false := State.canPass_of_open cycles (Cycle.not_draining_of_open opened)
  have emptied : (u.sensor i).queue = [] := by
    simp only [u]
    rw [State.sensor_updSensor]
    change (v.sensor i).queue = []
    rw [State.sensor_received]
    rfl
  refine ⟨st, n, r, p, ?_, omits, fun may => ?_⟩
  · rw [State.settle_headOf_taken (a := s.arrived i f) reoffer no_pass offers reoffer no_pass' emptied]
    exact State.endsAt_of_calm reoffer no_pass'
  · obtain ⟨st_eq, n_eq, joins⟩ := subs may
    refine ⟨st_eq, n_eq, fun busy => ?_⟩
    rw [joins (by change (s.droppedRecon i f).inFlight ≠ none; rw [flight]; exact busy)]
    change ({ s.droppedRecon i f with queue := (s.droppedRecon i f).queue ++ _ } : Reconstruction) = _
    rw [queued]

end

end Sys2Proof.Machine

/-! Where the frame of an ACTIVE sensor goes: the statement (02 Tables 2.4 to 2.6). -/

namespace Sys2Proof.Machine
-- One theorem at a time: each worker thread reserves memory of its own.
set_option Elab.async false

section
variable {s t u : State} {i : Fin 6} {f : Frame} {k : Cycle}

theorem State.jobsQuiet_of_same (jobs : s.jobsQuiet = true) (flight : u.recon.inFlight = s.recon.inFlight)
    (queue : u.recon.queue = s.recon.queue) (arbiter : u.mem.arbiter = s.mem.arbiter) : u.jobsQuiet = true := by
  rw [← jobs]
  unfold State.jobsQuiet
  rw [flight, queue, arbiter]

/-- The frame of an ACTIVE sensor whose flag record it leaves as it is. -/
theorem exec_sensorFrameArrival_of_active {b : List Byte} (active : (s.sensor i).mode = .active) (empty : (s.sensor i).queue = [])
    (plain : s.plainFrame i b = true) (quiet : s.quiet = true) :
    exec (.sensorFrameArrival i b) s = .next ((s.arrived i (frameOf b)).settle (.headOf i)) := by
  obtain ⟨good, content, flags, -, untested⟩ := (s.plainFrame_iff i b).1 plain
  rw [exec_sensorFrameArrival_of_checked (by rw [active]; decide) good content,
    State.checkedFrame_of_active (t := s) (State.recordFlags_of_same flags) active empty (.inr untested) quiet]

/-- What the start of a job and the grant leave. -/
theorem State.EndsAt.frame (ends : t.EndsAt u) : t.cyc = u.cyc ∧ t.intake = u.intake ∧ t.mon = u.mon ∧ t.law = u.law := by
  obtain ⟨⟨g, q, a, same⟩, -⟩ := ends
  rw [same]
  exact ⟨rfl, rfl, rfl, rfl⟩

theorem State.EndsAt.sensor (ends : t.EndsAt u) (j : Fin 6) : t.sensor j = u.sensor j :=
  congrArg (fun x : Intake => x.sensors[j]) ends.frame.2.1

theorem State.EndsAt.buffer (ends : t.EndsAt u) (b : Bank) : t.buffer b = u.buffer b := by
  obtain ⟨-, -, mon, -⟩ := ends.frame
  cases b
  · exact congrArg (·.bufA) mon
  · exact congrArg (·.bufB) mon

theorem Sensor.corrects_received_used (x : Sensor) {p : Fin 2} (used : x.slopesUnused f = false) :
    ((x.received f).corrects p f).meanSquare = meanSquareOf (x.slopeCases p f.slopes) := by
  rw [Sensor.received_eq, Sensor.corrects_used (x := { x with
    acquire := _, copy := _, staleRun := _, queue := [], counters := _ }) used]
  rfl

theorem Sensor.taken_corrects (x : Sensor) (p : Fin 2) (f : Frame) : (x.corrects p f).counters.taken = x.counters.taken := by
  unfold Sensor.corrects
  split
  · rfl
  · rfl

/-- A good frame's flags in the record, in a loop that is OPEN or when they are there already (01 R20, R21). -/
theorem State.recordFlags_calm {fl : Flags}
    (calm : s.loop.state = .opened ∨ ((s.loop.state = .closed ∨ s.loop.state = .held) ∧ fl = (s.sensor i).flags)) :
    ∃ l n, l.state = s.loop.state ∧ s.recordFlags i fl
      = ({ s with loop := l, link := { s.link with notices := n } } : State).updSensor i fun x => { x with flags := fl } := by
  by_cases same : (s.sensor i).flags = fl
  · refine ⟨s.loop, s.link.notices, rfl, ?_⟩
    rw [State.recordFlags_of_same same]
    exact (s.updSensor_id i).symm.trans (s.updSensor_congr (by rw [← same]))
  · have at_open : s.loop.state = .opened := calm.resolve_right fun h => same h.2.symm
    exact ⟨{ s.loop with inband := (s.updSensor i fun x => { x with flags := fl }).inbandNow }, _, rfl, State.recordFlags_outside same (by rw [at_open]; decide) (by rw [at_open]; decide)⟩

theorem Sensor.slopesUnused_iff (x : Sensor) (f : Frame) : x.slopesUnused f = true ↔
    f.flags.shutter = true ∨ (f.flags.fx = true ∧ x.config.fx = .exclude) := by simp [Sensor.slopesUnused]

theorem State.cycles_contributed_singleton {b : Bank} (one : s.cyc.cycles = [k]) (bound : k.bank = b) (slopes : List Int) (n : Nat)
    (r : Reconstruction) : (s.contributed b i slopes n r).cyc.cycles = [k.contributedBy i n] :=
  State.cycles_updCycle (s := { s with recon := r, mon := (s.setBuffer b ((s.buffer b).set i (some slopes))).mon }) one bound _

theorem State.sensor_contributed (s : State) (b : Bank) (i : Fin 6) (slopes : List Int) (n : Nat) (r : Reconstruction) :
    (s.contributed b i slopes n r).sensor i = { s.sensor i with missCount := 0 } := by
  rw [State.contributed, State.sensor_updSensor]
  rfl

theorem State.buffer_contributed (s : State) (b : Bank) (i : Fin 6) (slopes : List Int) (n : Nat) (r : Reconstruction) :
    ((s.contributed b i slopes n r).buffer b)[i] = some slopes := by
  cases b
  · exact Vector.getElem_set_self ..
  · exact Vector.getElem_set_self ..

end

/-- Settles O24: a frame of an ACTIVE sensor by the offer's cases, each ended by the lemma `State.settle_…` that names it. -/
theorem frameDisposition : Obligations.FrameDisposition := by
  refine ⟨fun s i b => ?plain, fun s i b k k' => ?overrun, fun s i b k => ?unused⟩
  case plain =>
    intro x fn slopes fx taken active empty opens plain no_exclude quiet banked
    obtain ⟨reoffer, -, jobs⟩ := (State.quiet_iff s).1 quiet
    obtain ⟨good, content, flags, seen, untested⟩ := (s.plainFrame_iff i b).1 plain
    let f := frameOf b
    have frame : f = { fn := fn, flags := frameFlags b, slopes := slopes, stamp := 0 } := frameOf_open good seen
    have f_slopes : f.slopes = slopes := congrArg Frame.slopes frame
    have dropped : s.droppedRecon i f = taken := rfl
    obtain ⟨flight, queued⟩ := s.droppedRecon_frame i f
    have used : x.slopesUnused f = false := by
      rw [Bool.eq_false_iff]
      intro unused
      rcases (x.slopesUnused_iff f).1 unused with shut | ⟨set, excludes⟩
      · exact Bool.false_ne_true (seen.symm.trans shut)
      · rcases no_exclude with clear | other
        · exact Bool.false_ne_true (clear.symm.trans set)
        · exact other excludes
    refine ⟨(s.arrived i f).settle (.headOf i), exec_sensorFrameArrival_of_active active empty plain quiet,
      fun which none_own => ?late, fun k one opened own expected settled => ?duplicate,
      fun k one opened own awaited others unmarked => ?contributes, fun k one opened own unexpected => ?unexpected,
      fun k k' two opened opened' other own awaited awaited' unmarked unmarked' others others' policy below bounded => ?skips,
      fun k k' two new busy none_own => ?waits, fun none_left newer expected others still => ?opens⟩
    case late =>
      rw [State.settle_late (f := f) quiet opens none_own ((s.isLate_iff f.fn).2 which.symm)]
      have sensor := State.sensor_updSensor (s.received i f) i fun x =>
        { x with counters := { x.counters with late := counterInc x.counters.late } }
      rw [sensor, State.sensor_received, Sensor.received_eq]
      exact ⟨rfl, rfl, rfl, rfl, rfl, rfl⟩
    case duplicate =>
      rw [State.settle_duplicate (f := f) quiet opens one opened own expected settled]
      have sensor := State.sensor_updSensor (s.received i f) i fun x =>
        { x with counters := { x.counters with duplicate := counterInc x.counters.duplicate } }
      rw [sensor, State.sensor_received, Sensor.received_eq]
      exact ⟨rfl, rfl, rfl, rfl⟩
    case unexpected =>
      rw [State.settle_unexpected (f := f) quiet opens one opened own unexpected]
      obtain ⟨-, -, queue, missCount, -⟩ := s.correctedFrame_frame i f k.binding[i]
      have sensor := s.sensor_correctedFrame i f k.binding[i]
      refine ⟨rfl, rfl, rfl, rfl, queue, ?_, missCount, ?_⟩
      · change ((s.correctedFrame i f k.binding[i]).sensor i).meanSquare = _
        rw [sensor, Sensor.corrects_received_used _ used, f_slopes]
      · change ((s.correctedFrame i f k.binding[i]).sensor i).counters.taken = _
        rw [sensor]
        exact (Sensor.corrects_taken x k.binding[i] f).1
    case contributes =>
      obtain ⟨r, ends, apart, joins⟩ := State.settle_contributes (f := f) quiet opens active used one opened own awaited unmarked others
      rw [f_slopes] at ends joins
      generalize (s.arrived i f).settle (.headOf i) = t at ends ⊢
      let v := s.correctedFrame i f k.binding[i]
      have cycles (n : Nat) : (v.contributed k.bank i (x.corrected k.binding[i] slopes) n r).cyc.cycles = [k.contributedBy i n] :=
        State.cycles_contributed_singleton (s := v) one rfl _ n r
      obtain ⟨cyc, -, -, -⟩ := ends.frame
      refine ⟨fun out => ?_, fun part busy => ?_, ?_, ?_, ?_⟩
      · rw [out] at ends cyc
        have t_eq := ends.2 (State.jobsQuiet_of_same jobs (by rw [apart out]; exact flight) (by rw [apart out]; exact queued) rfl)
        exact ⟨(congrArg (·.cycles) cyc).trans (cycles 0), (congrArg (·.recon) t_eq).trans (apart out)⟩
      · rw [part] at ends cyc
        have t_eq := ends.2 (State.jobsQuiet_of_busy jobs busy (by rw [joins part busy]; exact flight) rfl)
        exact ⟨(congrArg (·.cycles) cyc).trans (cycles 1), (congrArg (·.recon) t_eq).trans (joins part busy)⟩
      · rw [ends.sensor, State.sensor_contributed]
      · rw [ends.sensor, State.sensor_contributed, State.sensor_correctedFrame]
        exact (Sensor.corrects_taken x k.binding[i] f).1
      · rw [ends.buffer]
        exact State.buffer_contributed ..
    case skips =>
      have count : countInc255 x.missCount = x.missCount + 1 := if_pos bounded
      have apart : k.bank ≠ k'.bank := by
        have distinct := banked
        rw [State.banked, two] at distinct
        simpa using distinct
      obtain ⟨r, ends⟩ := State.settle_skips (f := f) quiet opens active used two apart opened opened' other own awaited awaited' unmarked
        unmarked' others others' policy (count.symm ▸ below)
      generalize (s.arrived i f).settle (.headOf i) = t at ends ⊢
      let v := s.correctedFrame i f k'.binding[i]
      let w := (v.setSettlement k.bank i (.omitted false)).updSensor i Sensor.missed
      have two_w : w.cyc.cycles = [k.withSettlement i (.omitted false), k'] := State.cycles_updCycle_older (s := v) two apart _
      have sensor_w : w.sensor i = (v.sensor i).missed := State.sensor_updSensor (s := v.setSettlement k.bank i (.omitted false)) i _
      obtain ⟨taken_eq, misses_eq⟩ := Sensor.corrects_taken x k'.binding[i] f
      refine ⟨?_, ?_, ?_, ?_⟩
      · rw [ends.frame.1]
        exact State.cycles_updCycle_newer (s := { w with
          recon := r, mon := (w.setBuffer k'.bank ((w.buffer k'.bank).set i (some (x.corrected k'.binding[i] f.slopes)))).mon }) two_w apart _
      · rw [ends.sensor, State.sensor_contributed]
      · rw [ends.sensor, State.sensor_contributed, sensor_w, State.sensor_correctedFrame]
        exact taken_eq
      · rw [ends.sensor, State.sensor_contributed, sensor_w, State.sensor_correctedFrame]
        exact congrArg counterInc misses_eq
    case waits =>
      rw [State.settle_waits (f := f) quiet opens none_own new two busy]
      have sensor : (s.arrived i f).sensor i = { x.compared f with queue := [{ f with stamp := s.intake.arrivals }] } := by
        rw [State.arrived, State.sensor_updSensor]
        rfl
      rw [sensor, Sensor.compared_eq, frame, ← flags]
      exact ⟨rfl, rfl, rfl, rfl, rfl⟩
    case opens =>
      have new : s.isLate f.fn = false := by
        rw [Bool.eq_false_iff]
        intro late
        rcases (s.isLate_iff f.fn).1 late with ⟨k, mem, -⟩ | ⟨c, closed, older⟩
        · rw [none_left] at mem
          exact List.not_mem_nil mem
        · exact Bool.false_ne_true (older.symm.trans (newer c closed))
      obtain ⟨l, seen, n, r, given, ends⟩ := State.settle_opens (f := f) quiet opens active used none_left new expected others still
      generalize (s.arrived i f).settle (.headOf i) = t at ends ⊢
      let jobs := if s.participates s.chooseSet.1 i then 1 else 0
      let k := (s.firstCycle i f).contributedBy i jobs
      have sensor : t.sensor i = { (((x.received f).carryOut).corrects (s.firstCycle i f).binding[i] f) with missCount := 0 } := by
        have opened : (s.openedBy i f l seen n).sensor i = (x.received f).carryOut := by
          change ((s.received i f).opensInto .bankA).sensor i = _
          rw [State.sensor_opensInto, State.sensor_received]
        rw [ends.sensor, State.sensor_contributed, State.sensor_updSensor, opened]
      refine ⟨k, ?_, rfl, rfl, rfl, rfl, s.expected_firstCycle i f, rfl, ?_, ?_, ?_, ?_, ?_⟩
      · rw [ends.frame.1]
        exact State.cycles_contributed_singleton (k := s.firstCycle i f)
          (s := (s.openedBy i f l seen n).updSensor i fun x => x.corrects (s.firstCycle i f).binding[i] f)
          (congrArg (· ++ [s.firstCycle i f]) none_left) rfl given jobs r
      · exact Nat.zero_add _
      · rw [ends.frame.1]
        rfl
      · rw [ends.frame.1]
        rfl
      · rw [sensor, Sensor.corrects_eq, Sensor.carryOut_eq, Sensor.received_eq]
      · rw [sensor]
        change ((((x.received f).carryOut).corrects (s.firstCycle i f).binding[i] f).counters).taken = _
        rw [Sensor.taken_corrects, Sensor.carryOut_eq, Sensor.received_eq]
  case overrun =>
    intro x active empty opens plain quiet two apart opened opened' new unmarked jobs_left below
    obtain ⟨good, content, flags, seen, untested⟩ := (s.plainFrame_iff i b).1 plain
    let f := frameOf b
    have count (j : Fin 6) (waits : k.awaits j = true) : countInc255 (s.sensor j).missCount = (s.sensor j).missCount + 1 :=
      if_pos (below j waits).2.2.1
    have closes := State.settle_overrun (i := i) (f := f) quiet opens two apart opened opened' new unmarked jobs_left fun j waits => by
      obtain ⟨mode, few, -, policy⟩ := below j waits
      exact ⟨mode, (count j waits).symm ▸ few, policy⟩
    let a := s.arrived i f
    let missed := a.allMissed k.bank k allSensors
    let t := missed.closed k.bank k .overrun
    have runs : exec (.sensorFrameArrival i b) s = .next t :=
      (exec_sensorFrameArrival_of_active active empty plain quiet).trans (congrArg Host.Outcome.next closes)
    have cycles : t.cyc.cycles = [{ k with
        state := .draining, deadline := none, closeReason := some .overrun, settlement := k.missedOf allSensors k.settlement }, k'] := by
      have first : missed.cyc.cycles = [{ k with settlement := k.missedOf allSensors k.settlement }, k'] :=
        State.cycles_updCycle_older (s := a) two apart _
      exact State.cycles_updCycle_older (s := { missed with
        cyc := countClose { missed.cyc with lastClosed := some k.fn } .overrun
        mon := { missed.mon with deadlineClose := decide (CloseReason.overrun = .deadline) } })
        (k := { k with settlement := k.missedOf allSensors k.settlement }) first apart _
    have sensor (j : Fin 6) : t.sensor j = if k.awaits j = true then (a.sensor j).missed else a.sensor j := by
      have own : t.sensor j = missed.sensor j := rfl
      rw [own, State.sensor_allMissed]
      simp only [mem_allSensors, true_and]
    refine ⟨t, runs, ?_, ?_, fun j other waits => ?_⟩
    · rw [k.missedOf_allSensors] at cycles
      rw [← cycles]
      rfl
    · rw [sensor]
      split
      · change ((a.sensor i).queue.map Frame.fn) = _
        rw [State.queue_arrived]
        rfl
      · rw [State.queue_arrived]
        rfl
    · rw [sensor, if_pos waits]
      have kept : a.sensor j = s.sensor j := by
        simp only [a, State.arrived]
        rw [State.sensor_updSensor_ne _ _ other]
        rfl
      rw [kept]
      exact count j waits
  case unused =>
    intro x fl drop v may active empty calm good content untested which quiet one opened own awaited unmarked others
    obtain ⟨reoffer, no_pass, jobs⟩ := (State.quiet_iff s).1 quiet
    let f := frameOf b
    obtain ⟨l, n, state, recorded⟩ := State.recordFlags_calm (s := s) (i := i) (fl := fl) calm
    let s' := ({ s with loop := l, link := { s.link with notices := n } } : State).updSensor i fun x => { x with flags := fl }
    have sensor : s'.sensor i = { x with flags := fl } :=
      State.sensor_updSensor (s := { s with loop := l, link := { s.link with notices := n } }) i _
    have quiet' : s'.quiet = true := (State.quiet_iff s').2 ⟨reoffer, no_pass, jobs⟩
    have active' : (s'.sensor i).mode = .active := by rw [sensor]; exact active
    have opens' : s'.loop.state.closedToCycles = false := by
      change l.state.closedToCycles = false
      rw [state]
      rcases calm with h | ⟨h | h, -⟩ <;> rw [h] <;> rfl
    have unused : (s'.sensor i).slopesUnused f = true := by
      rw [sensor]
      exact (Sensor.slopesUnused_iff _ f).2 which
    have runs : exec (.sensorFrameArrival i b) s = .next ((s'.arrived i f).settle (.headOf i)) := by
      rw [exec_sensorFrameArrival_of_checked (by rw [active]; decide) good content]
      exact congrArg Host.Outcome.next (State.checkedFrame_of_active (t := s') recorded active' (by rw [sensor]; exact empty)
        (.inr (by rw [sensor]; exact untested)) quiet')
    obtain ⟨st, n', r, p, ends, omits, subs⟩ := State.settle_excused (s := s') (f := f) quiet' opens' active' unused one opened own awaited
      unmarked others
    generalize (s'.arrived i f).settle (.headOf i) = t at ends runs
    obtain ⟨flight, queued⟩ := s'.droppedRecon_frame i f
    let v' := s'.received i f
    have dropped : s'.droppedRecon i f = if drop then { s.recon with saved := s.recon.saved.set i { v with valid := false } } else s.recon := by
      unfold State.droppedRecon
      rw [sensor]
      rfl
    have saved : v'.savedOf i = if drop then { v with valid := false } else v := by
      change (s'.droppedRecon i f).saved[i] = _
      rw [dropped]
      split
      · exact Vector.getElem_set_self ..
      · rfl
    have config : (v'.sensor i).config = x.config := by rw [State.sensor_received, Sensor.received_eq, sensor]
    have may_iff : v'.substitutes k i = true ↔ may := by
      rw [State.substitutes_iff, config, saved]
      by_cases dropping : drop
      · rw [if_pos dropping]
        exact ⟨fun h => absurd h.2.1 Bool.false_ne_true, fun h => absurd dropping h.2.1⟩
      · rw [if_neg dropping]
        exact ⟨fun ⟨policy, valid, tag, uses⟩ => ⟨policy, dropping, valid, tag, uses⟩,
          fun ⟨policy, _, valid, tag, uses⟩ => ⟨policy, valid, tag, uses⟩⟩
    have own : t.sensor i = { (({ x with flags := fl } : Sensor).received f) with
        counters := { x.counters with taken := counterInc x.counters.taken, excusedMisses := counterInc x.counters.excusedMisses } } := by
      rw [ends.sensor, State.sensor_updSensor]
      change ({ v'.sensor i with
        counters := { (v'.sensor i).counters with excusedMisses := counterInc (v'.sensor i).counters.excusedMisses } } : Sensor) = _
      rw [State.sensor_received, sensor, Sensor.received_eq]
    have cycles : ({ v' with recon := r, cyc := { v'.cyc with pendingSubs := p } } : State).cyc.cycles = [k] := one
    have cyc : t.cyc = { s.cyc with
        pendingSubs := p, cycles := [{ k with settlement := k.settlement.set i st, outstanding := k.outstanding + n' }] } := by
      rw [ends.frame.1]
      exact congrArg (·.cyc) (State.updCycle_singleton cycles rfl fun c =>
        { c with settlement := c.settlement.set i st, outstanding := c.outstanding + n' })
    refine ⟨t, runs, ?_, ?_, ?_, ?_, ?_, ?_, fun may_not => ?_, fun may_so busy => ?_, ends.frame.2.2.1, ends.frame.2.2.2⟩
    · rw [own, Sensor.received_eq]
      exact active
    · rw [own, Sensor.received_eq]
    · rw [own, Sensor.received_eq]
    · rw [own, Sensor.received_eq]
    · rw [own, Sensor.received_eq]
    · rw [own]
    · obtain ⟨rfl, rfl, rfl, rfl⟩ := omits (by
        rw [Bool.eq_false_iff]
        exact fun h => may_not (may_iff.1 h))
      have t_eq := ends.2 (State.jobsQuiet_of_same jobs flight queued rfl)
      exact ⟨cyc, (congrArg (·.recon) t_eq).trans dropped⟩
    · obtain ⟨rfl, rfl, joins⟩ := subs (may_iff.2 may_so)
      have joined := joins busy
      have keeps : ¬ drop := may_so.2.1
      rw [dropped, if_neg keeps] at joined
      have t_eq := ends.2 (State.jobsQuiet_of_busy jobs busy (by rw [joined]; rfl) rfl)
      exact ⟨congrArg (·.cycles) cyc, (congrArg (·.recon) t_eq).trans joined⟩

end Sys2Proof.Machine

/-! The judgement of a tally and the ends of a phase (08 R155, R156, R158). -/

namespace Sys2Proof.Machine
-- One theorem at a time: each worker thread reserves memory of its own.
set_option Elab.async false

/-! ## Sums and responses (08 R155, R159) -/

theorem vget_vaddAll (v w : List Int) (j : Nat) : vget (vaddAll v w) j = vget v j + vget w j := by
  rw [vaddAll, vget_map_range]
  split
  · rfl
  · rw [vget_of_length_le (by omega), vget_of_length_le (by omega)]
    rfl

/-- A tally's slopes added into sums (08 R155). -/
def Tally.addedTo (t : Tally) (sums : Vector (List Int) 6) : Vector (List Int) 6 := Vector.ofFn fun i =>
  match t.entries[i] with
  | .slopes e => vaddAll sums[i] e
  | _ => sums[i]

theorem Tally.vget_addedTo (t : Tally) (sums : Vector (List Int) 6) (i : Fin 6) (j : Nat) : vget (t.addedTo sums)[i] j
    = vget sums[i] j + (match t.entries[i] with | .slopes l => vget l j | _ => 0) := by
  have read : (t.addedTo sums)[i] = match t.entries[i] with | .slopes e => vaddAll sums[i] e | _ => sums[i] := by
    simp [Tally.addedTo]
  rw [read]
  cases t.entries[i] with
  | slopes l => exact vget_vaddAll ..
  | nothing => exact (Int.add_zero _).symm
  | miss => exact (Int.add_zero _).symm

theorem Calibration.addTally_push {c : Calibration} (push : c.phase = some .push) (t : Tally) :
    c.addTally t = { c with push := t.addedTo c.push } := by
  unfold Calibration.addTally
  simp only [push]
  rfl

theorem Calibration.addTally_pull {c : Calibration} (pull : c.phase = some .pull) (t : Tally) :
    c.addTally t = { c with pull := t.addedTo c.pull } := by
  unfold Calibration.addTally
  simp only [pull]
  rfl

theorem Calibration.tallyVoid_iff (c : Calibration) (t : Tally) :
    c.tallyVoid t = true ↔ ∃ e ∈ c.sensors, ∀ l, t.entries[e.1] ≠ .slopes l := by
  have lacks (x : TallyEntry) : (match x with | .slopes _ => false | _ => true) = true ↔ ∀ l, x ≠ .slopes l := by
    cases x <;> simp
  unfold Calibration.tallyVoid
  rw [List.any_eq_true]
  exact exists_congr fun e => and_congr_right fun _ => lacks _

/-- Round half up, as bounds (08 R159). -/
theorem roundHalfUpTwice_bounds {m : Nat} (some_cycles : 1 ≤ m) (x : Int) :
    2 * (m : Int) * roundHalfUpTwice x m ≤ x + m ∧ x + m < 2 * m * (roundHalfUpTwice x m + 1) := by
  have positive : (0 : Int) < 2 * m := by omega
  unfold roundHalfUpTwice
  constructor
  · exact Int.mul_ediv_self_le (by omega)
  · have below := Int.lt_ediv_add_one_mul_self (x + m) positive
    rwa [mul_comm] at below

theorem roundHalfUpTwice_range {m : Nat} (some_cycles : 1 ≤ m) {x : Int} (low : -(2 * (m : Int) * 32767) ≤ x) (high : x ≤ 2 * m * 32767) :
    -32767 ≤ roundHalfUpTwice x m ∧ roundHalfUpTwice x m ≤ 32767 := by
  have positive : (0 : Int) < 2 * m := by omega
  unfold roundHalfUpTwice
  constructor
  · rw [Int.le_ediv_iff_mul_le positive]
    omega
  · refine Int.lt_add_one_iff.1 ?_
    rw [Int.ediv_lt_iff_lt_mul positive]
    omega

/-! ## What becomes of a tally -/

section
variable {s : State} {b : Bank} {y : Tally} {r : ResponseRecord}

/-- The only tally is gone. -/
def State.untallied (s : State) : State := { s with cal := { s.cal with tallies := [] } }

theorem State.judgeTally_only (only : s.cal.tallies = [y]) (bound : y.bank = b) (abandoned : Bool) : s.judgeTally b abandoned
    = if s.cal.measuring && decide (y.serial = s.cal.serial) then
        if abandoned || s.cal.tallyVoid y then s.untallied.countVoidCycle else s.untallied.countCycle y
      else s.untallied := by
  have found : s.cal.tallies.find? (fun t => decide (t.bank = b)) = some y := by rw [only]; simp [bound]
  have dropped : s.cal.tallies.filter (fun t => decide (t.bank ≠ b)) = [] := by rw [only]; simp [bound]
  unfold State.judgeTally
  rw [found, dropped]
  rfl

/-- A tally of another serial, or outside PUSH and PULL, is dropped (08 R155). -/
theorem State.judgeTally_dropped (only : s.cal.tallies = [y]) (bound : y.bank = b) (abandoned : Bool)
    (stale : y.serial ≠ s.cal.serial ∨ s.cal.measuring = false) : s.judgeTally b abandoned = s.untallied := by
  rw [State.judgeTally_only only bound, if_neg]
  rcases stale with other | still
  · simp [other]
  · simp [still]

theorem State.judgeTally_void (only : s.cal.tallies = [y]) (bound : y.bank = b) {abandoned : Bool} (serial : y.serial = s.cal.serial)
    (measuring : s.cal.measuring = true) (void : abandoned = true ∨ s.cal.tallyVoid y = true) :
    s.judgeTally b abandoned = s.untallied.countVoidCycle := by
  have void : (abandoned || s.cal.tallyVoid y) = true := by simpa using void
  rw [State.judgeTally_only only bound, measuring, void, if_pos (by simp [serial]), if_pos rfl]

theorem State.judgeTally_counts (only : s.cal.tallies = [y]) (bound : y.bank = b) (serial : y.serial = s.cal.serial)
    (measuring : s.cal.measuring = true) (whole : s.cal.tallyVoid y = false) : s.judgeTally b false = s.untallied.countCycle y := by
  rw [State.judgeTally_only only bound, measuring, whole, if_pos (by simp [serial])]
  rfl

theorem Calibration.measuring_of_phase {c : Calibration} {pull : Bool} (running : c.running = true)
    (phase : c.phase = some (if pull then .pull else .push)) : c.measuring = true := by
  cases pull <;> simp [Calibration.measuring, running, phase]

/-- The run with one void cycle more (08 R155). -/
def Calibration.voided (c : Calibration) (r : ResponseRecord) : Calibration :=
  { c with voids := c.voids + 1, records := c.records.set c.entry (countVoid c.phase r) }

theorem Calibration.updRecord_voided {c : Calibration} (named : c.records[c.entry]? = some r) :
    ({ c with voids := c.voids + 1 } : Calibration).updRecord (countVoid c.phase) = c.voided r :=
  congrArg (Calibration.withRecords { c with voids := c.voids + 1 }) (modifyAt_eq_set _ named)

theorem State.countVoidCycle_few (named : s.cal.records[s.cal.entry]? = some r) (few : s.cal.voids + 1 < 9) :
    s.countVoidCycle = { s with cal := s.cal.voided r } := by
  unfold State.countVoidCycle
  rw [Calibration.updRecord_voided named]
  exact if_neg (Nat.not_le.2 few)

/-- The ninth void cycle of a phase ends the run (08 R156). -/
theorem State.countVoidCycle_ninth (named : s.cal.records[s.cal.entry]? = some r) (eight : s.cal.voids = 8) :
    s.countVoidCycle = ({ s with cal := s.cal.voided r } : State).endRun .missing := by
  unfold State.countVoidCycle
  rw [Calibration.updRecord_voided named]
  exact if_pos (by rw [show (s.cal.voided r).voids = s.cal.voids + 1 from rfl, eight])

theorem State.ended_endRun (s : State) (reason : EndReason) : (s.endRun reason).cal.running = false
    ∧ (s.endRun reason).cal.endReason = some reason ∧ (s.endRun reason).cal.tallies = [] ∧ (s.endRun reason).law.calPoke = none
    ∧ (s.endRun reason).isPending .calEnd = true := ⟨rfl, rfl, rfl, rfl, State.isPending_raise _ .calEnd⟩

end

end Sys2Proof.Machine

/-! The counting of a cycle, the ends of a phase and the commits of a run (08 R155, R157, R158), as the statements give them. -/

namespace Sys2Proof.Machine
-- One theorem at a time: each worker thread reserves memory of its own.
set_option Elab.async false

section
variable {s : State} {y : Tally} {r : ResponseRecord}

theorem State.countCycle_settles (settling : s.cal.settle < s.cal.nS) (y : Tally) :
    s.countCycle y = { s with cal := { s.cal with settle := s.cal.settle + 1 } } := if_pos settling

/-- The run with one measured cycle more (08 R155). -/
def Calibration.measured (c : Calibration) (y : Tally) : Calibration := ({ c with measure := c.measure + 1 } : Calibration).addTally y

theorem Calibration.measured_push {c : Calibration} (push : c.phase = some .push) (y : Tally) :
    c.measured y = { c with measure := c.measure + 1, push := y.addedTo c.push } :=
  Calibration.addTally_push (c := { c with measure := c.measure + 1 }) push y

theorem Calibration.measured_pull {c : Calibration} (pull : c.phase = some .pull) (y : Tally) :
    c.measured y = { c with measure := c.measure + 1, pull := y.addedTo c.pull } :=
  Calibration.addTally_pull (c := { c with measure := c.measure + 1 }) pull y

theorem Calibration.measure_measured (c : Calibration) (y : Tally) : (c.measured y).measure = c.measure + 1 := by
  unfold Calibration.measured Calibration.addTally
  dsimp only
  split
  · rfl
  · rfl
  · rfl

theorem State.countCycle_measures (settled : s.cal.nS ≤ s.cal.settle) (few : s.cal.measure + 1 < s.cal.nM) (y : Tally) :
    s.countCycle y = { s with cal := s.cal.measured y } := by
  unfold State.countCycle
  rw [if_neg (Nat.not_lt.2 settled)]
  exact if_neg (by
    change ¬ s.cal.nM ≤ (s.cal.measured y).measure
    rw [Calibration.measure_measured]
    exact Nat.not_le.2 few)

theorem State.countCycle_ends (settled : s.cal.nS ≤ s.cal.settle) (full : s.cal.nM ≤ s.cal.measure + 1) (y : Tally) :
    s.countCycle y = ({ s with cal := s.cal.measured y } : State).endPhase := by
  unfold State.countCycle
  rw [if_neg (Nat.not_lt.2 settled)]
  exact if_pos (by
    change s.cal.nM ≤ (s.cal.measured y).measure
    rw [Calibration.measure_measured]
    exact full)

theorem State.endPhase_push (push : s.cal.phase = some .push) : s.endPhase = s.phaseCommit .pull := by
  unfold State.endPhase
  rw [push]

/-- PULL gives way to STORING, which asks for its transfers (08 R158). -/
theorem State.endPhase_pull (pull : s.cal.phase = some .pull) : s.endPhase
    = ({ s with cal := { s.cal with phase := some .storing, storing := s.cal.sensors.map Prod.fst } } : State).request .calibration := by
  unfold State.endPhase
  rw [pull]

theorem State.mem_waiting_request (s : State) (c : Client) : c ∈ (s.request c).mem.arbiter.waiting := by
  unfold State.request
  split
  next asked => exact asked
  next => exact List.mem_append_right _ (List.mem_singleton_self c)

/-- The run restarted in its phase by a foreign commit (08 R157). -/
theorem State.foreignCommit_push (running : s.cal.running = true) (push : s.cal.phase = some .push)
    (named : s.cal.records[s.cal.entry]? = some r) : s.foreignCommit.cal = { s.cal with
      serial := s.cal.serial + 1, settle := 0, measure := 0, push := s.cal.zeroSums
      records := s.cal.records.set s.cal.entry { r with
        pushOut := some (s.outputValue r.actuator), restartsPush := r.restartsPush + 1 } } := by
  have measuring : s.cal.measuring = true := Calibration.measuring_of_phase (pull := false) running push
  have actuator : s.cal.actuator = some r.actuator := by rw [Calibration.actuator, named]; rfl
  unfold State.foreignCommit
  simp only [measuring, if_true, push, actuator]
  exact congrArg (Calibration.withRecords _) (modifyAt_eq_set _ named)

theorem State.foreignCommit_pull (running : s.cal.running = true) (pull : s.cal.phase = some .pull)
    (named : s.cal.records[s.cal.entry]? = some r) : s.foreignCommit.cal = { s.cal with
      serial := s.cal.serial + 1, settle := 0, measure := 0, pull := s.cal.zeroSums
      records := s.cal.records.set s.cal.entry { r with
        pullOut := some (s.outputValue r.actuator), restartsPull := r.restartsPull + 1 } } := by
  have measuring : s.cal.measuring = true := Calibration.measuring_of_phase (pull := true) running pull
  have actuator : s.cal.actuator = some r.actuator := by rw [Calibration.actuator, named]; rfl
  unfold State.foreignCommit
  simp only [measuring, if_true, pull, actuator]
  exact congrArg (Calibration.withRecords _) (modifyAt_eq_set _ named)

/-! ## The abandonment of a marked cycle (02 R49, 08 R155) -/

theorem State.abandon_marked {b : Bank} {k : Cycle} (bound : s.cycleAt b = some k) (live : k.abandoned = false)
    (acc : k.state = .accumulating) (marked : k.calMark = true) (entry : Bool) : s.abandon b entry
      = if entry then (s.abandonedOpen b k).dropTally b else (s.abandonedOpen b k).judgeTally b true := by
  unfold State.abandon
  simp only [bound, live, acc, marked, Bool.false_eq_true, if_false, if_true]
  cases entry
  · rfl
  · rfl

/-- A tally is dropped with the record of its cycle at the entry to IDLE or SAFE (08 R155). -/
theorem State.dropTally_only {b : Bank} (only : s.cal.tallies = [y]) (bound : y.bank = b) : s.dropTally b = s.untallied := by
  unfold State.dropTally
  rw [only]
  simp [bound, State.untallied]

end

end Sys2Proof.Machine

/-! What a judgement looks at: the calibration unit, the law unit, the links, the memory and the loop (08 R155). -/

namespace Sys2Proof.Machine
-- One theorem at a time: each worker thread reserves memory of its own.
set_option Elab.async false

/-- Two states that a judgement cannot tell apart: the blocks that it reads and writes are the same. -/
structure State.Twin (s t : State) : Prop where
  cal : t.cal = s.cal
  law : t.law = s.law
  drive : t.drive = s.drive
  mem : t.mem = s.mem
  loop : t.loop = s.loop

namespace State.Twin

variable {s t a b : State}

theorem ite {p : Prop} [Decidable p] (first : Twin s t) (second : Twin a b) : Twin (if p then s else a) (if p then t else b) := by
  split
  · exact first
  · exact second

theorem withCal (twin : Twin s t) (c : Calibration) : Twin ({ s with cal := c } : State) { t with cal := c } :=
  ⟨rfl, twin.law, twin.drive, twin.mem, twin.loop⟩

theorem withLaw (twin : Twin s t) (l : LawUnit) : Twin ({ s with law := l } : State) { t with law := l } :=
  ⟨twin.cal, rfl, twin.drive, twin.mem, twin.loop⟩

theorem setArbiter (twin : Twin s t) (x : Arbiter) : Twin (s.setArbiter x) (t.setArbiter x) := by
  refine ⟨twin.cal, twin.law, twin.drive, ?_, twin.loop⟩
  change { t.mem with arbiter := x } = { s.mem with arbiter := x }
  rw [twin.mem]

theorem outputValue (twin : Twin s t) : t.outputValue = s.outputValue :=
  State.outputValue_congr (congrArg (·.actuators) twin.law) (congrArg (·.z) twin.law) (congrArg (·.idlePokes) twin.law)
    (congrArg (·.calPoke) twin.law) (congrArg (·.state) twin.loop)

theorem codeOf (twin : Twin s t) : t.codeOf = s.codeOf :=
  State.codeOf_congr (congrArg (·.actuators) twin.law) (congrArg (·.z) twin.law) (congrArg (·.idlePokes) twin.law)
    (congrArg (·.calPoke) twin.law) (congrArg (·.state) twin.loop)

theorem handToLinks (twin : Twin s t) : Twin s.handToLinks t.handToLinks := by
  refine ⟨twin.cal, twin.law, ?_, twin.mem, twin.loop⟩
  unfold State.handToLinks
  rw [twin.drive, twin.law, twin.mem]

theorem commitVector (twin : Twin s t) : Twin s.commitVector t.commitVector := by
  have formed : t.formVector = s.formVector := by
    unfold State.formVector
    rw [twin.codeOf, twin.mem]
  unfold State.commitVector
  rw [formed, twin.law]
  exact (twin.withLaw _).handToLinks

theorem raise (twin : Twin s t) (n : Notice) : Twin (s.raise n) (t.raise n) := ⟨twin.cal, twin.law, twin.drive, twin.mem, twin.loop⟩

theorem endRun (twin : Twin s t) (reason : EndReason) : Twin (s.endRun reason) (t.endRun reason) := by
  have stopped : Twin (s.stopRun reason) (t.stopRun reason) := by
    unfold State.stopRun
    rw [twin.cal]
    dsimp only
    rw [show t.mem.arbiter = s.mem.arbiter from congrArg (·.arbiter) twin.mem]
    exact (twin.withCal _).setArbiter _
  unfold State.endRun
  dsimp only
  rw [stopped.law]
  exact ((stopped.withLaw _).commitVector).raise _

theorem request (twin : Twin s t) (c : Client) : Twin (s.request c) (t.request c) := by
  unfold State.request
  rw [twin.mem]
  exact ite twin (twin.setArbiter _)

theorem phaseCommit (twin : Twin s t) (p : Phase) : Twin (s.phaseCommit p) (t.phaseCommit p) := by
  cases named : s.cal.records[s.cal.entry]? with
  | none =>
    have named' : t.cal.records[t.cal.entry]? = none := by rw [twin.cal]; exact named
    rw [State.phaseCommit, State.phaseCommit, named, named']
    exact twin
  | some r =>
    have named' : t.cal.records[t.cal.entry]? = some r := by rw [twin.cal]; exact named
    have poked : Twin (s.poked p r) (t.poked p r) := by
      unfold State.poked
      rw [twin.law]
      exact twin.withLaw _
    rw [State.phaseCommit_of_record named, State.phaseCommit_of_record named', poked.commitVector.outputValue, twin.cal]
    exact poked.commitVector.withCal _

theorem endPhase (twin : Twin s t) : Twin s.endPhase t.endPhase := by
  unfold State.endPhase
  rw [twin.cal]
  split
  · exact twin.phaseCommit _
  · exact (twin.withCal _).request _
  · exact twin

theorem countVoidCycle (twin : Twin s t) : Twin s.countVoidCycle t.countVoidCycle := by
  unfold State.countVoidCycle
  rw [twin.cal]
  exact ite ((twin.withCal _).endRun _) (twin.withCal _)

theorem countCycle (twin : Twin s t) (y : Tally) : Twin (s.countCycle y) (t.countCycle y) := by
  unfold State.countCycle
  rw [twin.cal]
  exact ite (twin.withCal _) (ite ((twin.withCal _).endPhase) (twin.withCal _))

theorem judgeTally (twin : Twin s t) (bank : Bank) (abandoned : Bool) : Twin (s.judgeTally bank abandoned) (t.judgeTally bank abandoned) := by
  unfold State.judgeTally
  rw [twin.cal]
  split
  · exact twin
  · exact ite (ite (twin.withCal _).countVoidCycle ((twin.withCal _).countCycle _)) (twin.withCal _)

end State.Twin

end Sys2Proof.Machine

/-! The close of a marked cycle: its last awaited frame, and its deadline (02 R43 to R45, 08 R154, R155). -/

namespace Sys2Proof.Machine
-- One theorem at a time: each worker thread reserves memory of its own.
set_option Elab.async false

section
variable {s : State} {b : Bank} {i : Fin 6} {k : Cycle} {y : Tally} {f : Frame}

/-! ## Settlements handed to the calibration unit (02 R40, 08 R154) -/

theorem State.handSettlement_marked (bound : s.cycleAt b = some k) (marked : k.calMark = true) (slopes : Option (List Int)) :
    s.handSettlement b i slopes = s.tallySettlement b i slopes := by
  unfold State.handSettlement
  rw [bound]
  exact if_pos marked

/-- The only tally with a settlement entered. -/
theorem State.tallySettlement_only (only : s.cal.tallies = [y]) (bound : y.bank = b) (slopes : Option (List Int)) :
    s.tallySettlement b i slopes
      = { s with cal := { s.cal with tallies := [{ y with entries := y.entries.set i (tallyEntry s.cal i slopes) }] } } := by
  unfold State.tallySettlement
  rw [only]
  simp [bound]

theorem tallyEntry_slopes {c : Calibration} {n : Nat} (named : (i, n) ∈ c.sensors) {slopes : List Int} (fits : c.slopesOf i = slopes.length) :
    tallyEntry c i (some slopes) = .slopes slopes := by
  have listed : c.sensors.any (fun e => decide (e.1 = i)) = true := List.any_eq_true.2 ⟨(i, n), named, by simp⟩
  unfold tallyEntry
  rw [if_pos listed]
  exact if_pos fits.symm

theorem tallyEntry_none {c : Calibration} {e : Fin 6 × Nat} (named : e ∈ c.sensors) : tallyEntry c e.1 none = .miss :=
  if_pos (List.any_eq_true.2 ⟨e, named, by simp⟩)

/-- The close of a marked cycle judges its tally (02 R43, 08 R155). -/
theorem State.close_marked (bound : s.cycleAt b = some k) (marked : k.calMark = true) (reason : CloseReason) :
    s.close b reason = (s.closed b k reason).judgeTally b false := by
  unfold State.close
  rw [bound]
  exact if_pos marked

theorem State.checkComplete_of_settled (bound : s.cycleAt b = some k) (opened : k.isOpen = true) (settled : k.allSettled = true) :
    ∃ reason, s.checkComplete b = s.close b reason := by
  unfold State.checkComplete
  rw [bound]
  exact ⟨_, if_pos (by rw [opened, settled]; rfl)⟩

theorem Cycle.allSettled_of_last (opened : k.isOpen = true) (alone : ∀ j, j ≠ i → k.awaits j = false) (n : Nat) :
    (k.contributedBy i n).allSettled = true := by
  unfold Cycle.allSettled
  refine List.all_eq_true.2 fun j _ => ?_
  by_cases own : j = i
  · subst own
    have entered : (k.contributedBy j n).settlement[j] = .contributed := Vector.getElem_set_self ..
    rw [entered]
    simp
  · have kept : (k.contributedBy i n).settlement[j] = k.settlement[j] :=
      Vector.getElem_set_ne i.isLt j.isLt fun h => own (Fin.ext h.symm)
    have done := alone j own
    rw [kept]
    unfold Cycle.awaits at done
    rw [opened] at done
    change (!k.expected[j] || _) = true
    cases expected : k.expected[j] with
    | false => rfl
    | true =>
      rw [expected] at done
      simpa using done

theorem State.cyc_closed (s : State) (b : Bank) (k : Cycle) (reason : CloseReason) :
    (s.closed b k reason).cyc.reoffer = s.cyc.reoffer := by
  cases reason <;> rfl

theorem State.cycles_closed (one : s.cyc.cycles = [k]) (c : Cycle) (reason : CloseReason) : (s.closed k.bank c reason).cyc.cycles
    = [{ k with state := .draining, deadline := none, closeReason := some reason }] := by
  refine State.cycles_updCycle (s := { s with
    cyc := countClose { s.cyc with lastClosed := some c.fn } reason
    mon := { s.mon with deadlineClose := decide (reason = .deadline) } }) ?_ rfl _
  cases reason
  · exact one
  · exact one
  · exact one
  · exact one

theorem State.canPass_of_jobs {rest : List Cycle} (cycles : s.cyc.cycles = k :: rest) (jobs_left : 0 < k.outstanding) :
    s.canPass = false := by
  simp [State.canPass, cycles, Nat.ne_of_gt jobs_left]

/-- The frame of the last sensor that a marked cycle awaits: its slopes are handed over and the close judges the tally. -/
theorem State.settle_hands (quiet : s.quiet = true) (opens : s.loop.state.closedToCycles = false)
    (active : (s.sensor i).mode = .active) (used : (s.sensor i).slopesUnused f = false) (one : s.cyc.cycles = [k])
    (opened : k.isOpen = true) (own : k.fn = f.fn) (awaited : k.awaits i = true) (marked : k.calMark = true)
    (alone : ∀ j, j ≠ i → k.awaits j = false) (jobs_left : 0 < k.outstanding) (only : s.cal.tallies = [y]) (bound : y.bank = k.bank)
    {n : Nat} (named : (i, n) ∈ s.cal.sensors)
    (fits : s.cal.slopesOf i = ((s.sensor i).corrected k.binding[i] f.slopes).length) : ∃ u,
    ((s.arrived i f).settle (.headOf i)).EndsAt u
    ∧ (({ s with cal := { s.cal with
        tallies := [{ y with entries := y.entries.set i (.slopes ((s.sensor i).corrected k.binding[i] f.slopes)) }] } } : State).judgeTally
        k.bank false).Twin u
    ∧ u.cyc.cycles.map (fun c => c.state) = [.draining] := by
  obtain ⟨reoffer, no_pass, -⟩ := (State.quiet_iff s).1 quiet
  obtain ⟨-, expected, unsettled⟩ := (k.awaits_iff i).1 awaited
  obtain ⟨mode, config, queue, -, -⟩ := s.correctedFrame_frame i f k.binding[i]
  let v := s.correctedFrame i f k.binding[i]
  let slopes := (s.sensor i).corrected k.binding[i] f.slopes
  have one_v : v.cyc.cycles = [k] := one
  have bound_v := State.cycleAt_singleton one_v rfl
  obtain ⟨r, enters, -, -⟩ := State.contribute_eq (s := v) (slopes := slopes) bound_v (State.isActive_eq_true (mode.trans active))
  let jobs := if s.participates k.set i then 1 else 0
  let entered := v.contributed k.bank i slopes jobs r
  let handed := ({ entered with cal := { s.cal with tallies := [{ y with entries := y.entries.set i (.slopes slopes) }] } } : State)
  have hands : entered.handSettlement k.bank i (some slopes) = handed := by
    rw [State.handSettlement_marked (State.cycleAt_contributed bound_v jobs r) marked, State.tallySettlement_only (s := entered) only bound]
    change ({ entered with cal := { s.cal with tallies := [{ y with entries := y.entries.set i (tallyEntry s.cal i (some slopes)) }] } } : State) = _
    rw [tallyEntry_slopes named fits]
  have bound_h : handed.cycleAt k.bank = some (k.contributedBy i jobs) := State.cycleAt_contributed bound_v jobs r
  obtain ⟨reason, checks⟩ := State.checkComplete_of_settled bound_h opened (Cycle.allSettled_of_last opened alone jobs)
  let closed := handed.closed k.bank (k.contributedBy i jobs) reason
  let u := closed.judgeTally k.bank false
  have assigned : v.assign k.bank i (f.stampedAt s.intake.arrivals) slopes = u := by
    refine ((State.assign_contributes (State.skipAhead_singleton one_v) bound_v awaited
      ((Sensor.slopesUnused_congr config f).trans used)).trans enters).trans ?_
    change (entered.handSettlement k.bank i (some slopes)).checkComplete k.bank = u
    rw [hands, checks]
    exact State.close_marked bound_h marked reason
  have offers : (s.arrived i f).offerHead i = (u, true) := by
    rw [State.offerHead_own opens (own ▸ State.openCycleOf_singleton one opened), State.takeInto_arrived,
      if_neg (by simp [unsettled]), State.sensor_received, Sensor.corrected_received]
    exact congrArg (Prod.mk · true) assigned
  have aside : closed.Aside u := State.Aside.judgeTally closed k.bank false
  have cycles : u.cyc.cycles = [{ k.contributedBy i jobs with state := .draining, deadline := none, closeReason := some reason }] := by
    rw [aside.cyc]
    exact State.cycles_closed (s := handed) (k := k.contributedBy i jobs) (State.cycles_contributed_singleton one_v rfl _ _ _) _ reason
  have reoffer' : u.cyc.reoffer = false := by
    rw [aside.cyc]
    exact (State.cyc_closed handed k.bank _ reason).trans reoffer
  have no_pass' : u.canPass = false := State.canPass_of_jobs cycles (Nat.lt_of_lt_of_le jobs_left (Nat.le_add_right _ jobs))
  have emptied : (u.sensor i).queue = [] := by
    have kept : u.sensor i = entered.sensor i := congrArg (fun x : Intake => x.sensors[i]) aside.intake
    rw [kept, State.sensor_contributed]
    exact queue
  have twin : ({ s with cal := { s.cal with tallies := [{ y with entries := y.entries.set i (.slopes slopes) }] } } : State).Twin closed :=
    ⟨rfl, rfl, rfl, rfl, rfl⟩
  refine ⟨u, ?_, twin.judgeTally k.bank false, by rw [cycles]; rfl⟩
  rw [State.settle_headOf_taken (a := s.arrived i f) reoffer no_pass offers reoffer' no_pass' emptied]
  exact State.endsAt_of_calm reoffer' no_pass'

/-! ## A deadline in a marked cycle (02 R45, 08 R154) -/

/-- A tally with the misses of the sensors of a list that a cycle awaits. -/
def Tally.missedOf (y : Tally) (c : Calibration) (k : Cycle) (l : List (Fin 6)) : Tally :=
  { y with entries := Vector.ofFn fun j => if j ∈ l ∧ k.awaits j = true then tallyEntry c j none else y.entries[j] }

theorem Tally.missedOf_nil (y : Tally) (c : Calibration) (k : Cycle) : y.missedOf c k [] = y := by simp [Tally.missedOf]

theorem Tally.missedOf_append (y : Tally) (c : Calibration) {l : List (Fin 6)} (awaited : k.awaits i = true) :
    ({ y.missedOf c k l with entries := (y.missedOf c k l).entries.set i (tallyEntry c i none) } : Tally) = y.missedOf c k (l ++ [i]) := by
  have entries : (y.missedOf c k l).entries.set i (tallyEntry c i none) = (y.missedOf c k (l ++ [i])).entries := by
    ext j small
    rw [Vector.getElem_set]
    by_cases here : i.val = j
    · subst here
      simp [Tally.missedOf, awaited]
    · have apart : (⟨j, small⟩ : Fin 6) ≠ i := fun h => here (congrArg Fin.val h).symm
      simp [Tally.missedOf, here, apart]
  rw [entries]
  rfl

/-- An omitted miss in a marked cycle is handed to the calibration unit. -/
theorem State.markMissed_marked (bound : s.cycleAt b = some k) (awaited : k.awaits i = true) (marked : k.calMark = true)
    (no_sub : s.substitutes k i = false) (active : (s.sensor i).mode = .active)
    (below : countInc255 (s.sensor i).missCount < (s.sensor i).config.kMiss) : s.markMissed b i false false
      = ((s.setSettlement b i (.omitted false)).updSensor i Sensor.missed).tallySettlement b i none := by
  let settled := (s.setSettlement b i (.omitted false)).updSensor i Sensor.missed
  have reported : (s.recordMiss b i false false).reportSettledMiss i false = settled := by
    rw [State.recordMiss_omitted bound (.inr no_sub)]
    exact State.reportSettledMiss_below (s := s.setSettlement b i (.omitted false)) active below
  have bound' : settled.cycleAt b = some (k.withSettlement i (.omitted false)) := State.cycleAt_setSettlement (s := s) bound _
  unfold State.markMissed
  rw [bound]
  simp only [awaited, if_true, reported, Bool.false_eq_true, if_false]
  exact State.handSettlement_marked bound' marked none

/-- The misses of a marked cycle's awaited sensors, with the tally that takes them. -/
def State.allMissedIn (s : State) (b : Bank) (k : Cycle) (y : Tally) (l : List (Fin 6)) : State :=
  (s.allMissed b k l).withCal { s.cal with tallies := [y.missedOf s.cal k l] }

theorem State.foldl_markMissed_marked (bound : s.cycleAt b = some k) (marked : k.calMark = true) (only : s.cal.tallies = [y])
    (own : y.bank = b)
    (below : ∀ i, k.awaits i = true → (s.sensor i).mode = .active ∧ countInc255 (s.sensor i).missCount < (s.sensor i).config.kMiss
      ∧ (s.sensor i).config.policy = .omit) (l : List (Fin 6)) (distinct : l.Nodup) :
    l.foldl (fun t i => t.markMissed b i false false) s = s.allMissedIn b k y l := by
  induction l using List.reverseRecOn with
  | nil =>
    unfold State.allMissedIn
    rw [State.allMissed_nil, Tally.missedOf_nil, ← only]
    rfl
  | append_singleton l i ih =>
    obtain ⟨before, -, apart⟩ := List.nodup_append.1 distinct
    have outside : i ∉ l := fun mem => apart i mem i (List.mem_singleton_self i) rfl
    let t := s.allMissedIn b k y l
    have bound' : t.cycleAt b = some { k with settlement := k.missedOf l k.settlement } := State.cycleAt_allMissed bound l
    have awaits := k.awaits_missedOf outside
    rw [List.foldl_append, ih before]
    change t.markMissed b i false false = _
    by_cases awaited : k.awaits i = true
    · obtain ⟨active, below, never⟩ := below i awaited
      have same : t.sensor i = s.sensor i := by
        change (s.allMissed b k l).sensor i = _
        rw [State.sensor_allMissed, if_neg fun both => outside both.1]
      rw [← same] at active below never
      rw [State.markMissed_marked bound' (awaits.trans awaited) marked (State.substitutes_of_omit never) active below]
      let settled := (t.setSettlement b i (.omitted false)).updSensor i Sensor.missed
      have settled_eq : settled = (s.allMissed b k (l ++ [i])).withCal t.cal := by
        rw [← State.allMissed_append awaited outside]
        rfl
      have handed := State.tallySettlement_only (s := settled) (y := y.missedOf s.cal k l) (i := i) (by rw [settled_eq]; rfl) own none
      refine handed.trans ?_
      have entry : tallyEntry settled.cal i none = tallyEntry s.cal i none := by rw [settled_eq]; rfl
      rw [entry, Tally.missedOf_append _ _ awaited, settled_eq]
      rfl
    · have left : t.markMissed b i false false = t := by
        unfold State.markMissed
        rw [bound']
        exact if_neg (by rw [awaits]; exact awaited)
      rw [left]
      simp only [t]
      unfold State.allMissedIn State.allMissed Cycle.missedOf Tally.missedOf
      simp only [Cycle.mem_append_and_awaits awaited]

end

end Sys2Proof.Machine

/-! The tallies of a calibration run: the statement (08 R152 to R159, 02 R43, R45). -/

namespace Sys2Proof.Machine
-- One theorem at a time: each worker thread reserves memory of its own.
set_option Elab.async false

section
variable {s t u : State} {k : Cycle} {y : Tally} {r : ResponseRecord}

theorem State.EndsAt.run (ends : t.EndsAt u) : t.cal = u.cal ∧ t.drive = u.drive := by
  obtain ⟨⟨g, q, a, same⟩, -⟩ := ends
  rw [same]
  exact ⟨rfl, rfl⟩

/-- A void cycle in a phase (08 R155), as the statements write its record. -/
theorem countVoid_phase (pull : Bool) (r : ResponseRecord) : countVoid (some (if pull then .pull else .push)) r
    = if pull then { r with voidsPull := r.voidsPull + 1 } else { r with voidsPush := r.voidsPush + 1 } := by
  cases pull
  · rfl
  · rfl

theorem Calibration.voided_phase {c : Calibration} {pull : Bool} (phase : c.phase = some (if pull then .pull else .push)) (r : ResponseRecord) :
    c.voided r = { c with
      voids := c.voids + 1
      records := c.records.set c.entry
        (if pull then { r with voidsPull := r.voidsPull + 1 } else { r with voidsPush := r.voidsPush + 1 }) } := by
  rw [← countVoid_phase pull r, ← phase]
  rfl

/-- The deadline of a marked cycle with a calibration sensor still awaited. -/
theorem exec_deadlineExpiry_marked {pull : Bool} (one : s.cyc.cycles = [k]) (opened : k.isOpen = true) (timed : k.deadline ≠ none)
    (marked : k.calMark = true) (jobs_left : 0 < k.outstanding) (reoffer : s.cyc.reoffer = false)
    (below : ∀ i, k.awaits i = true → (s.sensor i).mode = .active ∧ countInc255 (s.sensor i).missCount < (s.sensor i).config.kMiss
      ∧ (s.sensor i).config.policy = .omit)
    (only : s.cal.tallies = [y]) (own : y.bank = k.bank) (serial : y.serial = s.cal.serial) (running : s.cal.running = true)
    (phase : s.cal.phase = some (if pull then .pull else .push)) (named : s.cal.records[s.cal.entry]? = some r)
    (few : s.cal.voids + 1 < 9) (lacks : ∃ e ∈ s.cal.sensors, k.awaits e.1 = true) :
    ∃ t, exec (.deadlineExpiry k.bank) s = .next t ∧ t.law = s.law ∧ t.cal = ({ s.cal with tallies := [] } : Calibration).voided r := by
  have bound := State.cycleAt_singleton one rfl
  let missed := s.allMissedIn k.bank k y allSensors
  let closed := missed.closed k.bank k .deadline
  have missed_cycles : missed.cyc.cycles = [{ k with settlement := k.missedOf allSensors k.settlement }] := State.cycles_updCycle one rfl _
  have closes : s.closeWithMisses k.bank .deadline = closed.judgeTally k.bank false := by
    unfold State.closeWithMisses
    rw [State.foldl_markMissed_marked bound marked only own below allSensors (by decide)]
    exact State.close_marked (s := missed) (k := { k with settlement := k.missedOf allSensors k.settlement })
      (State.cycleAt_allMissed bound allSensors) marked .deadline
  have void : closed.cal.tallyVoid (y.missedOf s.cal k allSensors) = true := by
    obtain ⟨e, listed, waits⟩ := lacks
    refine (Calibration.tallyVoid_iff _ _).2 ⟨e, listed, fun l slopes => ?_⟩
    have missing : (y.missedOf s.cal k allSensors).entries[e.1] = .miss := by
      simp [Tally.missedOf, mem_allSensors, waits, tallyEntry_none listed]
    rw [missing] at slopes
    exact TallyEntry.noConfusion slopes
  have judged : closed.judgeTally k.bank false = { closed.untallied with cal := ({ s.cal with tallies := [] } : Calibration).voided r } :=
    (State.judgeTally_void (s := closed) (y := y.missedOf s.cal k allSensors) rfl own serial
      (Calibration.measuring_of_phase running phase) (.inr void)).trans (State.countVoidCycle_few (s := closed.untallied) named few)
  let u := closed.judgeTally k.bank false
  have cyc : u.cyc = closed.cyc := by rw [show u = _ from judged]; rfl
  have calm : (u.settle .nothing).EndsAt u := by
    refine State.endsAt_of_calm ?_ ?_
    · rw [cyc]
      exact reoffer
    · refine State.canPass_of_jobs (k := { k with
        state := .draining, deadline := none, closeReason := some .deadline, settlement := k.missedOf allSensors k.settlement }) (rest := []) ?_ jobs_left
      rw [cyc]
      exact State.cycles_closed (s := missed) (k := { k with settlement := k.missedOf allSensors k.settlement }) missed_cycles k .deadline
  refine ⟨u.settle .nothing, ?_, ?_, ?_⟩
  · change execDeadlineExpiry k.bank s = _
    unfold execDeadlineExpiry
    simp only [bound, opened, Option.isSome_iff_ne_none.2 timed, Bool.and_self, if_true, closes]
    rfl
  · rw [calm.frame.2.2.2, show u = _ from judged]
    rfl
  · rw [calm.run.1, show u = _ from judged]

end

/-- Settles O47: the judgement by serial, voids and counts; abandonment by the cycle's state; the last frame and the deadline by the
close that judges; the foreign commit by the phase; the responses by the bounds of the rounding. -/
theorem calibrationTallies : Obligations.CalibrationTallies := by
  refine ⟨fun s y r pull only running phase named => ?judged, fun s k y atRest one marked live only own running => ?abandoned,
    fun s i b k y => ?last, fun s k y r pull one live acc timed marked jobs_left quiet below only own serial running phase named few lacks => ?deadline,
    fun s r named => ?commit, fun s i n j listed small some_cycles => ?responses⟩
  case judged =>
    intro t lacks sums added
    have measuring := Calibration.measuring_of_phase running phase
    have named' : s.untallied.cal.records[s.untallied.cal.entry]? = some r := named
    have counts (serial : y.serial = s.cal.serial) (whole : ¬ lacks) : t = s.untallied.countCycle y := by
      refine State.judgeTally_counts only rfl serial measuring ?_
      rw [Bool.eq_false_iff]
      exact fun void => whole ((Calibration.tallyVoid_iff _ _).1 void)
    refine ⟨fun stale => ?_, fun serial void few => ?_, fun serial void eight => ?_, fun serial whole settling => ?_,
      fun serial whole settled few => ?_, fun serial whole settled full => ?_⟩
    · exact State.judgeTally_dropped only rfl false (.inl stale)
    · have t_eq : t = s.untallied.countVoidCycle :=
        State.judgeTally_void only rfl serial measuring (.inr ((Calibration.tallyVoid_iff _ _).2 void))
      rw [t_eq, State.countVoidCycle_few named' few, Calibration.voided_phase (c := s.untallied.cal) phase]
      rfl
    · have t_eq : t = s.untallied.countVoidCycle :=
        State.judgeTally_void only rfl serial measuring (.inr ((Calibration.tallyVoid_iff _ _).2 void))
      rw [t_eq, State.countVoidCycle_ninth named' eight]
      exact State.ended_endRun _ .missing
    · rw [counts serial whole, State.countCycle_settles (s := s.untallied) settling]
      rfl
    · have t_eq := (counts serial whole).trans (State.countCycle_measures (s := s.untallied) settled few y)
      cases pull with
      | false =>
        rw [Calibration.measured_push (c := s.untallied.cal) phase] at t_eq
        refine ⟨fun i j => ?_, ?_, ?_⟩
        · change vget t.cal.push[i] j = vget s.cal.push[i] j + _
          rw [t_eq]
          exact y.vget_addedTo s.cal.push i j
        · rw [t_eq]
          rfl
        · rw [t_eq]
          rfl
      | true =>
        rw [Calibration.measured_pull (c := s.untallied.cal) phase] at t_eq
        refine ⟨fun i j => ?_, ?_, ?_⟩
        · change vget t.cal.pull[i] j = vget s.cal.pull[i] j + _
          rw [t_eq]
          exact y.vget_addedTo s.cal.pull i j
        · rw [t_eq]
          rfl
        · rw [t_eq]
          rfl
    · have t_eq := (counts serial whole).trans (State.countCycle_ends (s := s.untallied) settled full y)
      cases pull with
      | false =>
        let m : State := { s with cal := { s.cal with tallies := [], measure := s.cal.measure + 1, push := y.addedTo s.cal.push } }
        have named_m : m.cal.records[m.cal.entry]? = some r := named
        have t_eq : t = m.phaseCommit .pull := by
          rw [t_eq, Calibration.measured_push (c := s.untallied.cal) phase]
          exact State.endPhase_push (s := m) phase
        obtain ⟨intake, cyc, mem, recon, loop, mon, link⟩ := State.phaseCommit_frame (phase := .pull) named_m
        have cal := State.cal_phaseCommit (phase := .pull) named_m
        have law := State.law_phaseCommit (phase := .pull) named_m
        have links := State.driveLink_phaseCommit (phase := .pull) named_m
        rw [← t_eq] at intake cyc mem recon loop mon link cal law links
        have push : t.cal.push = y.addedTo s.cal.push := by rw [cal]; rfl
        refine ⟨fun i j => ?_, fun _ => ⟨?_, law, links, mem⟩, fun h => absurd h Bool.false_ne_true, intake, cyc, recon, loop, mon, link⟩
        · change vget t.cal.push[i] j = vget s.cal.push[i] j + _
          rw [push]
          exact y.vget_addedTo s.cal.push i j
        · rw [push]
          exact cal
      | true =>
        let m : State := { s with cal := { s.cal with tallies := [], measure := s.cal.measure + 1, pull := y.addedTo s.cal.pull } }
        let stored : State := { m with cal := { m.cal with phase := some .storing, storing := m.cal.sensors.map Prod.fst } }
        have t_eq : t = stored.request .calibration := by
          rw [t_eq, Calibration.measured_pull (c := s.untallied.cal) phase]
          exact State.endPhase_pull (s := m) phase
        obtain ⟨a, asked⟩ := stored.request_eq .calibration
        have waits := stored.mem_waiting_request .calibration
        rw [← t_eq] at asked waits
        refine ⟨fun i j => ?_, fun h => absurd h.symm Bool.false_ne_true,
          fun _ => ⟨?_, congrArg (·.law) asked, congrArg (·.drive) asked, waits⟩, congrArg (·.intake) asked, congrArg (·.cyc) asked,
          congrArg (·.recon) asked, congrArg (·.loop) asked, congrArg (·.mon) asked, congrArg (·.link) asked⟩
        · change vget t.cal.pull[i] j = vget s.cal.pull[i] j + _
          rw [asked]
          exact y.vget_addedTo s.cal.pull i j
        · rw [asked]
          rfl
  case abandoned =>
    intro t
    have bound := State.cycleAt_singleton one rfl
    let o := s.abandonedOpen k.bank k
    have abandons (acc : k.state = .accumulating) : t = if atRest then o.dropTally k.bank else o.judgeTally k.bank true :=
      State.abandon_marked bound live acc marked atRest
    refine ⟨fun acc which => ?_, fun r pull acc in_open serial phase named => ?_, fun draining => ?_, fun in_law none_deferred => ?_⟩
    · have dropped : t = o.untallied := by
        cases atRest with
        | true => exact (abandons acc).trans (State.dropTally_only (s := o) only own)
        | false =>
          refine (abandons acc).trans (State.judgeTally_dropped (s := o) only own true ?_)
          rcases which with rest | stale | storing
          · exact absurd rest Bool.false_ne_true
          · exact .inl stale
          · refine .inr ?_
            change s.cal.measuring = false
            simp [Calibration.measuring, storing]
      rw [dropped]
      exact ⟨rfl, rfl⟩
    · have named' : o.untallied.cal.records[o.untallied.cal.entry]? = some r := named
      have voids : t = o.untallied.countVoidCycle := by
        rw [abandons acc, in_open]
        exact State.judgeTally_void (s := o) only own serial (Calibration.measuring_of_phase running phase) (.inl rfl)
      refine ⟨fun few => ?_, fun eight => ?_⟩
      · rw [voids, State.countVoidCycle_few named' few, Calibration.voided_phase (c := o.untallied.cal) phase]
        exact ⟨rfl, rfl⟩
      · rw [voids, State.countVoidCycle_ninth named' eight]
        obtain ⟨stopped, reason, -, poke, pending⟩ := State.ended_endRun { o.untallied with cal := o.untallied.cal.voided r } .missing
        exact ⟨stopped, reason, poke, pending⟩
    · have t_eq : t = s.abandonedFirst k.bank := State.abandon_draining bound live draining
      rw [t_eq]
      exact ⟨rfl, rfl⟩
    · have t_eq : t = (s.abandonedFirst k.bank).discardLaw k.bank := State.abandon_in_law bound live in_law
      rw [t_eq, State.discardLaw, State.applyDeferred_of_none
        (s := { s.abandonedFirst k.bank with law := { (s.abandonedFirst k.bank).law with inProgress := none } }) none_deferred]
      rfl
  case last =>
    intro x slopes active empty at_open plain no_fx quiet one opened own awaited alone jobs_left _ marked only bound listed fits _ handed
    obtain ⟨good, content, flags, seen, untested⟩ := (s.plainFrame_iff i b).1 plain
    obtain ⟨n, named⟩ := listed
    let f := frameOf b
    have f_slopes : f.slopes = rdS16s b 6 (2 * x.config.nSub) := congrArg Frame.slopes (frameOf_open good seen)
    have used : x.slopesUnused f = false := by
      rw [Bool.eq_false_iff]
      intro unused
      rcases (x.slopesUnused_iff f).1 unused with shut | ⟨set, -⟩
      · exact Bool.false_ne_true (seen.symm.trans shut)
      · exact Bool.false_ne_true (no_fx.symm.trans set)
    have opens : s.loop.state.closedToCycles = false := by rw [at_open]; rfl
    obtain ⟨u, ends, twin, states⟩ := State.settle_hands (f := f) quiet opens active used one opened own awaited marked alone jobs_left only
      bound named (by rw [f_slopes]; exact fits)
    rw [f_slopes] at twin
    obtain ⟨cyc, -, -, law⟩ := ends.frame
    obtain ⟨cal, drive⟩ := ends.run
    refine ⟨_, exec_sensorFrameArrival_of_active active empty plain quiet, cal.trans twin.cal, law.trans twin.law, drive.trans twin.drive, ?_⟩
    rw [cyc]
    exact states
  case deadline =>
    obtain ⟨reoffer, -, -⟩ := (State.quiet_iff s).1 quiet
    obtain ⟨t, runs, law, cal⟩ := exec_deadlineExpiry_marked one ((k.isOpen_iff).2 ⟨live, acc⟩) timed marked jobs_left reoffer
      (fun i waits => by
        obtain ⟨active, few, bounded, policy⟩ := below i waits
        exact ⟨active, (show countInc255 (s.sensor i).missCount = (s.sensor i).missCount + 1 from if_pos bounded).symm ▸ few, policy⟩)
      only own serial running phase named few lacks
    rw [Calibration.voided_phase (c := { s.cal with tallies := [] }) phase] at cal
    exact ⟨t, runs, law, cal⟩
  case commit =>
    intro t u
    have named' : u.cal.records[u.cal.entry]? = some r := named
    have frame : t = { u with cal := t.cal } := u.foreignCommit_eq
    refine ⟨fun still => ?_, fun running push => State.foreignCommit_push (s := u) running push named',
      fun running pull => State.foreignCommit_pull (s := u) running pull named', congrArg (·.law) frame, congrArg (·.drive) frame, congrArg (·.loop) frame, congrArg (·.link) frame⟩
    · refine State.foreignCommit_of_not_measuring (s := u) ?_
      change s.cal.measuring = false
      rcases still with idle | storing
      · exact Calibration.measuring_of_not_running idle
      · simp [Calibration.measuring, storing]
  case responses =>
    intro m diff x
    have responses : s.responsesOf i = (List.range (2 * n)).map fun j => roundHalfUpTwice (vget s.cal.push[i] j - vget s.cal.pull[i] j) s.cal.nM := by
      unfold State.responsesOf
      rw [listed]
      rfl
    have x_eq : x = roundHalfUpTwice diff s.cal.nM := by
      simp only [x]
      rw [responses, vget_map_range, if_pos small]
    obtain ⟨low, high⟩ := roundHalfUpTwice_bounds some_cycles diff
    rw [x_eq]
    exact ⟨by simp [responses], low, high, fun least most => roundHalfUpTwice_range some_cycles least most⟩

end Sys2Proof.Machine
